-- ==== Sys2Proof/Word.lean ====
section
/-! DEFINITION. The word types of the Skadil PF24: what the manual treats as bits (R20, R21, R42,
R145) is a bit vector; a number that only names one of a fixed number of things is a `Fin`. -/

namespace Sys2Proof

/-- One byte of host data, of a fabric frame or of a management frame. -/
abbrev Byte := BitVec 8

/-- A stream sequence: 12 bits, counting modulo 4096 (R20). -/
abbrev Seq := BitVec 12

/-- A stream epoch: 4 bits, compared for equality only (R20). -/
abbrev Epoch := BitVec 4

/-- A fabric node number, 0 to 4095 (R42). -/
abbrev Node := BitVec 12

/-- A 48-bit inventory or endpoint address (R1, R21). -/
abbrev Addr := BitVec 48

/-- A host tag, 0 to 255 (R1). -/
abbrev HostTag := BitVec 8

/-- One of the 64 streams (R18). -/
abbrev StreamId := Fin 64

/-- The index of one of the 256 entries of the outstanding-transaction table (R21). -/
abbrev EntryIx := Fin 256

/-- The index of one of the 64 hold slots (R24). -/
abbrev SlotIx := Fin 64

/-- The index of one of the 1,024 data blocks (R23). -/
abbrev BlockIx := Fin 1024

/-- The index of one of the 32 route table entries (R12). -/
abbrev RouteIx := Fin 32

/-- Microseconds elapsed since power-on, never wrapping (log entry 1). -/
abbrev Micros := Nat

end Sys2Proof
end

