-- ==== Sys2Proof/Config.lean ====
section
/-! DEFINITION. What this implementation fixes: the capacities of its memories and the identity it
reports. The manual fixes every one of them, and no value of this hardware is left free. -/

namespace Sys2Proof.Config

/-- Slots of the intake queue, and the credits a free queue stands for (R3, R4). -/
def intakeSlots : Nat := 32

/-- Entries the event log holds (R145). -/
def logEntries : Nat := 32

/-- Bytes of one data block (R23). -/
def blockBytes : Nat := 64

/-- The vendor code IDNT returns (R176). -/
def vendorCode : BitVec 16 := 0x7A4E#16

/-- The part code IDNT returns (R176). -/
def partCode : BitVec 16 := 0x0F24#16

/-- The revision IDNT returns (R176). -/
def revision : Byte := 0x03#8

/-- The lane count IDNT returns (R176). -/
def laneCount : Byte := 0x04#8

end Sys2Proof.Config
end

