-- ==== Sys2Proof/Syntax.lean ====
section
/-! DEFINITION. The commands and events of the part, one constructor of `Instr` for each row of
spec/opcode_table.json, with the data each carries: a host record, a received frame, the finding of
a memory check, or the operand bytes of a management frame. -/

namespace Sys2Proof

/-- The four fabric lanes (R65). -/
inductive Lane where
  | a0 | a1 | b0 | b1
  deriving DecidableEq, Repr

/-- The two sides; side A has lanes A0 and A1, side B has B0 and B1 (R65). -/
inductive Side where
  | a | b
  deriving DecidableEq, Repr

/-- The partner state code of BEAT and BASE PAGE frames (R42, R59, R184). -/
inductive PartnerState where
  | ok | linkFail | offline | configError
  deriving DecidableEq, Repr

/-- The kind of a frame; `other` is a kind code outside the ten (R42, R45, R184). -/
inductive FrameKind where
  | request | answer | ask | tell | gap | beat | page | test | pause | probe
  | other (code : BitVec 4)
  deriving DecidableEq, Repr

/-- The kinds of good frame that an UNEXPECTED_FRAME event carries (R45). -/
inductive UnexpectedKind where
  | request | ask | probe
  | other (code : BitVec 4)
  deriving DecidableEq, Repr

/-- The fields of the 20-byte fabric header other than the kind (R42, R184). -/
structure Header where
  markValid : Bool
  fresh : Bool
  poison : Bool
  reflect : Bool
  source : Node
  epoch : Epoch
  destination : Node
  /-- The op of a REQUEST (1 READ, 2 WRITE, 3 SWAP) or the status of an ANSWER. -/
  op : BitVec 4
  stream : StreamId
  partner : PartnerState
  seq : Seq
  toggle : Bool
  ack : Bool
  /-- 0 BASE, 1 NEXT; 2 and 3 name no page kind. -/
  pageKind : BitVec 2
  mark : Seq
  lengthCode : BitVec 6
  recallDepth : BitVec 6
  rejections : BitVec 8
  address : Addr
  pause : BitVec 16
  deriving DecidableEq, Repr

/-- A frame on a lane, without its 4-byte check (R42). -/
structure Frame where
  kind : FrameKind
  header : Header
  payload : List Byte
  deriving DecidableEq, Repr

/-- A host request record as it arrives whole at the host request port (R1, R183). -/
structure HostRecord where
  /-- 01h READ, 02h WRITE, 03h SWAP; any other code is BAD_KIND (R8, R183). -/
  kind : Byte
  tag : HostTag
  length : BitVec 16
  address : Addr
  data : List Byte
  deriving DecidableEq, Repr

/-- The result of checking a data block at a read (R166); an uncorrectable block keeps its contents
as read (R168), which the event brings. -/
inductive BlockCheck where
  | clean
  | corrected
  | uncorrectable (asRead : List Byte)
  deriving DecidableEq, Repr

/-- The result of checking an OTT entry at a read (R166). -/
inductive EntryCheck where
  | clean
  | corrected
  | uncorrectable
  deriving DecidableEq, Repr

/-- The result of checking a stream record at a read (R166); after an uncorrectable error the epoch,
the next sequence and the write rejections seen keep the values read (R170), which the event
brings. -/
inductive RecordCheck where
  | clean
  | corrected
  | uncorrectable (epoch : Epoch) (nextSeq : Seq) (rejections : BitVec 8)
  deriving DecidableEq, Repr

/-- An item read and what its check found (R166, R167). -/
inductive ItemCheck where
  | record (n : StreamId) (found : RecordCheck)
  | entry (i : EntryIx) (found : EntryCheck)
  | block (b : BlockIx) (found : BlockCheck)
  deriving DecidableEq, Repr

/-- Who reads an item whose check is taken as an event of its own: the patrol, or ordinary use (R166, R167). -/
inductive Reader where
  | patrol | use
  deriving DecidableEq, Repr

/-- One checked read: who read, and the item with what its check found (R166, R167). -/
structure PatrolRead where
  reader : Reader
  check : ItemCheck
  deriving DecidableEq, Repr

/-- The weights the stream engine reports against a lane (R90, R91). -/
inductive ReportCause where
  | sequenceBreak | resumeTimeout | deadlineMiss
  deriving DecidableEq, Repr

/-- The commands and events of the part: one constructor per row of spec/opcode_table.json. Operands
of management commands are the raw operand bytes of R175 to R181, most significant byte first, so
that a field outside its encoding can be refused as R174 says. -/
inductive Instr where
  /-- POWER_ON (R15, R173): the three address pins are sampled. -/
  | powerOn (pins : BitVec 3)
  /-- INIT_DONE (R166). -/
  | initDone
  /-- HOST_REQUEST (R1). -/
  | hostRequest (record : HostRecord)
  /-- INTAKE_CHECKS (R6). -/
  | intakeChecks
  /-- HOST_LINK_RESET (R16). -/
  | hostLinkReset
  /-- HOST_LINK_UP (R16). -/
  | hostLinkUp
  /-- FRAME_DEPARTURE (R68): `reads` are the checks of the data blocks a REQUEST's departure reads,
  in byte order (R169); a block without one is clean. -/
  | frameDeparture (lane : Lane) (reads : List BlockCheck)
  /-- BAD_FRAME (R44). -/
  | badFrame (lane : Lane) (violation : Bool)
  /-- UNEXPECTED_FRAME (R45). -/
  | unexpectedFrame (lane : Lane) (kind : UnexpectedKind) (header : Header) (payload : List Byte) (violation : Bool)
  /-- FRAME_IN_OFF (R64). -/
  | frameInOff (lane : Lane) (frame : Frame) (violation : Bool)
  /-- RECEIVE_ANSWER (R30). -/
  | receiveAnswer (lane : Lane) (header : Header) (payload : List Byte) (violation : Bool)
  /-- RECEIVE_TELL (R117). -/
  | receiveTell (lane : Lane) (header : Header) (payload : List Byte) (violation : Bool)
  /-- RECEIVE_GAP (R123). -/
  | receiveGap (lane : Lane) (header : Header) (payload : List Byte) (violation : Bool)
  /-- RECEIVE_BEAT (R79). -/
  | receiveBeat (lane : Lane) (header : Header) (payload : List Byte) (violation : Bool)
  /-- RECEIVE_BASE_PAGE (R72): a PAGE whose page kind is not NEXT. -/
  | receiveBasePage (lane : Lane) (header : Header) (payload : List Byte) (violation : Bool)
  /-- RECEIVE_NEXT_PAGE (R73). -/
  | receiveNextPage (lane : Lane) (header : Header) (payload : List Byte) (violation : Bool)
  /-- RECEIVE_TEST_REFLECT (R62): a TEST frame with REFLECT set. -/
  | receiveTestReflect (lane : Lane) (header : Header) (payload : List Byte) (violation : Bool)
  /-- RECEIVE_TEST_RETURN (R77): a TEST frame with REFLECT clear. -/
  | receiveTestReturn (lane : Lane) (header : Header) (payload : List Byte) (violation : Bool)
  /-- RECEIVE_PAUSE (R69). -/
  | receivePause (lane : Lane) (header : Header) (payload : List Byte) (violation : Bool)
  /-- LINK_LOSS (R80). -/
  | linkLoss (lane : Lane)
  /-- PROBE_TIMER_EXPIRY (R71). -/
  | probeTimerExpiry (lane : Lane)
  /-- PAGE_TIMER_EXPIRY (R74). -/
  | pageTimerExpiry (lane : Lane)
  /-- QUALIFY_TIMER_EXPIRY (R77, R164). -/
  | qualifyTimerExpiry (lane : Lane)
  /-- BEAT_TIMER_EXPIRY (R70). -/
  | beatTimerExpiry (lane : Lane)
  /-- SILENCE_TIMER_EXPIRY (R78). -/
  | silenceTimerExpiry (lane : Lane)
  /-- STORM_PERIOD_EXPIRY (R81). -/
  | stormPeriodExpiry (lane : Lane)
  /-- HELD_TIMER_EXPIRY (R81). -/
  | heldTimerExpiry (lane : Lane)
  /-- HOLD_DOWN_EXPIRY (R82). -/
  | holdDownExpiry (lane : Lane)
  /-- PAUSE_EXPIRY (R69). -/
  | pauseExpiry (lane : Lane)
  /-- LEAK_TICK (R93). -/
  | leakTick
  /-- DISTRESS_WEIGHT (R91). -/
  | distressWeight (lane : Lane) (cause : ReportCause)
  /-- STORM_REPORT (R81). -/
  | stormReport (lane : Lane)
  /-- LATENCY_SAMPLE (R99): the sample in whole µs, capped at 65535. -/
  | latencySample (lane : Lane) (sample : BitVec 16)
  /-- DEADLINE_EXPIRY (R38): the deadline of the stream's entry at a sequence. -/
  | deadlineExpiry (stream : StreamId) (seq : Seq)
  /-- ASK_ATTEMPT_EXPIRY (R116). -/
  | askAttemptExpiry (stream : StreamId)
  /-- STALL_DEADLINE_EXPIRY (R127). -/
  | stallDeadlineExpiry (stream : StreamId)
  /-- MOVE_ABANDONED (R136): a MANUAL or RETURN drain deadline expires. -/
  | moveAbandoned (stream : StreamId)
  /-- MOVE_FORCED (R137): a LEAVING drain deadline expires. -/
  | moveForced (stream : StreamId)
  /-- RETURN_TIMER_EXPIRY (R142). -/
  | returnTimerExpiry (stream : StreamId)
  /-- SUSPECT_EXPIRY (R105). -/
  | suspectExpiry (side : Side)
  /-- PATROL_CHECK (R167): a read of one item and what its check found, by the patrol or in ordinary use (R166). -/
  | patrolCheck (read : PatrolRead)
  /-- PATROL_PASS_END (R172). -/
  | patrolPassEnd
  /-- IDNT (R176). -/
  | idnt
  /-- STAT (R176). -/
  | stat
  /-- RTWR (R13, R177). -/
  | rtwr (index : Byte) (base : BitVec 48) (units : BitVec 40) (target : BitVec 48) (node : BitVec 16)
      (stream preferred policy access : Byte)
  /-- RTRD (R177). -/
  | rtrd (index : Byte)
  /-- RTCL (R14, R177). -/
  | rtcl (index : Byte)
  /-- SMRD (R178); `found` is what the read of the stream record found (R170). -/
  | smrd (stream : Byte) (found : RecordCheck)
  /-- SMOV (R133). -/
  | smov (stream target : Byte)
  /-- SRST (R130). -/
  | srst (stream : Byte)
  /-- LNRD (R179). -/
  | lnrd (lane : Byte)
  /-- LNCT ENABLE (R84). -/
  | enable (lane : Byte)
  /-- LNCT DISABLE (R84). -/
  | disable (lane : Byte)
  /-- LNCT RESTART (R87). -/
  | restart (lane : Byte)
  /-- LNCT PIN_OUT (R85). -/
  | pinOut (lane : Byte)
  /-- LNCT PIN_KEEP (R86). -/
  | pinKeep (lane : Byte)
  /-- LNCT UNPIN (R86). -/
  | unpin (lane : Byte)
  /-- DGLP (R163). -/
  | dglp (lane setting : Byte)
  /-- DGPT (R165). -/
  | dgpt (lane : Byte) (frames : BitVec 16)
  /-- PMWR (R180): the parameter id and the value bytes. -/
  | pmwr (id : Byte) (value : List Byte)
  /-- PMRD (R180). -/
  | pmrd (id : Byte)
  /-- EVPK (R151). -/
  | evpk
  /-- EVPP (R151). -/
  | evpp
  /-- EVCL (R151). -/
  | evcl
  /-- CTRD (R160). -/
  | ctrd (first : BitVec 16) (number clear : Byte)
  /-- QSCE (R143). -/
  | qsce
  /-- RLSE (R144). -/
  | rlse
  /-- LVRS (R172). -/
  | lvrs
  /-- SVRS (R182). -/
  | svrs
  /-- BAD_COMMAND (R174): a management write whose frame R174 refuses. -/
  | badCommand (frame : List Byte)
  deriving DecidableEq, Repr

end Sys2Proof
end

