-- ==== Sys2Proof/Decode.lean ====
section
/-! DEFINITION. The decoding of a table word. The command table gives no row any bits: no word spells a
command, and the commands come from outside through the part's ports (R1, R44, R173). The bytes of
management frames and lane frames are read in Machine/Frontend.lean. -/

namespace Sys2Proof

/-- The command that a word spells by the table's bits: none, since the table gives no bits. -/
def decodeTableWord (_nbits _w : Nat) : Option Instr := none

end Sys2Proof
end

