-- ==== Sys2Proof/Machine/State.lean ====
section
/-! DEFINITION. The state of the part: every record, table, list, timer and flag the manual gives it,
as plain data, and the values they take at power-on. `Part` is the part itself, block by block as
the manual's table of blocks lists them; `State` adds the queue of waiting commands. A timer is
`none` while stopped and `some t` while it runs toward the elapsed time `t`. -/

namespace Sys2Proof.Machine

/-- No command of this part ends in a fault: every rule gives each event its effect. The type is
closed and empty, so a fault cannot be raised (safe). -/
inductive Fault where
  deriving DecidableEq, Repr

/-- Why a command has no meaning. -/
inductive Refusal where
  /-- Raised by `exec` alone, for a command that has no meaning yet (safe: nothing is claimed of it). -/
  | notModelled (mnemonic : String)
  deriving DecidableEq, Repr

/-! ### Intake unit (chapter 1) -/

/-- The service state (R15). -/
inductive ServiceState where
  | init | running | quiescing | quiesced | restricted
  deriving DecidableEq, Repr

/-- The kind of an accepted request (R1). -/
inductive ReqKind where
  | read | write | swap
  deriving DecidableEq, Repr

/-- The side policy of a route and of a stream (R12, R18); `returning` is RETURN. -/
inductive Policy where
  | sticky | returning
  deriving DecidableEq, Repr

/-- The access of a route (R12). -/
inductive Access where
  | readWrite | readOnly
  deriving DecidableEq, Repr

/-- One route table entry (R12); `units` is the size in units of 4 KiB. -/
structure Route where
  valid : Bool
  base : Addr
  units : Nat
  target : Addr
  node : Node
  stream : StreamId
  preferred : Lane
  policy : Policy
  access : Access
  deriving DecidableEq, Repr

/-- The invalid route, every field zero (R12, R14). -/
def Route.empty : Route :=
  { valid := false, base := 0, units := 0, target := 0, node := 0, stream := 0, preferred := .a0,
    policy := .sticky, access := .readWrite }

/-- An open drop tally (R7): the key is a FAULTED stream, or `none` for RESTRICTED. -/
structure Tally where
  key : Option StreamId
  count : Nat
  deriving DecidableEq, Repr

/-- The intake unit (R3 to R17). -/
structure Intake where
  /-- Oldest request at the head (R4). -/
  queue : List HostRecord
  /-- Credits offered and not yet used (R3). -/
  credits : Nat
  /-- Whether the host link is up (R3, R16). -/
  linkUp : Bool
  /-- Whether INTAKE_WAITS has counted the present head (R159). -/
  headWaited : Bool
  openTags : Vector Bool 256
  routes : Vector Route 32
  service : ServiceState
  tally : Option Tally
  /-- The time of the QSCE; it means nothing outside QUIESCING (R143, R144). -/
  quiesceAt : Micros
  deriving DecidableEq, Repr

/-- The status of a completion (R2). -/
inductive CompletionStatus where
  | ok | malformed | unrouted | denied | pathLost | outcomeUnknown | endpointError | poisoned
  | restricted | restarted
  deriving DecidableEq, Repr

/-- A completion record as handed to the host request port (R2). -/
structure Completion where
  tag : HostTag
  status : CompletionStatus
  data : List Byte
  deriving DecidableEq, Repr

/-! ### Stream engine (chapters 2, 7 and 8) -/

/-- The state of a stream (R18, R19). -/
inductive StreamState where
  | idle | binding | replaying | bound | draining | stalled | faulted
  deriving DecidableEq, Repr

/-- The phase of an OTT entry (R21). -/
inductive Phase where
  | queued | sent
  deriving DecidableEq, Repr

/-- The fate copy kept beside an OTT entry's checked fields (R166). -/
structure Fate where
  stream : StreamId
  kind : ReqKind
  tag : Option HostTag
  transmitted : Bool
  deriving DecidableEq, Repr

/-- An OTT entry in use (R21). It stands on the in-flight list of its stream; `index` is its place in
the table. -/
structure OttEntry where
  index : EntryIx
  stream : StreamId
  seq : Seq
  kind : ReqKind
  tag : Option HostTag
  address : Addr
  length : Nat
  blocks : List BlockIx
  phase : Phase
  transmissions : Nat
  transmitTime : Option Micros
  deadline : Option Micros
  poisoned : Bool
  fate : Fate
  deriving DecidableEq, Repr

/-- A request that has passed the intake checks, as it is dispatched or held (R11, R24). -/
structure Work where
  tag : HostTag
  kind : ReqKind
  address : Addr
  length : Nat
  blocks : List BlockIx
  poisoned : Bool
  deriving DecidableEq, Repr

/-- A held request in its hold slot (R24). -/
structure Held where
  slot : SlotIx
  stream : StreamId
  work : Work
  deriving DecidableEq, Repr

/-- The owner a data block's owner mark names (R166). -/
inductive Owner where
  | slot (i : SlotIx)
  | entry (i : EntryIx)
  deriving DecidableEq, Repr

/-- The cause of a planned move (R131). -/
inductive MoveCause where
  | manual | returning | leaving
  deriving DecidableEq, Repr

/-- The drain deadline of a pending move (R131). -/
inductive Drain where
  | absent
  | running (expiry : Micros)
  | stopped (remaining : Micros)
  deriving DecidableEq, Repr

/-- A pending move (R131), with the lane being left (R108, R131). -/
structure Move where
  target : Option Lane
  cause : MoveCause
  drain : Drain
  left : Lane
  deriving DecidableEq, Repr

/-- The distinguished and the excluded lane of a binding (R108). -/
structure BindingKind where
  distinguished : Option Lane
  excluded : Option Lane
  deriving DecidableEq, Repr

/-- A set of lanes: the tried set (R110). -/
structure LaneSet where
  a0 : Bool
  a1 : Bool
  b0 : Bool
  b1 : Bool
  deriving DecidableEq, Repr

/-- The empty set of lanes. -/
def LaneSet.empty : LaneSet := ⟨false, false, false, false⟩

/-- One stream record (R18). The stream number is its index in `Engine.streams`. -/
structure StreamRec where
  state : StreamState
  node : Node
  preferred : Lane
  policy : Policy
  carrier : Option Lane
  epoch : Epoch
  nextSeq : Seq
  mark : Option Seq
  recallDepth : Option (BitVec 6)
  swapLimit : Nat
  /-- In-flight list, in sequence order. -/
  inflight : List OttEntry
  /-- Hold list, oldest at the head. -/
  hold : List Held
  askAttempts : Nat
  /-- The ASK attempt timer (R116). -/
  askTimer : Option Micros
  /-- The lanes of the binding in progress, kept for a choice made again (R108, R116). -/
  binding : BindingKind
  tried : LaneSet
  stallDeadline : Option Micros
  move : Option Move
  returnTimer : Option Micros
  rejections : BitVec 8
  deriving DecidableEq, Repr

/-- The record of a stream at power-on (R18). -/
def StreamRec.powerOn : StreamRec :=
  { state := .idle, node := 0, preferred := .a0, policy := .sticky, carrier := none, epoch := 0,
    nextSeq := 0, mark := none, recallDepth := none, swapLimit := 16, inflight := [], hold := [],
    askAttempts := 0, askTimer := none, binding := ⟨none, none⟩, tried := .empty,
    stallDeadline := none, move := none, returnTimer := none, rejections := 0 }

/-- The contents of the data buffer: bytes by address, `64 * block + offset`, in canonical form
(addresses strictly rising, no byte equal to what an unlisted address reads as). -/
abbrev Memory := List Host.Cell

/-- The stream engine (R18 to R41). -/
structure Engine where
  streams : Vector StreamRec 64
  /-- Free OTT entries; the next dispatch takes the first (log entry 7). -/
  freeEntries : List EntryIx
  /-- Free hold slots; the next hold takes the first (log entry 7). -/
  freeSlots : List SlotIx
  /-- The pool of free data blocks (R23); the next request takes the first ones (log entry 7). -/
  freeBlocks : List BlockIx
  /-- The owner mark of each data block in use (R166). -/
  owners : Vector (Option Owner) 1024
  buffer : Memory
  /-- The arbiter's last stream served (R28). -/
  lastServed : StreamId
  deriving DecidableEq, Repr

/-! ### Lane units (chapters 4, 5 and 10) -/

/-- The state of a lane, in the order of R65. -/
inductive LaneState where
  | off | quiet | training | qualify | active | degraded | held | down
  deriving DecidableEq, Repr

/-- Why a lane is in OFF (R65, R83). -/
inductive OffReason where
  | disabled | retired | mismatch
  deriving DecidableEq, Repr

/-- The pin of a lane (R65, R85, R86). -/
inductive Pin where
  | unpinned | out | keep
  deriving DecidableEq, Repr

/-- The fields of a BASE page (R60), the side as its raw byte (R184). The same fields are the partner
page data of a lane (R65). -/
structure BasePage where
  side : Byte
  port : Byte
  maxPayload : BitVec 16
  resume : Bool
  partner : PartnerState
  deriving DecidableEq, Repr

/-- The training progress of a lane (R65, R72 to R74). -/
structure Training where
  /-- Phase NEXT when set, phase BASE when clear. -/
  next : Bool
  ownAck : Bool
  seen : Nat
  last : Option BasePage
  toggle : Bool
  resends : Nat
  deriving DecidableEq, Repr

/-- The timers of a lane (R65). -/
structure Timers where
  probe : Option Micros
  page : Option Micros
  qualify : Option Micros
  held : Option Micros
  holdDown : Option Micros
  beat : Option Micros
  silence : Option Micros
  storm : Option Micros
  pause : Option Micros
  deriving DecidableEq, Repr

/-- Every lane timer stopped (R66). -/
def Timers.stopped : Timers := ⟨none, none, none, none, none, none, none, none, none⟩

/-- The owner of a running pattern burst (R164). -/
inductive BurstOwner where
  | qualify | diagnostic
  deriving DecidableEq, Repr

/-- A running pattern burst (R164); its error bytes stand in the lane record. -/
structure Burst where
  owner : BurstOwner
  length : Nat
  sent : Nat
  compared : Nat
  deriving DecidableEq, Repr

/-- One lane record (R65). The lane and its wired side are its index in `Lanes`. -/
structure LaneRec where
  state : LaneState
  offReason : Option OffReason
  pin : Pin
  suppressed : Bool
  partnerLeaving : Bool
  restartPending : Bool
  figure : Nat
  latency : Nat
  page : Option BasePage
  requalify : Nat
  storm : Nat
  training : Training
  timers : Timers
  /-- Transmit queue, oldest first. A REQUEST frame takes its payload and its POISON flag as it
  leaves (R22). -/
  queue : List Frame
  errorBytes : Nat
  checker : Option Burst
  loopback : Bool
  /-- Frames in the near loopback path, oldest first (R163). -/
  loopPath : List Frame
  /-- The model's own field: every frame the lane has sent onto the cable, oldest first. -/
  cable : List Frame
  deriving DecidableEq, Repr

/-- The record of a lane at power-on (R65): the probe timer runs for 100 ms from the entry to QUIET. -/
def LaneRec.powerOn : LaneRec :=
  { state := .quiet, offReason := none, pin := .unpinned, suppressed := false,
    partnerLeaving := false, restartPending := false, figure := 0, latency := 100, page := none,
    requalify := 0, storm := 0,
    training := { next := false, ownAck := false, seen := 0, last := none, toggle := false, resends := 0 },
    timers := { Timers.stopped with probe := some 100000 },
    queue := [], errorBytes := 0, checker := none, loopback := false, loopPath := [], cable := [] }

/-- The four lane records. -/
structure Lanes where
  a0 : LaneRec
  a1 : LaneRec
  b0 : LaneRec
  b1 : LaneRec
  deriving DecidableEq, Repr

/-- A report of the stream engine on its way to a lane (R91, R124, R36). -/
inductive Report where
  | weight (lane : Lane) (cause : ReportCause)
  | storm (lane : Lane)
  | sample (lane : Lane) (us : BitVec 16)
  deriving DecidableEq, Repr

/-! ### Side monitor (chapter 6) -/

/-- The state of a side (R102). -/
inductive SideState where
  | up | impaired | lost
  deriving DecidableEq, Repr

/-- One side record (R102); `lastLoss0` and `lastLoss1` are the last loss times of its lanes of
index 0 and 1. -/
structure SideRec where
  state : SideState
  suspectUntil : Option Micros
  lastLoss0 : Option Micros
  lastLoss1 : Option Micros
  lostSince : Micros
  deriving DecidableEq, Repr

/-- A side record at power-on (R102). -/
def SideRec.powerOn : SideRec := ⟨.lost, none, none, none, 0⟩

/-- The two side records. -/
structure Sides where
  a : SideRec
  b : SideRec
  deriving DecidableEq, Repr

/-! ### Event log (chapter 9) -/

/-- The event kinds, in the order of their codes 01h to 21h (R181). -/
inductive EventKind where
  | laneUp | laneDegraded | laneDown | laneHeld | laneRetired | laneMismatch | laneReclaimed
  | laneTrainingFailed | laneRestarted | partnerOffline | pinSuppressed
  | sideLost | sideRestored | streamMigrated | streamRewound | streamStalled | streamPathLost
  | streamFaulted | outcomeUnknown | writeRejected | writeFateUnknown | writesDropped
  | moveDone | moveAbandoned | moveForced | unrouted | malformed | denied | quiesced
  | hostLinkReset | restrictedEntered | poisoned | counterHalf
  deriving DecidableEq, Repr

/-- One entry of the event log (R145). -/
structure LogEntry where
  number : BitVec 16
  kind : EventKind
  lane : Option Lane
  stream : Option StreamId
  detail : BitVec 16
  repeats : Nat
  time : BitVec 32
  deriving DecidableEq, Repr

/-- The event log (R145, R149). PRESENT and FULL follow from the entries. -/
structure EventLog where
  /-- Oldest at the head. -/
  entries : List LogEntry
  next : BitVec 16
  ever : Bool
  overflowed : Bool
  overflow : Nat
  deriving DecidableEq, Repr

/-- The event log at power-on (R154). -/
def EventLog.powerOn : EventLog := ⟨[], 0, false, false, 0⟩

/-! ### Parameters (R180) -/

/-- The parameters, in the order of their ids. BEAT_INTERVAL is held in units of 0.25 ms, HOLD_DOWN in
units of 10 ms and STALL_LIMIT in units of 100 ms, as they are written. -/
structure Params where
  beatInterval : Nat
  leak : Nat
  clearLevel : Nat
  warnLevel : Nat
  downLevel : Nat
  holdDown : Nat
  qualTolerance : Nat
  margin : Nat
  deadlineMin : Nat
  deadlineMax : Nat
  streamWindow : Nat
  stallLimit : Nat
  drainLimit : Nat
  suspectWindow : Nat
  returnDelay : Nat
  stormRewinds : Nat
  sourceNode : Node
  fabricIdentity : BitVec 32
  /-- Bit n stands for the event kind with code n. -/
  attentionSet : BitVec 64
  /-- Bit n stands for counter number n, in each of the three groups. -/
  halfPart : BitVec 32
  halfLane : BitVec 32
  halfStream : BitVec 32
  deriving DecidableEq, Repr

/-- The default ATTENTION_SET (R152): LANE_DOWN, LANE_RETIRED, LANE_MISMATCH, SIDE_LOST,
STREAM_STALLED, STREAM_PATH_LOST, STREAM_FAULTED, OUTCOME_UNKNOWN, WRITE_REJECTED,
WRITE_FATE_UNKNOWN, WRITES_DROPPED, QUIESCED, HOST_LINK_RESET, RESTRICTED_ENTERED and POISONED,
by their codes (R181). -/
def defaultAttention : BitVec 64 :=
  [0x03, 0x05, 0x06, 0x0C, 0x10, 0x11, 0x12, 0x13, 0x14, 0x15, 0x16, 0x1D, 0x1E, 0x1F, 0x20].foldl
    (fun acc n => acc ||| (1#64 <<< n)) 0

/-- The parameters at power-on: the defaults of R180. -/
def Params.powerOn : Params :=
  { beatInterval := 4, leak := 4, clearLevel := 64, warnLevel := 256, downLevel := 768,
    holdDown := 20, qualTolerance := 0, margin := 50, deadlineMin := 20, deadlineMax := 20000,
    streamWindow := 64, stallLimit := 20, drainLimit := 50, suspectWindow := 50, returnDelay := 30,
    stormRewinds := 8, sourceNode := 0, fabricIdentity := 0, attentionSet := defaultAttention,
    halfPart := 0, halfLane := 0, halfStream := 0 }

/-! ### Integrity patrol and management port (chapters 11 and 12) -/

/-- What started the running patrol pass (R167, R172). -/
inductive PassCause where
  | routine | restart | leave
  deriving DecidableEq, Repr

/-- The items of a patrol pass: 64 stream records, 256 OTT entries, 1,024 data blocks (R167). -/
def passItems : Nat := 64 + 256 + 1024

/-- The integrity patrol's pass: the items it has read, what started it, and whether it has found a control-state
failure (R167, R172). -/
structure Patrol where
  /-- Bit n stands for stream record n, bit 64 + i for OTT entry i, bit 320 + b for data block b. -/
  read : BitVec passItems
  pass : PassCause
  failed : Bool
  deriving DecidableEq, Repr

/-- The management port (R173): its address pins, its response holding buffer, and the lane whose
diagnostic burst keeps it from acknowledging (R165). -/
structure Port where
  pins : BitVec 3
  status : Byte
  data : List Byte
  burst : Option Lane
  deriving DecidableEq, Repr

/-! ### The part and the state -/

/-- The part: its blocks, its time and its parameters. -/
structure Part where
  /-- Microseconds since power-on (R153, log entry 1). -/
  now : Micros
  /-- When the leak tick next expires (R93). -/
  leakAt : Micros
  params : Params
  intake : Intake
  /-- The model's own field: every completion handed to the host request port, oldest first. -/
  completions : List Completion
  engine : Engine
  lanes : Lanes
  sides : Sides
  log : EventLog
  /-- The counter bank (R155), by `CounterId.slot`. -/
  counters : Vector (BitVec 32) 723
  patrol : Patrol
  port : Port
  /-- Reports handed to lanes and not yet taken there. -/
  reports : List Report
  deriving DecidableEq, Repr

/-- The part right after power-on (R15, R18, R39, R65, R88, R102, R154, R162, R173), with the address
pins as sampled. The fields that no reset table names, the drop tally of R7 and the time of the QSCE among them, start
absent, clear or 0 (log entry 37: DESIGN CHOICE). -/
def Part.powerOn (pins : BitVec 3) : Part :=
  { now := 0
    leakAt := 1000
    params := Params.powerOn
    intake :=
      { queue := [], credits := 0, linkUp := true, headWaited := false,
        openTags := Vector.replicate 256 false, routes := Vector.replicate 32 Route.empty,
        service := .init, tally := none, quiesceAt := 0 }
    completions := []
    engine :=
      { streams := Vector.replicate 64 StreamRec.powerOn,
        freeEntries := List.finRange 256, freeSlots := List.finRange 64,
        freeBlocks := List.finRange 1024, owners := Vector.replicate 1024 none, buffer := [],
        lastServed := 63 }
    lanes := ⟨LaneRec.powerOn, LaneRec.powerOn, LaneRec.powerOn, LaneRec.powerOn⟩
    sides := ⟨SideRec.powerOn, SideRec.powerOn⟩
    log := EventLog.powerOn
    counters := Vector.replicate 723 0
    patrol := { read := 0, pass := .routine, failed := false }
    port := { pins := pins, status := 0xFF, data := [], burst := none }
    reports := [] }

/-- The state of the model: the part, and the commands and events that wait, first in, first out. -/
structure State where
  part : Part
  pending : List Instr
  deriving DecidableEq, Repr

/-- The machine right after reset: the part at power-on and an empty queue. The address pins are
taken as 0 (log entry 14). -/
def State.reset : State := { part := Part.powerOn 0, pending := [] }

end Sys2Proof.Machine
end

