-- ==== Sys2Proof/Machine/Ops.lean ====
section
/-! DEFINITION. The named operations every meaning is written in: reading and changing one lane, one
stream, one side, one counter; the data buffer's bytes; the event log; completions; responses. -/

namespace Sys2Proof

/-! ### Lanes and sides -/

/-- The four lanes in the order of their codes. -/
def Lane.all : List Lane := [.a0, .a1, .b0, .b1]

/-- The code of a lane: A0 0, A1 1, B0 2, B1 3 (R115, R174). -/
def Lane.code : Lane → Nat
  | .a0 => 0
  | .a1 => 1
  | .b0 => 2
  | .b1 => 3

theorem Lane.code_lt (l : Lane) : l.code < 4 := by cases l <;> decide

/-- The side a lane is wired to (R65). -/
def Lane.side : Lane → Side
  | .a0 | .a1 => .a
  | .b0 | .b1 => .b

/-- A lane's index within its side, which is also its port (R60). -/
def Lane.index : Lane → Nat
  | .a0 | .b0 => 0
  | .a1 | .b1 => 1

/-- The other lane of the same side (R108). -/
def Lane.sibling : Lane → Lane
  | .a0 => .a1
  | .a1 => .a0
  | .b0 => .b1
  | .b1 => .b0

/-- The lane of the other side with the same index (R108). -/
def Lane.across : Lane → Lane
  | .a0 => .b0
  | .a1 => .b1
  | .b0 => .a0
  | .b1 => .a1

/-- The 64 streams in increasing stream number. -/
def allStreams : List StreamId := List.finRange 64

namespace Machine

/-- What a command answers. -/
abbrev Result := Host.Outcome State Fault Refusal

/-- The next state in which the part has taken the event `f`; the queue of waiting commands is left as
it is. -/
def State.act (s : State) (f : Part → Part) : Result := .next { s with part := f s.part }

/-- The record of one lane. -/
def Lanes.get (ls : Lanes) : Lane → LaneRec
  | .a0 => ls.a0
  | .a1 => ls.a1
  | .b0 => ls.b0
  | .b1 => ls.b1

/-- The lane records with one replaced. -/
def Lanes.set (ls : Lanes) (l : Lane) (r : LaneRec) : Lanes :=
  match l with
  | .a0 => { ls with a0 := r }
  | .a1 => { ls with a1 := r }
  | .b0 => { ls with b0 := r }
  | .b1 => { ls with b1 := r }

/-- The record of one lane of the part. -/
def Part.lane (p : Part) (l : Lane) : LaneRec := p.lanes.get l

/-- The part with one lane record changed. -/
def Part.modLane (p : Part) (l : Lane) (f : LaneRec → LaneRec) : Part :=
  { p with lanes := p.lanes.set l (f (p.lanes.get l)) }

/-- The part with every lane record changed alike. -/
def Part.modLanes (p : Part) (f : LaneRec → LaneRec) : Part :=
  { p with lanes := ⟨f p.lanes.a0, f p.lanes.a1, f p.lanes.b0, f p.lanes.b1⟩ }

/-- The record of one side. -/
def Part.side (p : Part) : Side → SideRec
  | .a => p.sides.a
  | .b => p.sides.b

/-- The part with one side record changed. -/
def Part.modSide (p : Part) (d : Side) (f : SideRec → SideRec) : Part :=
  match d with
  | .a => { p with sides := { p.sides with a := f p.sides.a } }
  | .b => { p with sides := { p.sides with b := f p.sides.b } }

/-! ### Streams -/

/-- The record of one stream. -/
def Part.stream (p : Part) (n : StreamId) : StreamRec := p.engine.streams.get n

/-- The part with one stream record changed. -/
def Part.modStream (p : Part) (n : StreamId) (f : StreamRec → StreamRec) : Part :=
  { p with engine :=
      { p.engine with streams := p.engine.streams.set n.val (f (p.engine.streams.get n)) n.isLt } }

/-! ### Time -/

/-- The 32-bit time counter (R153). -/
def Part.timeCounter (p : Part) : BitVec 32 := BitVec.ofNat 32 p.now

/-- The moment an expiry at time `t` is taken: no earlier than `t` (log entry 3). -/
def Part.reach (p : Part) (t : Micros) : Part := { p with now := max p.now t }

/-! ### Numbers -/

/-- A count as a 16-bit detail, saturating at FFFFh. -/
def sat16 (n : Nat) : BitVec 16 := BitVec.ofNat 16 (min n 65535)

/-- A 16-bit detail from its high and low bytes. -/
def bytePair (hi lo : Nat) : BitVec 16 := BitVec.ofNat 16 (hi % 256 * 256 + lo % 256)

/-- Whole milliseconds of an interval, truncated, saturating at FFFFh (R104, R143). -/
def wholeMs (us : Micros) : BitVec 16 := sat16 (us / 1000)

/-! ### The data buffer (R23)

A byte that nothing has written reads as 0 (log entry 12). -/

/-- The byte at an address of the buffer. -/
def Memory.read (m : Memory) (a : Nat) : Byte :=
  match m with
  | [] => 0
  | (k, v) :: rest => if k = a then v else Memory.read rest a

/-- The buffer with one byte written, in canonical form. -/
def Memory.write (m : Memory) (a : Nat) (b : Byte) : Memory :=
  match m with
  | [] => if b = 0 then [] else [(a, b)]
  | (k, v) :: rest =>
    if a < k then (if b = 0 then (k, v) :: rest else (a, b) :: (k, v) :: rest)
    else if a = k then (if b = 0 then rest else (a, b) :: rest)
    else (k, v) :: Memory.write rest a b

/-- The canonical form: addresses strictly rising, and no byte that an unlisted address reads as. -/
def Memory.wf (m : Memory) : Bool :=
  decide (m.Pairwise (fun x y => x.1 < y.1)) && m.all (fun c => c.2 != 0)

/-- The buffer with bytes written from an address on. -/
def Memory.writeAll (m : Memory) (a : Nat) : List Byte → Memory
  | [] => m
  | b :: rest => Memory.writeAll (Memory.write m a b) (a + 1) rest

/-- The address of a block's first byte. -/
def blockBase (b : BlockIx) : Nat := Config.blockBytes * b.val

/-- The 64 bytes of a block. -/
def Memory.block (m : Memory) (b : BlockIx) : List Byte :=
  (List.range Config.blockBytes).map (fun i => Memory.read m (blockBase b + i))

/-- The buffer with a block's bytes written from its first byte on; bytes beyond 64 are left out. -/
def Memory.setBlock (m : Memory) (b : BlockIx) (bytes : List Byte) : Memory :=
  Memory.writeAll m (blockBase b) (bytes.take Config.blockBytes)

/-- The buffer with data written into blocks in byte order (R23). -/
def Memory.store (m : Memory) : List BlockIx → List Byte → Memory
  | [], _ => m
  | b :: rest, bytes => Memory.store (Memory.setBlock m b bytes) rest (bytes.drop Config.blockBytes)

/-- The first `len` bytes held in blocks, in byte order (R22). -/
def Memory.load (m : Memory) (bs : List BlockIx) (len : Nat) : List Byte :=
  (bs.flatMap (Memory.block m)).take len

/-! ### The event log (R145 to R147) -/

/-- Appends an event as a new entry, discarding the oldest entry of a full log (R146, R147, R149). -/
def EventLog.append (log : EventLog) (kind : EventKind) (lane : Option Lane)
    (stream : Option StreamId) (detail : BitVec 16) (time : BitVec 32) : EventLog :=
  let e : LogEntry := { number := log.next, kind, lane, stream, detail, repeats := 1, time }
  if log.entries.length < Config.logEntries then
    { log with entries := log.entries ++ [e], next := log.next + 1, ever := true }
  else
    { entries := log.entries.tail ++ [e], next := log.next + 1, ever := true, overflowed := true,
      overflow := min 255 (log.overflow + 1) }

/-- Takes an event: coalesces it into the newest entry when kind, lane and stream agree, and appends
it otherwise (R146). -/
def EventLog.take (log : EventLog) (kind : EventKind) (lane : Option Lane)
    (stream : Option StreamId) (detail : BitVec 16) (time : BitVec 32) : EventLog :=
  match log.entries.getLast? with
  | some e =>
    if e.kind = kind ∧ e.lane = lane ∧ e.stream = stream then
      { log with entries := log.entries.dropLast ++ [{ e with repeats := min 255 (e.repeats + 1) }] }
    else log.append kind lane stream detail time
  | none => log.append kind lane stream detail time

/-- The part after the log has taken an event, timestamped with the time counter (R145). -/
def Part.event (p : Part) (kind : EventKind) (lane : Option Lane) (stream : Option StreamId)
    (detail : BitVec 16) : Part :=
  { p with log := p.log.take kind lane stream detail p.timeCounter }

/-! ### The counter bank (R155 to R161) -/

/-- The part-wide counters (R159). -/
inductive PartCounter where
  | requestsArrived | requestsRefused | intakeWaits | completionsSent | completionsDiscarded
  | hostLinkResets | correctedChecks
  deriving DecidableEq, Repr

/-- The per-lane counters (R156, R157). -/
inductive LaneCounter where
  | framesSent | framesReceived | badFrames | codeViolationFrames | unexpectedFrames
  | misdeliveredFrames | malformedFrames | linkLosses | silenceExpiries | downEntries
  | qualifyPasses | qualifyFailures | pausesTaken | stormReports
  | latencyBin0 | latencyBin1 | latencyBin2 | latencyBin3 | latencyBin4
  deriving DecidableEq, Repr

/-- The per-stream counters (R158). -/
inductive StreamCounter where
  | dispatched | replayed | completions | stale | stray | unmatched | bindings | rewinds
  | duplicateAnswers | writesRetiredByMark
  deriving DecidableEq, Repr

/-- The counter number of a part-wide counter (R159). -/
def PartCounter.number : PartCounter → Nat
  | .requestsArrived => 0x01
  | .requestsRefused => 0x02
  | .intakeWaits => 0x03
  | .completionsSent => 0x04
  | .completionsDiscarded => 0x05
  | .hostLinkResets => 0x06
  | .correctedChecks => 0x07

/-- The counter number of a per-lane counter (R156). -/
def LaneCounter.number : LaneCounter → Nat
  | .framesSent => 0x01
  | .framesReceived => 0x02
  | .badFrames => 0x03
  | .codeViolationFrames => 0x04
  | .unexpectedFrames => 0x05
  | .misdeliveredFrames => 0x06
  | .malformedFrames => 0x07
  | .linkLosses => 0x08
  | .silenceExpiries => 0x09
  | .downEntries => 0x0A
  | .qualifyPasses => 0x0B
  | .qualifyFailures => 0x0C
  | .pausesTaken => 0x0D
  | .stormReports => 0x0E
  | .latencyBin0 => 0x10
  | .latencyBin1 => 0x11
  | .latencyBin2 => 0x12
  | .latencyBin3 => 0x13
  | .latencyBin4 => 0x14

/-- The counter number of a per-stream counter (R158). -/
def StreamCounter.number : StreamCounter → Nat
  | .dispatched => 0x01
  | .replayed => 0x02
  | .completions => 0x03
  | .stale => 0x04
  | .stray => 0x05
  | .unmatched => 0x06
  | .bindings => 0x07
  | .rewinds => 0x08
  | .duplicateAnswers => 0x09
  | .writesRetiredByMark => 0x0A

/-- The part-wide counter with a counter number, if one has it. -/
def PartCounter.ofNumber (k : Nat) : Option PartCounter :=
  [PartCounter.requestsArrived, .requestsRefused, .intakeWaits, .completionsSent,
    .completionsDiscarded, .hostLinkResets, .correctedChecks].find? (fun c => c.number == k)

/-- The per-lane counter with a counter number, if one has it. -/
def LaneCounter.ofNumber (k : Nat) : Option LaneCounter :=
  [LaneCounter.framesSent, .framesReceived, .badFrames, .codeViolationFrames, .unexpectedFrames,
    .misdeliveredFrames, .malformedFrames, .linkLosses, .silenceExpiries, .downEntries,
    .qualifyPasses, .qualifyFailures, .pausesTaken, .stormReports, .latencyBin0, .latencyBin1,
    .latencyBin2, .latencyBin3, .latencyBin4].find? (fun c => c.number == k)

/-- The per-stream counter with a counter number, if one has it. -/
def StreamCounter.ofNumber (k : Nat) : Option StreamCounter :=
  [StreamCounter.dispatched, .replayed, .completions, .stale, .stray, .unmatched, .bindings,
    .rewinds, .duplicateAnswers, .writesRetiredByMark].find? (fun c => c.number == k)

/-- A counter of the bank: its group, its instance and its number (R155). -/
inductive CounterId where
  | part (c : PartCounter)
  | lane (l : Lane) (c : LaneCounter)
  | stream (n : StreamId) (c : StreamCounter)
  deriving DecidableEq, Repr

theorem PartCounter.number_lt (c : PartCounter) : c.number < 8 := by cases c <;> decide
theorem LaneCounter.number_lt (c : LaneCounter) : c.number < 21 := by cases c <;> decide
theorem StreamCounter.number_lt (c : StreamCounter) : c.number < 11 := by cases c <;> decide

/-- Where the bank keeps a counter: part-wide from 0, per-lane from 7, per-stream from 83. The
per-lane numbers 10h to 14h follow 0Eh. -/
def CounterId.slot : CounterId → Fin 723
  | .part c => ⟨c.number - 1, by have := c.number_lt; omega⟩
  | .lane l c =>
    ⟨7 + 19 * l.code + (if c.number < 16 then c.number - 1 else c.number - 2), by
      have := c.number_lt; have := l.code_lt; split <;> omega⟩
  | .stream n c => ⟨83 + 10 * n.val + (c.number - 1), by have := c.number_lt; omega⟩

/-- The 16-bit id of a counter (R155). -/
def CounterId.code : CounterId → BitVec 16
  | .part c => bytePair 0x00 c.number
  | .lane l c => bytePair (0x10 + l.code) c.number
  | .stream n c => bytePair (0x40 + n.val) c.number

/-- The lane a counter's event names (R148). -/
def CounterId.lane? : CounterId → Option Lane
  | .lane l _ => some l
  | _ => none

/-- The stream a counter's event names (R148). -/
def CounterId.stream? : CounterId → Option StreamId
  | .stream n _ => some n
  | _ => none

/-- Whether COUNTER_HALF_SET names a counter's kind (R161, R180). -/
def Params.halfWatched (q : Params) : CounterId → Bool
  | .part c => q.halfPart.getLsbD c.number
  | .lane _ c => q.halfLane.getLsbD c.number
  | .stream _ c => q.halfStream.getLsbD c.number

/-- The value of a counter. -/
def Part.counter (p : Part) (c : CounterId) : BitVec 32 := p.counters.get c.slot

/-- The part with one counter set. -/
def Part.setCounter (p : Part) (c : CounterId) (v : BitVec 32) : Part :=
  { p with counters := p.counters.set c.slot.val v c.slot.isLt }

/-- Raises a counter by 1, wrapping; a watched counter that reaches 80000000h logs COUNTER_HALF
(R155, R161). -/
def Part.raise (p : Part) (c : CounterId) : Part :=
  let old := p.counter c
  let q := p.setCounter c (old + 1)
  if old = 0x7FFFFFFF#32 ∧ p.params.halfWatched c = true then
    q.event .counterHalf c.lane? c.stream? c.code
  else q

/-! ### Completions and responses -/

/-- Whether a host tag is open (R5). -/
def Intake.tagOpen (i : Intake) (t : HostTag) : Bool := i.openTags.get t.toFin

/-- Opens or closes a host tag (R5). -/
def Part.setTag (p : Part) (t : HostTag) (isOpen : Bool) : Part :=
  { p with intake :=
      { p.intake with openTags := p.intake.openTags.set t.toFin.val isOpen t.toFin.isLt } }

/-- Hands a completion to the host request port (R2, R159). -/
def Part.answerHost (p : Part) (tag : HostTag) (status : CompletionStatus) (data : List Byte) : Part :=
  { p with completions := p.completions ++ [Completion.mk tag status data] }.raise (.part .completionsSent)

/-- A completion of the stream engine: it closes its tag and is counted for its stream; one whose tag
is absent is discarded and counted (R34). -/
def Part.complete (p : Part) (n : StreamId) (tag : Option HostTag) (status : CompletionStatus)
    (data : List Byte) : Part :=
  match tag with
  | some t => ((p.setTag t false).answerHost t status data).raise (.stream n .completions)
  | none => p.raise (.part .completionsDiscarded)

/-- Places the response frame in the holding buffer (R173). -/
def Part.respond (p : Part) (status : Byte) (data : List Byte) : Part :=
  { p with port := { p.port with status := status, data := data } }

/-- Hands a report to a lane, to be taken there later (R91). -/
def Part.report (p : Part) (r : Report) : Part := { p with reports := p.reports ++ [r] }

/-- Takes a report off the way, if it is on it. -/
def Part.takeReport (p : Part) (r : Report) : Part := { p with reports := p.reports.erase r }

end Machine
end Sys2Proof
end

