-- ==== Sys2Proof/Machine/Operands.lean ====
section
/-! DEFINITION. The arithmetic and the operand forms of the manual: serial order, block counts,
deadlines, smoothed latency, byte order, the codes of management operands, and the parameters with
their widths, ranges and clamping. -/

namespace Sys2Proof.Machine

/-! ### Serial order (R20) -/

/-- `a` is serially before `b`: (b − a) mod 4096 lies in 1 to 2047. -/
def serialBefore (a b : Seq) : Bool := 1 ≤ (b - a).toNat && (b - a).toNat ≤ 2047

/-- `a` is at or serially before `b`. -/
def serialAtOrBefore (a b : Seq) : Bool := a == b || serialBefore a b

/-! ### Requests (R1, R8, R11, R183) -/

/-- The kind of a request record, `none` for an unknown kind code (R183). -/
def ReqKind.ofCode (c : Byte) : Option ReqKind :=
  if c = 0x01#8 then some .read else if c = 0x02#8 then some .write
  else if c = 0x03#8 then some .swap else none

/-- The op code of a REQUEST frame (R184). -/
def ReqKind.op : ReqKind → BitVec 4
  | .read => 1#4
  | .write => 2#4
  | .swap => 3#4

/-- ceil(length / 64). -/
def ceilBlocks (len : Nat) : Nat := (len + (Config.blockBytes - 1)) / Config.blockBytes

/-- The data blocks a request needs (R11, R23). -/
def ReqKind.blocksNeeded (k : ReqKind) (len : Nat) : Nat :=
  match k with
  | .read => 0
  | .write => ceilBlocks len
  | .swap => 1

/-- The data bytes a record of a kind and length carries (R183). -/
def ReqKind.dataBytes (k : ReqKind) (len : Nat) : Nat :=
  match k with
  | .read => 0
  | .write => len
  | .swap => 16

/-- The payload bytes of an entry's REQUEST frame (R46): the same as the record's data. -/
def ReqKind.payloadBytes (k : ReqKind) (len : Nat) : Nat := k.dataBytes len

/-! ### Deadlines and smoothed latency (R36, R37, R99, R100) -/

/-- The block count of the deadline formula (R37). -/
def ReqKind.deadlineBlocks (k : ReqKind) (len : Nat) : Nat :=
  match k with
  | .swap => 1
  | _ => ceilBlocks len

/-- A value clamped to an interval: below it the lower end, above it the upper end. -/
def clampTo (lo hi v : Nat) : Nat := max lo (min hi v)

/-- The deadline interval in µs (R100). -/
def Params.deadlineInterval (q : Params) (latency blocks : Nat) : Nat :=
  clampTo q.deadlineMin q.deadlineMax (2 * latency + q.margin + 4 * blocks)

/-- The smoothed latency after a sample: S + (sample − S) / 8, truncated toward zero (R99). -/
def smooth (s : Nat) (sample : Nat) : Nat := ((s : Int) + ((sample : Int) - (s : Int)).tdiv 8).toNat

/-- The latency sample of an interval: whole µs, capped at 65535 (R36). -/
def latencyOf (us : Micros) : BitVec 16 := sat16 us

/-- The histogram bin of a sample (R157). -/
def latencyBin (us : Nat) : LaneCounter :=
  if us ≤ 9 then .latencyBin0 else if us ≤ 49 then .latencyBin1 else if us ≤ 199 then .latencyBin2
  else if us ≤ 999 then .latencyBin3 else .latencyBin4

/-- The weight of a report (R90). -/
def ReportCause.weight : ReportCause → Nat
  | .sequenceBreak => 32
  | .resumeTimeout => 64
  | .deadlineMiss => 96

/-! ### Byte order (R174): most significant byte first -/

/-- The number a run of bytes stands for. -/
def bigEndian (bs : List Byte) : Nat := bs.foldl (fun acc b => acc * 256 + b.toNat) 0

/-- The low `w` bytes of a number. -/
def toBigEndian : Nat → Nat → List Byte
  | 0, _ => []
  | w + 1, v => toBigEndian w (v / 256) ++ [BitVec.ofNat 8 v]

/-! ### Codes of management operands (R174, R177) -/

/-- The lane a byte names; above 03h it is outside its encoding. -/
def laneOfByte (b : Byte) : Option Lane :=
  if b = 0#8 then some .a0 else if b = 1#8 then some .a1 else if b = 2#8 then some .b0
  else if b = 3#8 then some .b1 else none

/-- The byte of a lane, FFh when absent. -/
def byteOfLane : Option Lane → Byte
  | some l => BitVec.ofNat 8 l.code
  | none => 0xFF#8

/-- The stream a byte names; above 63 it is outside its encoding. -/
def streamOfByte (b : Byte) : Option StreamId := if h : b.toNat < 64 then some ⟨b.toNat, h⟩ else none

/-- The route index a byte names; above 31 it is outside its encoding. -/
def routeOfByte (b : Byte) : Option RouteIx := if h : b.toNat < 32 then some ⟨b.toNat, h⟩ else none

/-- The side policy a byte names (R177). -/
def policyOfByte (b : Byte) : Option Policy :=
  if b = 0#8 then some .sticky else if b = 1#8 then some .returning else none

/-- The code of a side policy (R177). -/
def Policy.code : Policy → Nat
  | .sticky => 0
  | .returning => 1

/-- The access a byte names (R177). -/
def accessOfByte (b : Byte) : Option Access :=
  if b = 0#8 then some .readWrite else if b = 1#8 then some .readOnly else none

/-- The code of an access (R177). -/
def Access.code : Access → Nat
  | .readWrite => 0
  | .readOnly => 1

/-! ### Response statuses (R174) -/

/-- The statuses of response frames. -/
inductive Status where
  | ok | okClamped | accepted | badCommand | badOperand | busy | conflict | notNow | noCommand
  deriving DecidableEq, Repr

/-- The code of a response status. -/
def Status.code : Status → Byte
  | .ok => 0x00#8
  | .okClamped => 0x01#8
  | .accepted => 0x02#8
  | .badCommand => 0x10#8
  | .badOperand => 0x11#8
  | .busy => 0x12#8
  | .conflict => 0x13#8
  | .notNow => 0x14#8
  | .noCommand => 0xFF#8

/-- A response without data. -/
def Part.reply (p : Part) (st : Status) : Part := p.respond st.code []

/-- A command of the management port: it reaches the part unless a diagnostic burst keeps the port from
acknowledging its address (R165, R173, log entry 11). -/
def Part.managed (p : Part) (f : Part → Part) : Part :=
  match p.port.burst with
  | some _ => p
  | none => f p

/-! ### Parameters (R96, R101, R105, R131, R142, R180) -/

/-- The parameters by name. -/
inductive Param where
  | beatInterval | leak | clearLevel | warnLevel | downLevel | holdDown | qualTolerance | margin
  | deadlineMin | deadlineMax | streamWindow | stallLimit | drainLimit | suspectWindow
  | returnDelay | stormRewinds | sourceNode | fabricIdentity | attentionSet | counterHalfSet
  deriving DecidableEq, Repr

/-- The parameter with an id, `none` for an unknown id. -/
def Param.ofId (b : Byte) : Option Param :=
  match b.toNat with
  | 0x01 => some .beatInterval
  | 0x02 => some .leak
  | 0x03 => some .clearLevel
  | 0x04 => some .warnLevel
  | 0x05 => some .downLevel
  | 0x06 => some .holdDown
  | 0x07 => some .qualTolerance
  | 0x08 => some .margin
  | 0x09 => some .deadlineMin
  | 0x0A => some .deadlineMax
  | 0x0B => some .streamWindow
  | 0x0C => some .stallLimit
  | 0x0D => some .drainLimit
  | 0x0E => some .suspectWindow
  | 0x0F => some .returnDelay
  | 0x10 => some .stormRewinds
  | 0x11 => some .sourceNode
  | 0x12 => some .fabricIdentity
  | 0x13 => some .attentionSet
  | 0x14 => some .counterHalfSet
  | _ => none

/-- The width of a parameter's value in bytes. -/
def Param.width : Param → Nat
  | .beatInterval | .leak | .holdDown | .qualTolerance | .stallLimit | .drainLimit
  | .suspectWindow | .returnDelay | .stormRewinds => 1
  | .clearLevel | .warnLevel | .downLevel | .margin | .deadlineMin | .deadlineMax
  | .streamWindow | .sourceNode => 2
  | .fabricIdentity => 4
  | .attentionSet => 8
  | .counterHalfSet => 12

/-- The interval a written value is clamped into; a threshold's is what the two other thresholds leave
(R96). The sets are not clamped: they take any value of their width that R180 does not refuse. -/
def Param.range (q : Params) : Param → Nat × Nat
  | .beatInterval => (1, 64)
  | .leak => (0, 63)
  | .clearLevel => (0, q.warnLevel - 1)
  | .warnLevel => (q.clearLevel + 1, q.downLevel - 1)
  | .downLevel => (q.warnLevel + 1, 1023)
  | .holdDown => (1, 255)
  | .qualTolerance => (0, 255)
  | .margin => (0, 1000)
  | .deadlineMin => (10, 1000)
  | .deadlineMax => (1000, 65000)
  | .streamWindow => (1, 256)
  | .stallLimit => (1, 255)
  | .drainLimit => (1, 255)
  | .suspectWindow => (0, 255)
  | .returnDelay => (1, 255)
  | .stormRewinds => (1, 63)
  | .sourceNode => (0, 4095)
  | .fabricIdentity => (0, 0xFFFFFFFF)
  | .attentionSet => (0, 0xFFFFFFFFFFFFFFFF)
  | .counterHalfSet => (0, 0xFFFFFFFFFFFFFFFFFFFFFFFF)

/-- The value a parameter holds. -/
def Params.value (q : Params) : Param → Nat
  | .beatInterval => q.beatInterval
  | .leak => q.leak
  | .clearLevel => q.clearLevel
  | .warnLevel => q.warnLevel
  | .downLevel => q.downLevel
  | .holdDown => q.holdDown
  | .qualTolerance => q.qualTolerance
  | .margin => q.margin
  | .deadlineMin => q.deadlineMin
  | .deadlineMax => q.deadlineMax
  | .streamWindow => q.streamWindow
  | .stallLimit => q.stallLimit
  | .drainLimit => q.drainLimit
  | .suspectWindow => q.suspectWindow
  | .returnDelay => q.returnDelay
  | .stormRewinds => q.stormRewinds
  | .sourceNode => q.sourceNode.toNat
  | .fabricIdentity => q.fabricIdentity.toNat
  | .attentionSet => q.attentionSet.toNat
  | .counterHalfSet => (q.halfPart ++ q.halfLane ++ q.halfStream).toNat

/-- The parameters with one value stored. -/
def Params.store (q : Params) (k : Param) (v : Nat) : Params :=
  match k with
  | .beatInterval => { q with beatInterval := v }
  | .leak => { q with leak := v }
  | .clearLevel => { q with clearLevel := v }
  | .warnLevel => { q with warnLevel := v }
  | .downLevel => { q with downLevel := v }
  | .holdDown => { q with holdDown := v }
  | .qualTolerance => { q with qualTolerance := v }
  | .margin => { q with margin := v }
  | .deadlineMin => { q with deadlineMin := v }
  | .deadlineMax => { q with deadlineMax := v }
  | .streamWindow => { q with streamWindow := v }
  | .stallLimit => { q with stallLimit := v }
  | .drainLimit => { q with drainLimit := v }
  | .suspectWindow => { q with suspectWindow := v }
  | .returnDelay => { q with returnDelay := v }
  | .stormRewinds => { q with stormRewinds := v }
  | .sourceNode => { q with sourceNode := BitVec.ofNat 12 v }
  | .fabricIdentity => { q with fabricIdentity := BitVec.ofNat 32 v }
  | .attentionSet => { q with attentionSet := BitVec.ofNat 64 v }
  | .counterHalfSet =>
    { q with halfPart := BitVec.ofNat 32 (v / 2 ^ 64), halfLane := BitVec.ofNat 32 (v / 2 ^ 32),
             halfStream := BitVec.ofNat 32 v }

/-- The value stored for a written value: clamped into the parameter's interval. -/
def Params.clamped (q : Params) (k : Param) (v : Nat) : Nat := clampTo (k.range q).1 (k.range q).2 v

/-- The bits of ATTENTION_SET that name an event kind: 01h to 21h (R181). -/
def definedKinds : BitVec 64 := 0x3FFFFFFFE#64

/-- The bits of COUNTER_HALF_SET that name a counter, group by group (R156 to R159, R180). -/
def definedPart : BitVec 32 := 0x000000FE#32
def definedLane : BitVec 32 := 0x001F7FFE#32
def definedStream : BitVec 32 := 0x000007FE#32

/-- Whether a written set names an undefined member (R152, R161, R180). -/
def Param.undefinedMember (k : Param) (v : Nat) : Bool :=
  match k with
  | .attentionSet => (BitVec.ofNat 64 v &&& ~~~definedKinds) != 0
  | .counterHalfSet =>
    (BitVec.ofNat 96 v &&& ~~~(definedPart ++ definedLane ++ definedStream)) != 0
  | _ => false

end Sys2Proof.Machine
end

