-- ==== Sys2Proof/Machine/Flags.lean ====
section
/-! DEFINITION. Codes, flags and pins computed from the state: the event kind codes, the log's summary
flags, the attention line, and the bytes of status the management port returns. -/

namespace Sys2Proof.Machine

/-- The code of an event kind (R181). -/
def EventKind.code : EventKind → Nat
  | .laneUp => 0x01
  | .laneDegraded => 0x02
  | .laneDown => 0x03
  | .laneHeld => 0x04
  | .laneRetired => 0x05
  | .laneMismatch => 0x06
  | .laneReclaimed => 0x07
  | .laneTrainingFailed => 0x08
  | .laneRestarted => 0x09
  | .partnerOffline => 0x0A
  | .pinSuppressed => 0x0B
  | .sideLost => 0x0C
  | .sideRestored => 0x0D
  | .streamMigrated => 0x0E
  | .streamRewound => 0x0F
  | .streamStalled => 0x10
  | .streamPathLost => 0x11
  | .streamFaulted => 0x12
  | .outcomeUnknown => 0x13
  | .writeRejected => 0x14
  | .writeFateUnknown => 0x15
  | .writesDropped => 0x16
  | .moveDone => 0x17
  | .moveAbandoned => 0x18
  | .moveForced => 0x19
  | .unrouted => 0x1A
  | .malformed => 0x1B
  | .denied => 0x1C
  | .quiesced => 0x1D
  | .hostLinkReset => 0x1E
  | .restrictedEntered => 0x1F
  | .poisoned => 0x20
  | .counterHalf => 0x21

/-- The summary flag PRESENT (R149). -/
def EventLog.present (log : EventLog) : Bool := !log.entries.isEmpty

/-- The summary flag FULL (R149). -/
def EventLog.full (log : EventLog) : Bool := log.entries.length == Config.logEntries

/-- The attention line: asserted while the log holds an entry of a kind in ATTENTION_SET (R152). -/
def Part.attention (p : Part) : Bool :=
  p.log.entries.any (fun e => p.params.attentionSet.getLsbD e.kind.code)

/-- A byte of flags, bit 0 first. -/
def flagByte (bits : List Bool) : Byte :=
  BitVec.ofNat 8 (bits.reverse.foldl (fun acc b => acc * 2 + b.toNat) 0)

/-- The log flags as STAT byte 1 returns them (R176). -/
def Part.logFlags (p : Part) : Byte :=
  flagByte [p.log.present, p.log.full, p.log.ever, p.log.overflowed, p.attention]

/-- The code of a service state (R176). -/
def ServiceState.code : ServiceState → Nat
  | .init => 0
  | .running => 1
  | .quiescing => 2
  | .quiesced => 3
  | .restricted => 4

/-- Whether the intake offers credit in a service state (R15). -/
def ServiceState.offersCredit : ServiceState → Bool
  | .running | .restricted => true
  | .init | .quiescing | .quiesced => false

/-- The code of a stream state (R178). -/
def StreamState.code : StreamState → Nat
  | .idle => 0
  | .binding => 1
  | .replaying => 2
  | .bound => 3
  | .draining => 4
  | .stalled => 5
  | .faulted => 6

/-- The states in which a stream has a carrier (R19). -/
def StreamState.carried : StreamState → Bool
  | .binding | .replaying | .bound | .draining => true
  | .idle | .stalled | .faulted => false

/-- The states in which a stream takes ANSWER and GAP frames (R19, R123). -/
def StreamState.takesAnswers : StreamState → Bool
  | .replaying | .bound | .draining => true
  | .idle | .binding | .stalled | .faulted => false

/-- The code of a lane state: 0 OFF to 7 DOWN (R67, R179). -/
def LaneState.code : LaneState → Nat
  | .off => 0
  | .quiet => 1
  | .training => 2
  | .qualify => 3
  | .active => 4
  | .degraded => 5
  | .held => 6
  | .down => 7

/-- The states in which a lane carries streams: ACTIVE and DEGRADED (R66). -/
def LaneState.inService : LaneState → Bool
  | .active | .degraded => true
  | _ => false

/-- The states in which a lane beats, watches for silence and takes PAUSEs (R69, R70, R78). -/
def LaneState.isUp : LaneState → Bool
  | .qualify | .active | .degraded | .held => true
  | _ => false

/-- The code of an off reason, 0 when absent (R179). -/
def offReasonCode : Option OffReason → Nat
  | none => 0
  | some .disabled => 1
  | some .retired => 2
  | some .mismatch => 3

/-- The code of a pin (R179). -/
def Pin.code : Pin → Nat
  | .unpinned => 0
  | .out => 1
  | .keep => 2

/-- The code of a side state (R176). -/
def SideState.code : SideState → Nat
  | .up => 0
  | .impaired => 1
  | .lost => 2

/-- The code of a partner state (R184). -/
def partnerCode : PartnerState → Nat
  | .ok => 0
  | .linkFail => 1
  | .offline => 2
  | .configError => 3

/-- The code of a move cause (R178). -/
def MoveCause.code : MoveCause → Nat
  | .manual => 1
  | .returning => 2
  | .leaving => 3

/-- The code of a completion status (R183). -/
def CompletionStatus.code : CompletionStatus → Nat
  | .ok => 0
  | .malformed => 1
  | .unrouted => 2
  | .denied => 3
  | .pathLost => 4
  | .outcomeUnknown => 5
  | .endpointError => 6
  | .poisoned => 7
  | .restricted => 8
  | .restarted => 9

/-- A lane is leaving while its pin is OUT, its partner-leaving flag is set or its restart is pending
(R134). -/
def LaneRec.leaving (r : LaneRec) : Bool := r.pin == .out || r.partnerLeaving || r.restartPending

/-- The partner state the lane's BEATs and BASE pages announce: OFFLINE while the pin is OUT or a
restart is pending, and OK otherwise (R59, R60, R70). -/
def LaneRec.announced (r : LaneRec) : PartnerState :=
  if r.pin = .out ∨ r.restartPending = true then .offline else .ok

/-- Whether a side is suspect (R105). -/
def SideRec.suspect (r : SideRec) : Bool := r.suspectUntil.isSome

/-! ### Counts computed from the records (R18, R21, R24, R176) -/

/-- The SWAP entries on a stream's in-flight list (R18). -/
def StreamRec.swapCount (r : StreamRec) : Nat := r.inflight.countP (fun e => e.kind == .swap)

/-- Whether a stream holds nothing in flight and nothing held. -/
def StreamRec.isEmpty (r : StreamRec) : Bool := r.inflight.isEmpty && r.hold.isEmpty

/-- A stream is busy when it holds anything, or is in BINDING, REPLAYING, DRAINING or STALLED (R13). -/
def StreamRec.busy (r : StreamRec) : Bool :=
  !r.isEmpty || match r.state with
    | .binding | .replaying | .draining | .stalled => true
    | .idle | .bound | .faulted => false

/-- OTT entries in use (R21). -/
def Part.entriesInUse (p : Part) : Nat := (allStreams.map (fun n => (p.stream n).inflight.length)).sum

/-- Hold slots in use (R24). -/
def Part.slotsInUse (p : Part) : Nat := (allStreams.map (fun n => (p.stream n).hold.length)).sum

/-- Data blocks in use (R23): those whose owner mark names an owner. -/
def Part.blocksInUse (p : Part) : Nat := p.engine.owners.toList.countP (fun o => o.isSome)

/-- Open tags (R5). -/
def Part.tagsOpen (p : Part) : Nat := p.intake.openTags.toList.countP (fun b => b)

/-- The stream engine holds no entry and no request (R143). -/
def Part.engineEmpty (p : Part) : Bool := allStreams.all (fun n => (p.stream n).isEmpty)

/-- Whether some stream has a lane as its carrier. -/
def Part.carries (p : Part) (l : Lane) : Bool :=
  allStreams.any (fun n => (p.stream n).carrier == some l)

end Sys2Proof.Machine
end

