-- ==== Sys2Proof/Machine/Formats.lean ====
section
/-! DEFINITION. The formats of chapters 3, 4 and 12: the fabric header, the frame check, page payloads,
the pseudo-random test sequence, host request and completion records, and event log entries. -/

namespace Sys2Proof.Machine

/-! ### The fabric header (R42, R184) -/

/-- The kind code of a frame kind (R184). -/
def kindCode : FrameKind → BitVec 4
  | .request => 1#4
  | .answer => 2#4
  | .ask => 3#4
  | .tell => 4#4
  | .gap => 5#4
  | .beat => 6#4
  | .page => 7#4
  | .test => 8#4
  | .pause => 9#4
  | .probe => 10#4
  | .other c => c

/-- The frame kind of a kind code (R184). -/
def kindOfCode (c : BitVec 4) : FrameKind :=
  if c = 1#4 then .request else if c = 2#4 then .answer else if c = 3#4 then .ask
  else if c = 4#4 then .tell else if c = 5#4 then .gap else if c = 6#4 then .beat
  else if c = 7#4 then .page else if c = 8#4 then .test else if c = 9#4 then .pause
  else if c = 10#4 then .probe else .other c

/-- The partner state of a code (R184). -/
def partnerOfCode (c : BitVec 2) : PartnerState :=
  if c = 0#2 then .ok else if c = 1#2 then .linkFail else if c = 2#2 then .offline else .configError

/-- The 160 bits of a header, bit 0 of the manual at the top (R184). -/
def headerBits (k : FrameKind) (h : Header) : BitVec 160 :=
  kindCode k ++ BitVec.ofBool h.markValid ++ BitVec.ofBool h.fresh ++ BitVec.ofBool h.poison
    ++ BitVec.ofBool h.reflect ++ h.source ++ h.epoch ++ h.destination ++ h.op
    ++ BitVec.ofNat 6 h.stream.val ++ BitVec.ofNat 2 (partnerCode h.partner) ++ h.seq
    ++ BitVec.ofBool h.toggle ++ BitVec.ofBool h.ack ++ h.pageKind ++ h.mark ++ h.lengthCode
    ++ h.recallDepth ++ h.rejections ++ h.address ++ h.pause

/-- The kind of the header's 160 bits (R184). -/
def kindOfBits (x : BitVec 160) : FrameKind := kindOfCode (x.extractLsb' 156 4)

/-- The fields of the header's 160 bits (R184). -/
def headerOfBits (x : BitVec 160) : Header :=
  { markValid := x.getLsbD 155, fresh := x.getLsbD 154, poison := x.getLsbD 153,
    reflect := x.getLsbD 152, source := x.extractLsb' 140 12, epoch := x.extractLsb' 136 4,
    destination := x.extractLsb' 124 12, op := x.extractLsb' 120 4,
    stream := (x.extractLsb' 114 6).toFin, partner := partnerOfCode (x.extractLsb' 112 2),
    seq := x.extractLsb' 100 12, toggle := x.getLsbD 99, ack := x.getLsbD 98,
    pageKind := x.extractLsb' 96 2, mark := x.extractLsb' 84 12, lengthCode := x.extractLsb' 78 6,
    recallDepth := x.extractLsb' 72 6, rejections := x.extractLsb' 64 8,
    address := x.extractLsb' 16 48, pause := x.extractLsb' 0 16 }

/-- The 20 header bytes (R184). -/
def headerBytes (k : FrameKind) (h : Header) : List Byte := toBigEndian 20 (headerBits k h).toNat

/-! ### The frame check (R43) -/

/-- One bit's step of the check register. -/
def crcBit (r : BitVec 32) : BitVec 32 :=
  if r.getLsbD 0 then (r >>> 1) ^^^ 0x82F63B78#32 else r >>> 1

/-- `k` bit steps of the check register. -/
def crcBits : Nat → BitVec 32 → BitVec 32
  | 0, r => r
  | k + 1, r => crcBits k (crcBit r)

/-- The check of a run of bytes. -/
def crc (bs : List Byte) : BitVec 32 :=
  ~~~(bs.foldl (fun r b => crcBits 8 (r ^^^ b.setWidth 32)) 0xFFFFFFFF#32)

/-- The four check bytes, least significant first. -/
def crcBytes (c : BitVec 32) : List Byte := (toBigEndian 4 c.toNat).reverse

/-- A frame's bytes as sent: header, payload, check (R42, R43). -/
def Frame.bytes (f : Frame) : List Byte :=
  let body := headerBytes f.kind f.header ++ f.payload
  body ++ crcBytes (crc body)

/-- The frame a delivered run of bytes holds, or `none` when the receiver reports it as failing its
check (R44). -/
def Frame.ofBytes (bs : List Byte) : Option Frame :=
  if 24 ≤ bs.length ∧ bs.length ≤ 280 ∧ bs.length % 4 = 0 then
    let body := bs.take (bs.length - 4)
    if bs.drop (bs.length - 4) = crcBytes (crc body) then
      let x := BitVec.ofNat 160 (bigEndian (body.take 20))
      some { kind := kindOfBits x, header := headerOfBits x, payload := body.drop 20 }
    else none
  else none

/-- A header with every field zero: what a sender leaves in the fields a kind does not use (R42). -/
def Header.zero : Header :=
  { markValid := false, fresh := false, poison := false, reflect := false, source := 0, epoch := 0,
    destination := 0, op := 0, stream := 0, partner := .ok, seq := 0, toggle := false, ack := false,
    pageKind := 0, mark := 0, lengthCode := 0, recallDepth := 0, rejections := 0, address := 0,
    pause := 0 }

/-! ### Pages (R60, R184) -/

/-- The code of a side in a BASE page: 0 A, 1 B (R184). -/
def sideByte : Side → Byte
  | .a => 0#8
  | .b => 1#8

/-- The 8-byte payload of a BASE page (R184). -/
def BasePage.bytes (g : BasePage) : List Byte :=
  [g.side, g.port] ++ toBigEndian 2 g.maxPayload.toNat ++ [BitVec.ofNat 8 g.resume.toNat, 0, 0, 0]

/-- The fields of a received BASE page: its payload, and the partner state of its header (R60, R184). -/
def BasePage.ofFrame (h : Header) (payload : List Byte) : BasePage :=
  { side := payload.getD 0 0, port := payload.getD 1 0,
    maxPayload := BitVec.ofNat 16 (bigEndian ((payload.drop 2).take 2)),
    resume := payload.getD 4 0 == 1#8, partner := h.partner }

/-- The 8-byte payload of a NEXT page (R184). -/
def nextPageBytes (source : Node) (identity : BitVec 32) : List Byte :=
  toBigEndian 2 source.toNat ++ toBigEndian 4 identity.toNat ++ [0, 0]

/-! ### The pseudo-random test sequence (R76) -/

/-- One new bit: the exclusive-or of the two oldest stages, entering the newest. Stage 15 is bit 14. -/
def prbsBit (r : BitVec 15) : Bool := r.getLsbD 14 != r.getLsbD 13

/-- The register after one step. -/
def prbsShift (r : BitVec 15) : BitVec 15 := (r <<< 1) ||| (BitVec.ofBool (prbsBit r)).setWidth 15

/-- `k` bits, filling a byte most significant bit first, and the register after them. -/
def prbsBits : Nat → BitVec 15 → Byte → Byte × BitVec 15
  | 0, r, acc => (acc, r)
  | k + 1, r, acc =>
    prbsBits k (prbsShift r) ((acc <<< 1) ||| (BitVec.ofBool (prbsBit r)).setWidth 8)

/-- `k` bytes and the register after them. -/
def prbsBytes : Nat → BitVec 15 → List Byte × BitVec 15
  | 0, r => ([], r)
  | k + 1, r =>
    let (b, r1) := prbsBits 8 r 0
    let (bs, r2) := prbsBytes k r1
    (b :: bs, r2)

/-- `k` payloads of 64 bytes each. -/
def prbsFrames : Nat → BitVec 15 → List (List Byte)
  | 0, _ => []
  | k + 1, r =>
    let (bs, r1) := prbsBytes 64 r
    bs :: prbsFrames k r1

/-- The payloads of a burst of `n` frames: the register starts as all ones. -/
def burstPayloads (n : Nat) : List (List Byte) := prbsFrames n (BitVec.allOnes 15)

/-- The payload of frame `k` of a burst. -/
def burstPayload (k : Nat) : List Byte := (burstPayloads (k + 1)).getLastD []

/-- The byte positions at which two payloads differ (R77); a position that only one of them has differs (log entry
51: DEDUCED). -/
def differing (a b : List Byte) : Nat :=
  (List.zipWith (fun x y => x != y) a b).countP id + (a.length - b.length) + (b.length - a.length)

/-! ### The reclaim pattern (R64) -/

/-- The 40 bytes of the reclaim pattern of a fabric identity. -/
def reclaimPattern (identity : BitVec 32) : List Byte :=
  List.replicate 8 0x5A#8 ++ (List.replicate 8 (toBigEndian 4 identity.toNat)).flatten

/-- Whether a payload holds a run of bytes at some starting position. -/
def holdsRun (run payload : List Byte) : Bool :=
  (List.range (payload.length + 1)).any (fun i => (payload.drop i).take run.length == run)

/-! ### Host records (R183) -/

/-- The request record a run of bytes holds. A run shorter than the header holds none, and bytes 10 and 11 are not
looked at (log entry 52: DESIGN CHOICE). -/
def HostRecord.ofBytes (bs : List Byte) : Option HostRecord :=
  if 12 ≤ bs.length then
    some { kind := bs.getD 0 0, tag := bs.getD 1 0,
           length := BitVec.ofNat 16 (bigEndian ((bs.drop 2).take 2)),
           address := BitVec.ofNat 48 (bigEndian ((bs.drop 4).take 6)), data := bs.drop 12 }
  else none

/-- The bytes of a completion record. -/
def Completion.bytes (c : Completion) : List Byte :=
  [c.tag, BitVec.ofNat 8 c.status.code] ++ toBigEndian 2 c.data.length ++ c.data

/-! ### Event log entries (R181) -/

/-- The 12 bytes of an entry as EVPK and EVPP return it. -/
def LogEntry.bytes (e : LogEntry) : List Byte :=
  toBigEndian 2 e.number.toNat ++ [BitVec.ofNat 8 e.kind.code, byteOfLane e.lane]
    ++ [match e.stream with | some n => BitVec.ofNat 8 n.val | none => 0xFF#8]
    ++ toBigEndian 2 e.detail.toNat ++ [BitVec.ofNat 8 e.repeats] ++ toBigEndian 4 e.time.toNat

/-! ### The management port's frames (R173, R174) -/

/-- The response frame in the holding buffer: status, data count, data. -/
def Port.response (t : Port) : List Byte := [t.status, BitVec.ofNat 8 t.data.length] ++ t.data

/-- The 7-bit address set by the three address pins: 48h to 4Fh. -/
def Port.address (t : Port) : BitVec 7 := 0x48#7 + t.pins.setWidth 7

/-- Whether the port acknowledges an address, on a write or on a read: its own, except while a diagnostic burst runs
(R165, R173). -/
def Port.acknowledges (t : Port) (a : BitVec 7) : Bool := a == t.address && t.burst.isNone

/-- Byte `i` of a read transaction at an address: none when the port does not acknowledge, and FFh beyond the end of
the response frame (R173). -/
def Port.readByte (t : Port) (a : BitVec 7) (i : Nat) : Option Byte :=
  if t.acknowledges a then some (t.response.getD i 0xFF#8) else none

end Sys2Proof.Machine
end

