-- ==== Sys2Proof/Machine/Choice.lean ====
section
/-! DEFINITION. The choice of carrier lane (R108 to R111), and the frames the part forms and places in
its transmit queues (R46, R47, R59 to R62, R68). -/

namespace Sys2Proof

/-- Whether a frame is a REQUEST or an ASK: the frames a pause holds back (R69). -/
def Frame.isTransaction (f : Frame) : Bool := f.kind == .request || f.kind == .ask

/-- Whether a frame is a REQUEST or an ASK of a stream. -/
def Frame.isOf (f : Frame) (n : StreamId) : Bool := f.isTransaction && f.header.stream == n

/-- Whether a REQUEST frame is the one of a stream's sequence. -/
def Frame.isRequestOf (f : Frame) (n : StreamId) (s : Seq) : Bool :=
  f.kind == .request && f.header.stream == n && f.header.seq == s

namespace Machine

/-! ### The tried set (R110) -/

/-- Whether a lane is in the set. -/
def LaneSet.has (t : LaneSet) : Lane → Bool
  | .a0 => t.a0
  | .a1 => t.a1
  | .b0 => t.b0
  | .b1 => t.b1

/-- The set with a lane added. -/
def LaneSet.add (t : LaneSet) : Lane → LaneSet
  | .a0 => { t with a0 := true }
  | .a1 => { t with a1 := true }
  | .b0 => { t with b0 := true }
  | .b1 => { t with b1 := true }

/-! ### The choice -/

/-- The candidate list of a preferred lane (R108). -/
def candidates (preferred : Lane) : List Lane :=
  [preferred, preferred.sibling, preferred.across, preferred.across.sibling]

/-- The six conditions of eligibility (R109). -/
def Part.eligible (p : Part) (tried : LaneSet) (excluded : Option Lane) (l : Lane) : Bool :=
  (p.lane l).state.inService && (p.lane l).pin != .out && !(p.lane l).partnerLeaving
    && !(p.lane l).restartPending && !tried.has l && excluded != some l

/-- The ranking of the eligible lanes: ACTIVE on a clean side, ACTIVE on a suspect side, DEGRADED, each
in list order (R111, steps 2 to 4). -/
def Part.ranked (p : Part) (ok : Lane → Bool) (list : List Lane) : Option Lane :=
  let active := fun l => ok l && (p.lane l).state == .active
  match list.find? (fun l => active l && !(p.side l.side).suspect) with
  | some l => some l
  | none =>
    match list.find? active with
    | some l => some l
    | none => list.find? ok

/-- The choice of carrier lane (R111): the distinguished lane when it is eligible, and the ranking
otherwise. -/
def Part.choose (p : Part) (preferred : Lane) (tried : LaneSet) (kind : BindingKind) : Option Lane :=
  let ok := p.eligible tried kind.excluded
  match kind.distinguished with
  | some d => if ok d then some d else p.ranked ok (candidates preferred)
  | none => p.ranked ok (candidates preferred)

/-- The choice for a stream, by its preferred lane and its tried set. -/
def Part.chooseFor (p : Part) (n : StreamId) (kind : BindingKind) : Option Lane :=
  p.choose (p.stream n).preferred (p.stream n).tried kind

/-! ### Frames and queues -/

/-- Places a frame at the tail of a lane's transmit queue (R68). -/
def Part.place (p : Part) (l : Lane) (f : Frame) : Part :=
  p.modLane l (fun r => { r with queue := r.queue ++ [f] })

/-- Removes from every transmit queue the frames that a test picks. -/
def Part.unqueue (p : Part) (test : Frame → Bool) : Part :=
  p.modLanes (fun r => { r with queue := r.queue.filter (fun f => !test f) })

/-- Removes every REQUEST and ASK frame of a stream from the transmit queues (R114). -/
def Part.dropFrames (p : Part) (n : StreamId) : Part := p.unqueue (fun f => f.isOf n)

/-- Whether a REQUEST frame of a stream waits in a lane's transmit queue (R122). -/
def LaneRec.holdsRequest (r : LaneRec) (n : StreamId) : Bool :=
  r.queue.any (fun f => f.kind == .request && f.header.stream == n)

/-- The length code of a length: length / 4 − 1 (R46). -/
def lengthCode (len : Nat) : BitVec 6 := BitVec.ofNat 6 (len / 4 - 1)

/-- The REQUEST frame of an entry as it is queued (R22, R46). Its payload and its POISON flag are taken
as it leaves the lane. -/
def Part.requestFrame (p : Part) (n : StreamId) (e : OttEntry) : Frame :=
  { kind := .request
    header := { Header.zero with
      source := p.params.sourceNode, epoch := (p.stream n).epoch, destination := (p.stream n).node,
      op := e.kind.op, stream := n, seq := e.seq, lengthCode := lengthCode e.length,
      address := e.address }
    payload := [] }

/-- The oldest sequence an ASK names: the head of the in-flight list, or the next sequence (R47). -/
def StreamRec.oldest (r : StreamRec) : Seq :=
  match r.inflight with
  | e :: _ => e.seq
  | [] => r.nextSeq

/-- The ASK frame of a stream, formed as it is placed (R47, R116). -/
def Part.askFrame (p : Part) (n : StreamId) : Frame :=
  { kind := .ask
    header := { Header.zero with
      source := p.params.sourceNode, epoch := (p.stream n).epoch, destination := (p.stream n).node,
      stream := n, seq := (p.stream n).nextSeq, mark := (p.stream n).oldest }
    payload := [] }

/-- A link-local frame of the part: source SOURCE_NODE, destination 0 (R42). -/
def Part.localFrame (p : Part) (k : FrameKind) (h : Header) (payload : List Byte) : Frame :=
  { kind := k, header := { h with source := p.params.sourceNode }, payload := payload }

/-- A PROBE (R61). -/
def Part.probeFrame (p : Part) : Frame := p.localFrame .probe Header.zero []

/-- A BEAT with the partner state the lane announces as it is placed (R59, R70; log entry 39: DEDUCED). -/
def Part.beatFrame (p : Part) (l : Lane) : Frame :=
  p.localFrame .beat { Header.zero with partner := (p.lane l).announced } []

/-- A BASE page of the part (R60), with the lane's ack and toggle. -/
def Part.basePage (p : Part) (l : Lane) : Frame :=
  p.localFrame .page
    { Header.zero with partner := (p.lane l).announced, toggle := (p.lane l).training.toggle,
                       ack := (p.lane l).training.ownAck, pageKind := 0 }
    (BasePage.bytes { side := sideByte l.side, port := BitVec.ofNat 8 l.index, maxPayload := 256,
                      resume := true, partner := (p.lane l).announced })

/-- A NEXT page of the part, carrying the toggle (R60, R72). -/
def Part.nextPage (p : Part) (l : Lane) : Frame :=
  p.localFrame .page
    { Header.zero with toggle := (p.lane l).training.toggle, ack := (p.lane l).training.ownAck,
                       pageKind := 1 }
    (nextPageBytes p.params.sourceNode p.params.fabricIdentity)

/-- A TEST frame (R62). -/
def Part.testFrame (p : Part) (reflect : Bool) (payload : List Byte) : Frame :=
  p.localFrame .test { Header.zero with reflect := reflect } payload

/-- The TEST frames of a burst of `count` frames, in order (R76, R165). -/
def Part.burstFrames (p : Part) (reflect : Bool) (count : Nat) : List Frame :=
  (burstPayloads count).map (p.testFrame reflect)

end Machine
end Sys2Proof
end

