-- ==== Sys2Proof/Machine/Engine.lean ====
section
/-! DEFINITION. The stream engine's tables: data blocks, hold slots and OTT entries, dispatch and hold,
the arbiter, and the retirement of entries (R20 to R29). -/

namespace Sys2Proof.Machine

/-! ### Blocks, slots and entries (R21, R23, R24) -/

/-- The part with the engine changed. -/
def Part.modEngine (p : Part) (f : Engine → Engine) : Part := { p with engine := f p.engine }

/-- The owner marks with the mark of some blocks replaced (R166). -/
def markBlocks (owners : Vector (Option Owner) 1024) (bs : List BlockIx) (o : Option Owner) :
    Vector (Option Owner) 1024 :=
  bs.foldl (fun v b => v.set b.val o b.isLt) owners

/-- The part with the owner mark of some blocks replaced (R166). -/
def Part.own (p : Part) (bs : List BlockIx) (o : Option Owner) : Part :=
  p.modEngine (fun g => { g with owners := markBlocks g.owners bs o })

/-- Frees data blocks: they lose their owner and return to the pool (R23). -/
def Part.freeBlocks (p : Part) (bs : List BlockIx) : Part :=
  p.modEngine (fun g => { g with owners := markBlocks g.owners bs none, freeBlocks := g.freeBlocks ++ bs })

/-- Frees an OTT entry (R21). -/
def Part.freeEntry (p : Part) (i : EntryIx) : Part :=
  p.modEngine (fun g => { g with freeEntries := g.freeEntries ++ [i] })

/-- Frees a hold slot (R24). -/
def Part.freeSlot (p : Part) (i : SlotIx) : Part :=
  p.modEngine (fun g => { g with freeSlots := g.freeSlots ++ [i] })

/-- The data blocks whose owner mark names an owner (R166). -/
def Part.ownedBlocks (p : Part) (o : Owner) : List BlockIx :=
  (List.finRange 1024).filter (fun b => p.engine.owners.get b == some o)

/-! ### Dispatch (R25, R26, R27) -/

/-- The swap limit of a recall depth (R25). -/
def swapLimitOf : Option (BitVec 6) → Nat
  | none => 16
  | some d => max 1 (min 16 d.toNat)

/-- Conditions 1 and 2 of R26: the window, and for a SWAP the swap limit. -/
def Part.windowAllows (p : Part) (n : StreamId) (k : ReqKind) : Bool :=
  decide ((p.stream n).inflight.length < p.params.streamWindow)
    && (k != .swap || decide ((p.stream n).swapCount < (p.stream n).swapLimit))

/-- Whether a request handed over now would be dispatched at once (R26). -/
def Part.dispatches (p : Part) (n : StreamId) (k : ReqKind) : Bool :=
  (p.stream n).state == .bound && p.windowAllows n k && !p.engine.freeEntries.isEmpty
    && (p.stream n).hold.isEmpty

/-- The OTT entry that dispatch fills from a request (R21, R26). -/
def Part.newEntry (p : Part) (n : StreamId) (i : EntryIx) (w : Work) : OttEntry :=
  let tag := if w.kind = .write then none else some w.tag
  { index := i, stream := n, seq := (p.stream n).nextSeq, kind := w.kind, tag := tag,
    address := w.address, length := w.length, blocks := w.blocks, phase := .queued,
    transmissions := 1, transmitTime := none, deadline := none, poisoned := w.poisoned,
    fate := { stream := n, kind := w.kind, tag := tag, transmitted := false } }

/-- Queues the REQUEST frame of an entry on the stream's carrier (R22). -/
def Part.queueRequest (p : Part) (n : StreamId) (e : OttEntry) : Part :=
  match (p.stream n).carrier with
  | some l => p.place l (p.requestFrame n e)
  | none => p

/-- Dispatches a request into a free OTT entry: the stream's next sequence, the tail of the in-flight
list, and a REQUEST frame on the carrier (R26). -/
def Part.dispatchInto (p : Part) (n : StreamId) (i : EntryIx) (rest : List EntryIx) (w : Work) : Part :=
  let e := p.newEntry n i w
  (((((p.modEngine (fun g => { g with freeEntries := rest })).own w.blocks (some (.entry i))).modStream n
    (fun r => { r with nextSeq := r.nextSeq + 1, inflight := r.inflight ++ [e] })).queueRequest n e).raise
    (.stream n .dispatched))

/-- Dispatches a request into the first free entry, if one is free. -/
def Part.dispatch (p : Part) (n : StreamId) (w : Work) : Part :=
  match p.engine.freeEntries with
  | [] => p
  | i :: rest => p.dispatchInto n i rest w

/-- Places a request at the tail of its stream's hold list (R24, R26). -/
def Part.holdWork (p : Part) (n : StreamId) (w : Work) : Part :=
  match p.engine.freeSlots with
  | [] => p
  | i :: rest =>
    ((p.modEngine (fun g => { g with freeSlots := rest })).own w.blocks (some (.slot i))).modStream n
      (fun r => { r with hold := r.hold ++ [Held.mk i n w] })

/-- Whether a stream's hold-list head meets conditions 1 and 2 of R26 in BOUND; such a stream that
lacks only a free entry is OTT-waiting (R27). -/
def Part.headReady (p : Part) (n : StreamId) : Bool :=
  match (p.stream n).hold with
  | [] => false
  | h :: _ => (p.stream n).state == .bound && p.windowAllows n h.work.kind

/-- Dispatches the head of a stream's hold list: it leaves its slot and takes a free entry (R27). -/
def Part.dispatchHead (p : Part) (n : StreamId) : Part :=
  match (p.stream n).hold with
  | [] => p
  | h :: rest => ((p.modStream n (fun r => { r with hold := rest })).freeSlot h.slot).dispatch n h.work

/-- Dispatches a stream's held requests in turn, at most `budget` of them (R27). -/
def Part.dispatchHeld (p : Part) (n : StreamId) : (budget : Nat) → Part
  | 0 => p
  | k + 1 =>
    if p.headReady n = true ∧ p.engine.freeEntries ≠ [] then (p.dispatchHead n).dispatchHeld n k else p

/-! ### The arbiter (R28) -/

/-- The streams in the arbiter's order: after the last stream served, wrapping from 63 to 0. -/
def Part.arbiterOrder (p : Part) : List StreamId :=
  (List.finRange 64).map (fun k => p.engine.lastServed + 1 + k)

/-- Serves the OTT-waiting streams one entry at a time, at most `budget` times (R28). -/
def Part.arbitrate (p : Part) : (budget : Nat) → Part
  | 0 => p
  | k + 1 =>
    if p.engine.freeEntries = [] then p
    else
      match p.arbiterOrder.find? p.headReady with
      | none => p
      | some n => ((p.dispatchHead n).modEngine (fun g => { g with lastServed := n })).arbitrate k

/-- The arbiter's work of one event: no more than 64 requests are held. -/
def Part.serve (p : Part) : Part := p.arbitrate 64

/-! ### Retirement (R21, R31) -/

/-- Retires an entry: it leaves its in-flight list, its blocks and its OTT entry are freed, and a frame
of it that still waits is removed (R21, R22). -/
def Part.retire (p : Part) (n : StreamId) (e : OttEntry) : Part :=
  ((((p.modStream n (fun r => { r with inflight := r.inflight.filter (fun x => x.index != e.index) })).freeBlocks
    e.blocks).freeEntry e.index).unqueue (fun f => f.isRequestOf n e.seq))

/-- Retires a WRITE at or before a mark, counting it when the mark alone retires it (R31, R158). -/
def Part.retireWrite (p : Part) (n : StreamId) (own : Option Seq) (e : OttEntry) : Part :=
  let q := p.retire n e
  if own = some e.seq then q else q.raise (.stream n .writesRetiredByMark)

/-- Retires every WRITE at or serially before a mark, in sequence order (R31, R120). -/
def Part.retireWrites (p : Part) (n : StreamId) (mark : Seq) (own : Option Seq) : Part :=
  ((p.stream n).inflight.filter (fun e => e.kind == .write && serialAtOrBefore e.seq mark)).foldl
    (fun q e => q.retireWrite n own e) p

/-- The applied mark after an ANSWER for a sequence: it never moves backward (R31). -/
def advanceMark (mark : Option Seq) (s : Seq) : Seq :=
  match mark with
  | none => s
  | some m => if serialBefore m s then s else m

end Sys2Proof.Machine
end

