-- ==== Sys2Proof/Machine/Binding.lean ====
section
/-! DEFINITION. Binding, stall, rewind, failover, planned moves and their drains, the end of a binding,
disposal and FAULTED (chapters 7 and 8). -/

namespace Sys2Proof.Machine

/-! ### Entering BINDING (R114) and STALLED (R125) -/

/-- The coding of a lane in the details of stream events: FFh for none (R115, R140). -/
def laneByteOf : Option Lane → Nat
  | some l => l.code
  | none => 255

/-- A drain deadline stopped, keeping its remaining time (R114, R131). -/
def Drain.stop (now : Micros) : Drain → Drain
  | .running t => .stopped (t - now)
  | .stopped left => .stopped left
  | .absent => .absent

/-- A stopped drain deadline resumed with its remaining time (R139). -/
def Drain.resume (now : Micros) : Drain → Drain
  | .stopped left => .running (now + left)
  | .running t => .running t
  | .absent => .absent

/-- A move whose drain deadline has become absent (R135, R137, R138). -/
def Move.over (m : Move) : Move := { m with drain := .absent }

/-- An entry returned to QUEUED, its deadline cancelled (R22, R114). -/
def OttEntry.requeued (e : OttEntry) : OttEntry := { e with phase := .queued, deadline := none }

/-- Steps 1 to 3 of R114 on the stream's record, with the kind of the binding kept for a choice made
again (R108, R116). -/
def StreamRec.opened (r : StreamRec) (now : Micros) (k : BindingKind) : StreamRec :=
  { r with
    state := .binding, epoch := r.epoch + 1, inflight := r.inflight.map OttEntry.requeued,
    askTimer := none, returnTimer := none, binding := k,
    move := r.move.map (fun m => { m with drain := m.drain.stop now }) }

/-- Steps 1 to 3 of R114, with the count of the entry to BINDING (R158). -/
def Part.openBinding (p : Part) (n : StreamId) (k : BindingKind) : Part :=
  ((p.modStream n (fun r => r.opened p.now k)).dropFrames n).raise (.stream n .bindings)

/-- Step 5 of R114: the lane found becomes the carrier, and the first ASK is queued on it. A move's
drain stays stopped only on the carrier the stream had just before (R138). -/
def Part.landOn (p : Part) (n : StreamId) (l : Lane) : Part :=
  let q := p.modStream n (fun r =>
    { r with carrier := some l, askAttempts := 1,
             move := if r.carrier = some l then r.move else r.move.map Move.over })
  q.place l (q.askFrame n)

/-- A pending move ends at STALLED: MOVE_ABANDONED names no lane (R138, R140). -/
def Part.abandonAtStall (p : Part) (n : StreamId) : Part :=
  match (p.stream n).move with
  | none => p
  | some m =>
    (p.modStream n (fun r => { r with move := none })).event .moveAbandoned none (some n)
      (bytePair (laneByteOf m.target) 255)

/-- The record of a stream that enters STALLED (R125). -/
def StreamRec.stalled (r : StreamRec) : StreamRec :=
  { r with state := .stalled, carrier := none, askTimer := none, askAttempts := 0 }

/-- Sets the stall deadline and logs STREAM_STALLED, when no stall deadline is present (R125). -/
def Part.startStall (p : Part) (n : StreamId) : Part :=
  match (p.stream n).stallDeadline with
  | some _ => p
  | none =>
    (p.modStream n (fun r => { r with stallDeadline := some (p.now + p.params.stallLimit * 100000) })).event
      .streamStalled none (some n) (sat16 (p.stream n).inflight.length)

/-- Entry to STALLED (R125). -/
def Part.stall (p : Part) (n : StreamId) : Part :=
  ((p.abandonAtStall n).modStream n StreamRec.stalled).startStall n

/-- Steps 4 to 6 of R114: the choice, and the carrier or STALLED. -/
def Part.settleChoice (p : Part) (n : StreamId) (k : BindingKind) : Part :=
  match p.chooseFor n k with
  | some l => p.landOn n l
  | none => p.stall n

/-- Entry to BINDING with a kind of binding (R114). -/
def Part.bind (p : Part) (n : StreamId) (k : BindingKind) : Part := (p.openBinding n k).settleChoice n k

/-- A binding that names no lane: a first binding, or a release from STALLED (R108). -/
def BindingKind.plain : BindingKind := ⟨none, none⟩

/-- Logs STREAM_MIGRATED when a stream has reached a lane other than the one left (R115, R135). -/
def Part.migrated (p : Part) (n : StreamId) (left : Lane) : Part :=
  match (p.stream n).carrier with
  | some l => if l = left then p else p.event .streamMigrated (some l) (some n) (bytePair left.code l.code)
  | none => p

/-! ### Rewind (R124) -/

/-- The causes of a rewind (R124). -/
inductive RewindCause where
  | missingResult | gap | deadline
  deriving DecidableEq, Repr

/-- The detail of STREAM_REWOUND. -/
def RewindCause.code : RewindCause → BitVec 16
  | .missingResult => 1
  | .gap => 2
  | .deadline => 3

/-- The weight a rewind's cause hands to the carrier (R113). -/
def RewindCause.weight : RewindCause → ReportCause
  | .missingResult => .sequenceBreak
  | .gap => .sequenceBreak
  | .deadline => .deadlineMiss

/-- A rewind on a carrier (R124). -/
def Part.rewindOn (p : Part) (n : StreamId) (l : Lane) (c : RewindCause) : Part :=
  (((((p.report (.weight l c.weight)).event .streamRewound (some l) (some n) c.code).raise
    (.stream n .rewinds)).bind n ⟨some l, none⟩).report (.storm l))

/-- A rewind of a stream that has a carrier (R124). -/
def Part.rewind (p : Part) (n : StreamId) (c : RewindCause) : Part :=
  match (p.stream n).carrier with
  | some l => p.rewindOn n l c
  | none => p

/-! ### Failover and release (R115, R126) -/

/-- The target of a pending MANUAL move, distinguished in a failover (R108). -/
def StreamRec.manualTarget (r : StreamRec) : Option Lane :=
  match r.move with
  | some m => if m.cause = .manual then m.target else none
  | none => none

/-- A stream loses its carrier; from BINDING or REPLAYING the lane joins the tried set (R110, R115). -/
def StreamRec.lostCarrier (r : StreamRec) (l : Lane) : StreamRec :=
  { r with carrier := none,
           tried := if r.state = .binding ∨ r.state = .replaying then r.tried.add l else r.tried }

/-- The failover of one stream off a lane (R115). -/
def Part.failover (p : Part) (n : StreamId) (l : Lane) : Part :=
  let q := p.modStream n (fun r => r.lostCarrier l)
  (q.bind n ⟨(p.stream n).manualTarget, none⟩).migrated n l

/-- Takes up every stream carried by a lane, in increasing stream number (R115). -/
def Part.failoverAll (p : Part) (l : Lane) : Part :=
  allStreams.foldl (fun q n => if (q.stream n).carrier = some l then q.failover n l else q) p

/-- Releases one STALLED stream into BINDING (R126). -/
def Part.release (p : Part) (n : StreamId) : Part :=
  (p.modStream n (fun r => { r with tried := .empty })).bind n .plain

/-- Releases every STALLED stream, in increasing stream number (R126). -/
def Part.releaseStalled (p : Part) : Part :=
  allStreams.foldl (fun q n => if (q.stream n).state = .stalled then q.release n else q) p

/-! ### Planned moves (R131 to R135) -/

/-- The kind of the binding that ends a drain (R108, R135). -/
def Move.kind (m : Move) : BindingKind :=
  match m.cause with
  | .manual | .leaving => ⟨m.target, some m.left⟩
  | .returning => ⟨m.target, none⟩

/-- The end of a drain (R135). -/
def Part.endDrain (p : Part) (n : StreamId) : Part :=
  match (p.stream n).move with
  | none => p
  | some m =>
    ((p.modStream n (fun r => { r with move := some m.over })).bind n m.kind).migrated n m.left

/-- Ends the drain of a DRAINING stream whose in-flight list is empty (R132, R135, R139). -/
def Part.judgeDrain (p : Part) (n : StreamId) : Part :=
  if (p.stream n).state = .draining ∧ (p.stream n).inflight = [] then p.endDrain n else p

/-- Starts a planned move on the present carrier (R132). -/
def Part.startMove (p : Part) (n : StreamId) (target : Option Lane) (cause : MoveCause) : Part :=
  match (p.stream n).carrier with
  | none => p
  | some l =>
    (p.modStream n (fun r =>
      { r with state := .draining, returnTimer := none,
               move := some { target := target, cause := cause, left := l,
                              drain := .running (p.now + p.params.drainLimit * 1000) } })).judgeDrain n

/-- Starts a LEAVING move of a stream BOUND, with no pending move, on a leaving carrier (R134). -/
def Part.judgeLeaving (p : Part) (n : StreamId) : Part :=
  match (p.stream n).carrier with
  | none => p
  | some l =>
    if (p.stream n).state = .bound ∧ (p.stream n).move = none ∧ (p.lane l).leaving = true then
      p.startMove n (p.chooseFor n ⟨none, some l⟩) .leaving
    else p

/-- Judges the leaving rule for every stream on a lane that has become leaving, in increasing stream
number (R134). -/
def Part.leavingMoves (p : Part) (l : Lane) : Part :=
  allStreams.foldl (fun q n => if (q.stream n).carrier = some l then q.judgeLeaving n else q) p

/-! ### The return timer (R141) -/

/-- The conditions under which a stream's return timer runs. -/
def Part.returnHolds (p : Part) (n : StreamId) : Bool :=
  let r := p.stream n
  r.policy == .returning && r.state == .bound && r.move == none && r.carrier != some r.preferred
    && (p.lane r.preferred).state == .active && !(p.lane r.preferred).leaving

/-- Judges a stream's return timer: it starts at its full length when the conditions come to hold, and
becomes absent when one stops holding. -/
def Part.judgeReturn (p : Part) (n : StreamId) : Part :=
  if p.returnHolds n then
    match (p.stream n).returnTimer with
    | some _ => p
    | none =>
      p.modStream n (fun r => { r with returnTimer := some (p.now + p.params.returnDelay * 1000000) })
  else p.modStream n (fun r => { r with returnTimer := none })

/-- Judges the return timer of every stream that prefers a lane. -/
def Part.judgeReturns (p : Part) (l : Lane) : Part :=
  allStreams.foldl (fun q n => if (q.stream n).preferred = l then q.judgeReturn n else q) p

/-! ### The end of a binding (R122, R139) -/

/-- The record of a stream that enters BOUND (R122). -/
def StreamRec.bound (r : StreamRec) : StreamRec :=
  { r with state := .bound, tried := .empty, askAttempts := 0, stallDeadline := none }

/-- What follows an entry to BOUND: the leaving rule, the hold list, the arbiter, the return timer
(R122, R134, R136, R141). -/
def Part.afterBound (p : Part) (n : StreamId) : Part :=
  (((p.judgeLeaving n).dispatchHeld n 64).serve).judgeReturn n

/-- A move's final binding ends (R139, R140). -/
def Part.finishMove (p : Part) (n : StreamId) (m : Move) : Part :=
  ((p.modStream n (fun r => { r.bound with move := none })).event .moveDone (p.stream n).carrier (some n)
    (bytePair (laneByteOf m.target) (laneByteOf (p.stream n).carrier))).afterBound n

/-- A drain resumes after a binding (R139). -/
def Part.resumeDrain (p : Part) (n : StreamId) (m : Move) : Part :=
  (p.modStream n (fun r =>
    { r.bound with state := .draining, move := some { m with drain := m.drain.resume p.now } })).judgeDrain n

/-- The end of a binding (R122, R139). -/
def Part.endBinding (p : Part) (n : StreamId) : Part :=
  match (p.stream n).move with
  | none => (p.modStream n StreamRec.bound).afterBound n
  | some m => if m.drain = .absent then p.finishMove n m else p.resumeDrain n m

/-- Ends the binding of a REPLAYING stream none of whose replayed frames waits in its carrier's queue
(R122). -/
def Part.judgeReplay (p : Part) (n : StreamId) : Part :=
  match (p.stream n).carrier with
  | none => p
  | some l =>
    if (p.stream n).state = .replaying ∧ (p.lane l).holdsRequest n = false then p.endBinding n else p

/-- Replays one entry under the new epoch (R121). -/
def Part.replayEntry (p : Part) (n : StreamId) (i : EntryIx) : Part :=
  match (p.stream n).inflight.find? (fun e => e.index == i) with
  | none => p
  | some e =>
    let e' := { e with transmissions := min 255 (e.transmissions + 1) }
    ((p.modStream n (fun r =>
      { r with inflight := r.inflight.map (fun x => if x.index = i then e' else x) })).queueRequest n e').raise
        (.stream n .replayed)

/-- Entry to REPLAYING: every entry on the in-flight list is replayed in sequence order (R121). -/
def Part.replay (p : Part) (n : StreamId) : Part :=
  ((p.stream n).inflight.map OttEntry.index).foldl (fun q i => q.replayEntry n i)
    (p.modStream n (fun r => { r with state := .replaying }))

/-! ### Disposal (R128) -/

/-- What a disposal trusts of an entry: its own fields, or its fate copy when its check failed, whose
sequence is unknown (R166, R170). -/
structure Ending where
  kind : ReqKind
  tag : Option HostTag
  transmitted : Bool
  detail : BitVec 16
  deriving DecidableEq, Repr

/-- The ending of an entry; `failed` is the entry whose check failed. -/
def OttEntry.ending (failed : Option EntryIx) (e : OttEntry) : Ending :=
  if failed = some e.index then ⟨e.fate.kind, e.fate.tag, e.fate.transmitted, 0xFFFF⟩
  else ⟨e.kind, e.tag, e.transmitTime.isSome, e.seq.setWidth 16⟩

/-- The completion, and for a transmitted SWAP the event, of one entry given up (R128, step 1). -/
def Part.giveUp (p : Part) (n : StreamId) (x : Ending) : Part :=
  match x.kind with
  | .read => p.complete n x.tag .pathLost []
  | .swap =>
    if x.transmitted then
      (p.complete n x.tag .outcomeUnknown []).event .outcomeUnknown none (some n) x.detail
    else p.complete n x.tag .pathLost []
  | .write => p

/-- The completion of a held request given up with a status (R40, R128). -/
def Part.giveUpHeld (p : Part) (n : StreamId) (status : CompletionStatus) (h : Held) : Part :=
  if h.work.kind = .write then p else p.complete n (some h.work.tag) status []

/-- The WRITEs given up whose fate is unknown (R40, R128). -/
def fateUnknown (xs : List Ending) : Nat := xs.countP (fun x => x.kind == .write && x.transmitted)

/-- The WRITEs given up that never left the part (R40, R128). -/
def fateDropped (xs : List Ending) (hs : List Held) : Nat :=
  xs.countP (fun x => x.kind == .write && !x.transmitted) + hs.countP (fun h => h.work.kind == .write)

/-- Logs a count of a disposal as one event, unless it is 0 (R40, R128). -/
def Part.logCount (p : Part) (kind : EventKind) (n : StreamId) (count : Nat) : Part :=
  if count = 0 then p else p.event kind none (some n) (sat16 count)

/-- Empties a stream's lists, freeing its entries, slots and blocks (R21, R23, R24); the blocks of a
failed entry are found by their owner marks (R170). -/
def Part.emptyStream (p : Part) (n : StreamId) (failed : Option EntryIx) : Part :=
  let r := p.stream n
  let blocksOf := fun (e : OttEntry) =>
    if failed = some e.index then p.ownedBlocks (.entry e.index) else e.blocks
  ((p.modStream n (fun r => { r with inflight := [], hold := [] })).freeBlocks
      (r.inflight.flatMap blocksOf ++ r.hold.flatMap (fun h => h.work.blocks))).modEngine
    (fun g => { g with freeEntries := g.freeEntries ++ r.inflight.map OttEntry.index,
                       freeSlots := g.freeSlots ++ r.hold.map Held.slot })

/-- A disposal (R128). -/
def Part.dispose (p : Part) (n : StreamId) (failed : Option EntryIx) : Part :=
  let xs := (p.stream n).inflight.map (OttEntry.ending failed)
  let hs := (p.stream n).hold
  (((hs.foldl (fun q h => q.giveUpHeld n .pathLost h) (xs.foldl (fun q x => q.giveUp n x) p)).logCount
    .writeFateUnknown n (fateUnknown xs)).logCount .writesDropped n (fateDropped xs hs)).emptyStream n failed

/-- The completions a disposal hands to the host request port: orphaned ones are not counted (R127). -/
def StreamRec.handed (r : StreamRec) : Nat :=
  r.inflight.countP (fun e => e.kind != .write && e.tag.isSome)
    + r.hold.countP (fun h => h.work.kind != .write)

/-- The record of a stream that has been given up or emptied: IDLE or FAULTED (R39, R127, R129); its
epoch, next sequence and write rejections seen are kept. -/
def StreamRec.ended (r : StreamRec) (state : StreamState) : StreamRec :=
  { r with
    state := state, carrier := none, mark := none, recallDepth := none, swapLimit := 16,
    tried := .empty, askAttempts := 0, askTimer := none, binding := .plain, stallDeadline := none,
    move := none, returnTimer := none }

/-- Entry to FAULTED (R129), without the arbiter's work. STREAM_FAULTED names the carrier the record holds before it
is rewritten, also when the record itself has failed (log entry 54: DESIGN CHOICE). -/
def Part.enterFaulted (p : Part) (n : StreamId) (reason : BitVec 16) (failed : Option EntryIx) : Part :=
  (((p.event .streamFaulted (p.stream n).carrier (some n) reason).dropFrames n).dispose n failed).modStream n
    (fun r => r.ended .faulted)

/-- Entry to FAULTED; the freed entries are served by the arbiter (R128, R129). -/
def Part.fault (p : Part) (n : StreamId) (reason : BitVec 16) (failed : Option EntryIx) : Part :=
  (p.enterFaulted n reason failed).serve

/-- The expiry of a stall deadline (R127). -/
def Part.expireStall (p : Part) (n : StreamId) : Part :=
  ((((p.dropFrames n).dispose n none).event .streamPathLost none (some n)
    (sat16 (p.stream n).handed)).modStream n (fun r => r.ended .idle)).serve

/-! ### Warm restart of a stream (R40) -/

/-- The completion of one entry at a warm restart (R40, step 1). -/
def Part.restartEntry (p : Part) (n : StreamId) (e : OttEntry) : Part :=
  if e.kind = .write then p else p.complete n e.tag .restarted []

/-- A warm restart empties one stream (R40). -/
def Part.restartStream (p : Part) (n : StreamId) : Part :=
  let es := (p.stream n).inflight
  let xs := es.map (OttEntry.ending none)
  let hs := (p.stream n).hold
  ((((hs.foldl (fun q h => q.giveUpHeld n .restarted h) (es.foldl (fun q e => q.restartEntry n e) p)).logCount
    .writeFateUnknown n (fateUnknown xs)).logCount .writesDropped n (fateDropped xs hs)).emptyStream n
    none).modStream n (fun r => r.ended .idle)

end Sys2Proof.Machine
end

