-- ==== Sys2Proof/Machine/LaneUnit.lean ====
section
/-! DEFINITION. The lane unit and the side monitor: changes of lane state and their effects (R66, R67),
side states and suspect marks (R103 to R105), the distress figure and its thresholds (R89 to R94),
training, qualification and the pattern checker (R71 to R77, R164, R165), partner states (R79). -/

namespace Sys2Proof.Machine

/-! ### The side monitor (R103 to R105) -/

/-- The side state of two lane states (R103). -/
def sideStateOf (x y : LaneState) : SideState :=
  match x.inService, y.inService with
  | true, true => .up
  | false, false => .lost
  | _, _ => .impaired

/-- The side state that a side's two lanes give (R103). -/
def Part.derivedSide (p : Part) : Side → SideState
  | .a => sideStateOf p.lanes.a0.state p.lanes.a1.state
  | .b => sideStateOf p.lanes.b0.state p.lanes.b1.state

/-- The last loss time of a lane (R102). -/
def Part.lastLoss (p : Part) : Lane → Option Micros
  | .a0 => p.sides.a.lastLoss0
  | .a1 => p.sides.a.lastLoss1
  | .b0 => p.sides.b.lastLoss0
  | .b1 => p.sides.b.lastLoss1

/-- Sets a lane's last loss time to now (R103). -/
def Part.noteLoss (p : Part) (l : Lane) : Part :=
  p.modSide l.side (fun r =>
    if l.index = 0 then { r with lastLoss0 := some p.now } else { r with lastLoss1 := some p.now })

/-- Sets or clears the suspect mark at an entry into DOWN or HELD (R105). -/
def Part.markSuspect (p : Part) (d : Side) : Part :=
  p.modSide d (fun r =>
    { r with suspectUntil :=
        if p.params.suspectWindow = 0 then none else some (p.now + p.params.suspectWindow * 1000) })

/-- The detail of SIDE_LOST: whole ms since the other lane's last loss, FFFFh when it has none (R104). -/
def Part.lostDetail (p : Part) (l : Lane) : BitVec 16 :=
  match p.lastLoss l.sibling with
  | some t => wholeMs (p.now - t)
  | none => 0xFFFF

/-- Sets the side state afresh and logs SIDE_LOST or SIDE_RESTORED (R103, R104). -/
def Part.updateSide (p : Part) (l : Lane) : Part :=
  let was := (p.side l.side).state
  let new := p.derivedSide l.side
  let q := p.modSide l.side (fun r => { r with state := new })
  if was ≠ .lost ∧ new = .lost then
    (q.modSide l.side (fun r => { r with lostSince := p.now })).event .sideLost (some l) none
      (p.lostDetail l)
  else if was = .lost ∧ new ≠ .lost then
    q.event .sideRestored (some l) none (wholeMs (p.now - (p.side l.side).lostSince))
  else q

/-- The side monitor takes a lane's change of state from `old` to `new` (R103 to R105). -/
def Part.sideTakes (p : Part) (l : Lane) (old new : LaneState) : Part :=
  let p1 := if old.inService = true ∧ new.inService = false then p.noteLoss l else p
  let p2 := if new = .down ∨ new = .held then p1.markSuspect l.side else p1
  p2.updateSide l

/-! ### Changes of lane state (R66) -/

/-- The effects of a change of state on the lane's own record (R66). -/
def LaneRec.moved (r : LaneRec) (new : LaneState) : LaneRec :=
  let r1 :=
    if r.state.inService = true ∧ new.inService = false then
      { r with queue := [], restartPending := false,
               timers := { r.timers with pause := none, storm := none } }
    else r
  match new with
  | .quiet | .down | .off => { r1 with state := new, queue := [], timers := Timers.stopped, checker := none }
  | _ => { r1 with state := new }

/-- What a lane's change of state does to the streams (R66, R115, R126, R141). -/
def Part.streamsTake (p : Part) (l : Lane) (old new : LaneState) : Part :=
  let p1 := if old.inService = true ∧ new.inService = false then p.failoverAll l else p
  let p2 := if new = .active ∧ old ≠ .active then p1.releaseStalled else p1
  p2.judgeReturns l

/-- A change of lane state at the lane and its side: the lane's record with `enter` applied to it, the lane's
own event `log`, then the side monitor (R66, R104). -/
def Part.moveLane (p : Part) (l : Lane) (new : LaneState) (enter : LaneRec → LaneRec)
    (log : Part → Part) : Part :=
  (log (p.modLane l (fun r => enter (r.moved new)))).sideTakes l (p.lane l).state new

/-- A change of lane state: the lane and its side, then the streams (R66, R104, R106). The lane's and the side's
events are logged before the streams' (R150; log entry 59: DESIGN CHOICE). -/
def Part.changeLane (p : Part) (l : Lane) (new : LaneState) (enter : LaneRec → LaneRec)
    (log : Part → Part) : Part :=
  (p.moveLane l new enter log).streamsTake l (p.lane l).state new

/-- What the streams take of the changes that one event has made at several lanes, after all of them: failovers
lane by lane, then the release of STALLED streams, then the return timers. Every choice reads the lanes and sides
as all the changes leave them (R112, R115; the order is log entry 42: DESIGN CHOICE). `was` is the part before the
changes. -/
def Part.streamsFollow (p was : Part) : Part :=
  let p1 := Lane.all.foldl (fun q l =>
    if (was.lane l).state.inService = true ∧ (p.lane l).state.inService = false then q.failoverAll l else q) p
  let p2 :=
    if Lane.all.any (fun l => (p.lane l).state == .active && (was.lane l).state != .active) then
      p1.releaseStalled
    else p1
  Lane.all.foldl (fun q l => if (p.lane l).state = (was.lane l).state then q else q.judgeReturns l) p2

/-- Logs a lane event (R67). -/
def laneEvent (kind : EventKind) (l : Lane) (detail : BitVec 16) (p : Part) : Part :=
  p.event kind (some l) none detail

/-- Entry to QUIET: a PROBE is queued and the probe timer starts at 100 ms (R71); an exit from OFF clears
the requalify failures and the near loopback (R83). -/
def Part.enterQuiet (p : Part) (l : Lane) (log : Part → Part) : Part :=
  let wasOff := (p.lane l).state == .off
  p.changeLane l .quiet
    (fun r =>
      { r with
        offReason := none, partnerLeaving := false, restartPending := false,
        requalify := if wasOff then 0 else r.requalify,
        loopback := if wasOff then false else r.loopback,
        loopPath := if wasOff then [] else r.loopPath,
        queue := [p.probeFrame], timers := { Timers.stopped with probe := some (p.now + 100000) } })
    log

/-- The causes of LANE_DOWN (R67). -/
inductive DownCause where
  | linkLoss | partnerLinkFail | silence | distress | qualifyFailed | disabled
  deriving DecidableEq, Repr

/-- The code of a cause of LANE_DOWN (R67). -/
def DownCause.code : DownCause → Nat
  | .linkLoss => 1
  | .partnerLinkFail => 2
  | .silence => 3
  | .distress => 4
  | .qualifyFailed => 5
  | .disabled => 6

/-- Entry to DOWN at the lane and its side: the hold-down starts and LANE_DOWN is logged (R67, R82). DOWN_ENTRIES
is raised before the event is logged (log entry 50: DESIGN CHOICE for the order of a COUNTER_HALF). -/
def Part.downLane (p : Part) (l : Lane) (cause : DownCause) (low : Nat) : Part :=
  p.moveLane l .down
    (fun r => { r with timers := { Timers.stopped with holdDown := some (p.now + p.params.holdDown * 10000) } })
    (fun q => laneEvent .laneDown l (bytePair cause.code low) (q.raise (.lane l .downEntries)))

/-- Entry to DOWN (R66, R67, R82). -/
def Part.enterDown (p : Part) (l : Lane) (cause : DownCause) (low : Nat) : Part :=
  (p.downLane l cause low).streamsTake l (p.lane l).state .down

/-- Entry to OFF with a reason (R66, R83). -/
def Part.enterOff (p : Part) (l : Lane) (reason : OffReason) (log : Part → Part) : Part :=
  p.changeLane l .off
    (fun r => { r with offReason := some reason, partnerLeaving := false, restartPending := false }) log

/-- A mismatch takes the lane to OFF (R75, R79). -/
def Part.mismatch (p : Part) (l : Lane) (reason : Nat) (port : Byte) : Part :=
  p.enterOff l .mismatch (laneEvent .laneMismatch l (bytePair reason port.toNat))

/-- The storm period started afresh with a count of 0 (R81). -/
def LaneRec.freshStorm (r : LaneRec) (now : Micros) : LaneRec :=
  { r with storm := 0, timers := { r.timers with storm := some (now + 100000) } }

/-- Entry to ACTIVE from DEGRADED at the lane and its side (R81, R94). -/
def Part.recoverLane (p : Part) (l : Lane) : Part :=
  p.moveLane l .active (fun r => r.freshStorm p.now) (laneEvent .laneUp l 2)

/-- Entry to ACTIVE from QUALIFY (R77). -/
def Part.qualified (p : Part) (l : Lane) : Part :=
  p.changeLane l .active
    (fun r => { r.freshStorm p.now with figure := 0, latency := 100, requalify := 0 })
    (laneEvent .laneUp l 1)

/-- Entry to DEGRADED at the lane and its side (R67, R94). -/
def Part.degradeLane (p : Part) (l : Lane) : Part :=
  p.moveLane l .degraded id (laneEvent .laneDegraded l (sat16 (p.lane l).figure))

/-- BEAT_INTERVAL in µs (R180). -/
def Params.beatUs (q : Params) : Nat := q.beatInterval * 250

/-- The timers at entry to HELD: the held timer runs 500 ms (R81). A beat timer found stopped, because its BEAT was
among the frames R66 has just removed, starts again, so that the lane goes on beating in HELD (R70, log entry 49:
DESIGN CHOICE). -/
def Timers.inHeld (t : Timers) (now : Micros) (beatUs : Nat) : Timers :=
  { t with held := some (now + 500000), beat := if t.beat = none then some (now + beatUs) else t.beat }

/-- Entry to HELD: LANE_HELD is logged with the count (R81). -/
def Part.hold (p : Part) (l : Lane) : Part :=
  p.changeLane l .held (fun r => { r with timers := r.timers.inHeld p.now p.params.beatUs })
    (laneEvent .laneHeld l (sat16 (p.lane l).storm))

/-! ### The distress figure (R89 to R94) -/

/-- A suppressed outcome under KEEP: the first one sets the flag and logs PIN_SUPPRESSED (R86). -/
def Part.suppress (p : Part) (l : Lane) (move : BitVec 16) : Part :=
  if (p.lane l).suppressed then p
  else (p.modLane l (fun r => { r with suppressed := true })).event .pinSuppressed (some l) none move

/-- A move to DOWN that the thresholds call for, suppressed under KEEP (R86, R94). -/
def Part.distressDown (p : Part) (l : Lane) : Part :=
  if (p.lane l).pin = .keep then p.suppress l 2 else p.downLane l .distress 0

/-- A move to DEGRADED that the thresholds call for, suppressed under KEEP (R86, R94). -/
def Part.distressDegrade (p : Part) (l : Lane) : Part :=
  if (p.lane l).pin = .keep then p.suppress l 1 else p.degradeLane l

/-- The threshold evaluation at the lane and its side (R94). -/
def Part.evaluateLane (p : Part) (l : Lane) : Part :=
  match (p.lane l).state with
  | .active =>
    if p.params.downLevel ≤ (p.lane l).figure then p.distressDown l
    else if p.params.warnLevel ≤ (p.lane l).figure then p.distressDegrade l
    else p
  | .degraded =>
    if p.params.downLevel ≤ (p.lane l).figure then p.distressDown l
    else if (p.lane l).figure ≤ p.params.clearLevel then p.recoverLane l
    else p
  | _ => p

/-- The threshold evaluation of one lane, and what its outcome does to the streams (R66, R94). -/
def Part.evaluate (p : Part) (l : Lane) : Part := (p.evaluateLane l).streamsFollow p

/-- A weighted increment: in ACTIVE or DEGRADED it raises the figure, saturating at 1023, and the
evaluation follows when the figure has changed (R90, R94). -/
def Part.addWeight (p : Part) (l : Lane) (w : Nat) : Part :=
  if (p.lane l).state.inService = true ∧ (p.lane l).figure < 1023 then
    (p.modLane l (fun r => { r with figure := min 1023 (r.figure + w) })).evaluate l
  else p

/-- One leak tick at one lane (R93). -/
def Part.leak (p : Part) (l : Lane) : Part :=
  if (p.lane l).figure = 0 ∨ p.params.leak = 0 then p
  else (p.modLane l (fun r => { r with figure := r.figure - p.params.leak })).evaluate l

/-- The figure forced to 1023 in ACTIVE or DEGRADED, then DOWN (R92). -/
def Part.forceDown (p : Part) (l : Lane) (cause : DownCause) : Part :=
  (p.modLane l (fun r => { r with figure := if r.state.inService then 1023 else r.figure })).enterDown l
    cause 0

/-! ### Partner states (R79) -/

/-- OFFLINE from the partner: partner-leaving is set, and going from clear to set it logs PARTNER_OFFLINE
and, if the lane was not leaving already, starts LEAVING moves, whose own events come after it (R79, R134, R150; log
entry 58: DESIGN CHOICE). -/
def Part.partnerOffline (p : Part) (l : Lane) : Part :=
  if (p.lane l).partnerLeaving then p
  else
    let q := (p.modLane l (fun r => { r with partnerLeaving := true })).event .partnerOffline (some l) none
      (BitVec.ofNat 16 (p.lane l).state.code)
    ((if (p.lane l).leaving then q else q.leavingMoves l)).judgeReturns l

/-- The partner state written into the partner page data when that is present (R79). -/
def LaneRec.withPartner (r : LaneRec) (c : PartnerState) : LaneRec :=
  { r with page := r.page.map (fun g => { g with partner := c }) }

/-- The port byte of the partner page data, 0 when it is absent (R67, R79). -/
def LaneRec.partnerPort (r : LaneRec) : Byte :=
  match r.page with
  | some g => g.port
  | none => 0

/-- A partner state code is taken (R79). -/
def Part.takePartner (p : Part) (l : Lane) (c : PartnerState) : Part :=
  let q := p.modLane l (fun r => r.withPartner c)
  match c with
  | .ok => (q.modLane l (fun r => { r with partnerLeaving := false })).judgeReturns l
  | .offline => q.partnerOffline l
  | .linkFail => q.forceDown l .partnerLinkFail
  | .configError => q.mismatch l 4 (q.lane l).partnerPort

/-! ### Training (R71 to R75) -/

/-- The reason a BASE page is a mismatch (R75). -/
def mismatchReason (l : Lane) (g : BasePage) : Option Nat :=
  if g.side ≠ sideByte l.side then some 1
  else if g.maxPayload.toNat < 256 then some 2
  else if g.resume = false then some 3
  else if g.partner = .configError then some 4
  else none

/-- The page timer started at 10 ms (R72, R74). -/
def Part.startPageTimer (p : Part) (l : Lane) : Part :=
  p.modLane l (fun r => { r with timers := { r.timers with page := some (p.now + 10000) } })

/-- Entry to TRAINING: the progress is cleared, the toggle inverted, and a BASE page is queued (R71, R72). -/
def Part.startTraining (p : Part) (l : Lane) : Part :=
  let q := p.changeLane l .training
    (fun r =>
      { r with
        training := { next := false, ownAck := false, seen := 0, last := none,
                      toggle := !r.training.toggle, resends := 0 },
        timers := { r.timers with probe := none } })
    id
  (q.place l (q.basePage l)).startPageTimer l

/-- The pages-seen count after a BASE page (R72). -/
def Training.sees (t : Training) (g : BasePage) : Training :=
  if t.last = some g then { t with seen := min 2 (t.seen + 1) }
  else { t with seen := 1, last := some g }

/-- Own ack is set when two identical pages have been seen; the acked page is progress (R72, R74). -/
def Part.setAck (p : Part) (l : Lane) : Part :=
  let q := p.modLane l (fun r => { r with training := { r.training with ownAck := true, resends := 0 } })
  (q.place l (q.basePage l)).startPageTimer l

/-- The end of phase BASE: a NEXT page is queued, which is progress (R72, R74). -/
def Part.startNext (p : Part) (l : Lane) : Part :=
  let q := p.modLane l (fun r => { r with training := { r.training with next := true, resends := 0 } })
  (q.place l (q.nextPage l)).startPageTimer l

/-- A BASE page in TRAINING: the pages seen in either phase, and in phase BASE own ack, and the end of the phase on
an acked page that finds own ack set (R72, R73). -/
def Part.trainBase (p : Part) (l : Lane) (ack : Bool) (g : BasePage) : Part :=
  let t := (p.lane l).training
  let q := p.modLane l (fun r => { r with training := r.training.sees g })
  if t.next then q
  else if t.ownAck then (if ack then q.startNext l else q)
  else if (q.lane l).training.seen = 2 then q.setAck l
  else q

/-- A BASE page taken in TRAINING: mismatch, partner state, partner page data, progress (R72, R73, R75). -/
def Part.takeBasePage (p : Part) (l : Lane) (ack : Bool) (g : BasePage) : Part :=
  match mismatchReason l g with
  | some reason => (p.modLane l (fun r => { r with page := some g })).mismatch l reason g.port
  | none =>
    let q := (p.takePartner l g.partner).modLane l (fun r => { r with page := some g })
    if (q.lane l).state = .training then q.trainBase l ack g else q

/-! ### Qualification and the pattern checker (R76, R77, R164, R165) -/

/-- Entry to QUALIFY: the burst of 256 TEST frames starts, and from TRAINING the beat and silence timers
(R76). -/
def Part.startQualify (p : Part) (l : Lane) : Part :=
  let training := (p.lane l).state == .training
  p.changeLane l .qualify
    (fun r =>
      { r with
        errorBytes := 0, checker := some { owner := .qualify, length := 256, sent := 0, compared := 0 },
        queue := r.queue ++ p.burstFrames true 256,
        timers :=
          { r.timers with
            page := none, held := none,
            beat := if training then some (p.now + p.params.beatUs) else r.timers.beat,
            silence := if training then some (p.now + 2 * p.params.beatUs) else r.timers.silence } })
    id

/-- A failed burst: DOWN below the requalify limit, RETIRED at the third failure (R77). -/
def Part.qualifyFail (p : Part) (l : Lane) : Part :=
  let q := (p.raise (.lane l .qualifyFailures)).modLane l (fun r => { r with requalify := r.requalify + 1 })
  let err := (q.lane l).errorBytes
  if 3 ≤ (q.lane l).requalify then q.enterOff l .retired (laneEvent .laneRetired l (sat16 err))
  else q.enterDown l .qualifyFailed err

/-- The end of a qualification burst (R77). -/
def Part.judgeQualify (p : Part) (l : Lane) : Part :=
  if (p.lane l).errorBytes ≤ p.params.qualTolerance then (p.raise (.lane l .qualifyPasses)).qualified l
  else p.qualifyFail l

/-- The end of a diagnostic burst: the DGPT response is formed and the port acknowledges again (R165). -/
def Part.endDiagnostic (p : Part) (l : Lane) (b : Burst) : Part :=
  ({ p with port := { p.port with burst := none } }).respond Status.ok.code
    ([BitVec.ofNat 8 (p.lane l).errorBytes] ++ toBigEndian 2 b.length ++ toBigEndian 2 b.compared)

/-- The end of a burst: the checker becomes idle, the qualify timer stops, and the owner takes the
result (R164). -/
def Part.endBurst (p : Part) (l : Lane) (b : Burst) : Part :=
  let q := p.modLane l (fun r =>
    { r with checker := none, timers := { r.timers with qualify := none } })
  match b.owner with
  | .qualify => q.judgeQualify l
  | .diagnostic => q.endDiagnostic l b

/-- The pattern checker takes a TEST frame with REFLECT clear; without a burst it is unexpected (R62,
R77, R164). -/
def Part.check (p : Part) (l : Lane) (payload : List Byte) : Part :=
  match (p.lane l).checker with
  | none => p.raise (.lane l .unexpectedFrames)
  | some b =>
    let b' := { b with compared := b.compared + 1 }
    let q := p.modLane l (fun r =>
      { r with errorBytes := min 255 (r.errorBytes + differing payload (burstPayload b.compared)),
               checker := some b' })
    if b'.length ≤ b'.compared then q.endBurst l b' else q

/-- The qualify timer's expiry: 64 error bytes for each frame not compared, and the end of the burst (R77,
R164). -/
def Part.expireBurst (p : Part) (l : Lane) (b : Burst) : Part :=
  (p.modLane l (fun r =>
    { r with errorBytes := min 255 (r.errorBytes + 64 * (b.length - b.compared)) })).endBurst l b

/-! ### The restart of a lane (R87) -/

/-- A lane enters QUIET by LNCT RESTART (R67, R87). -/
def Part.restartLane (p : Part) (l : Lane) : Part := p.enterQuiet l (laneEvent .laneRestarted l 0)

/-- A lane with a restart pending that no stream is left on enters QUIET (R87). -/
def Part.judgeRestart (p : Part) (l : Lane) : Part :=
  if (p.lane l).restartPending = true ∧ p.carries l = false then p.restartLane l else p

/-- Judges every lane's pending restart. -/
def Part.judgeRestarts (p : Part) : Part :=
  (((p.judgeRestart .a0).judgeRestart .a1).judgeRestart .b0).judgeRestart .b1

end Sys2Proof.Machine
end

