-- ==== Sys2Proof/Machine/IntakeUnit.lean ====
section
/-! DEFINITION. The intake unit: credit, the seven checks, the drop tally, the service state, and the
commands that act on them: POWER_ON, INIT_DONE, HOST_REQUEST, INTAKE_CHECKS, HOST_LINK_RESET,
HOST_LINK_UP (chapter 1). -/

namespace Sys2Proof.Machine

/-! ### Credit and the service state (R3, R15) -/

/-- The part with the intake changed. -/
def Part.modIntake (p : Part) (f : Intake → Intake) : Part := { p with intake := f p.intake }

/-- Offers credit until the credits outstanding and the requests queued equal 32, where the service state
and the link allow (R3). -/
def Intake.offer (i : Intake) : Intake :=
  if i.service.offersCredit = true ∧ i.linkUp = true then
    { i with credits := max i.credits (Config.intakeSlots - i.queue.length) }
  else i

/-- The credit of one freed slot (R3). -/
def Intake.credit (i : Intake) : Intake :=
  if i.service.offersCredit = true ∧ i.linkUp = true then { i with credits := i.credits + 1 } else i

/-- Logs the open drop tally and closes it (R7). -/
def Part.flushTally (p : Part) : Part :=
  match p.intake.tally with
  | none => p
  | some t =>
    (p.modIntake (fun i => { i with tally := none })).event .writesDropped none t.key (sat16 t.count)

/-- Counts a dropped WRITE in the drop tally (R7). -/
def Part.drop (p : Part) (key : Option StreamId) : Part :=
  match p.intake.tally with
  | none => p.modIntake (fun i => { i with tally := some ⟨key, 1⟩ })
  | some t =>
    if t.key = key then
      p.modIntake (fun i => { i with tally := some ⟨key, min 65535 (t.count + 1)⟩ })
    else p.flushTally.modIntake (fun i => { i with tally := some ⟨key, 1⟩ })

/-- A change of the service state: the open tally is logged first, and credit is offered where the new
state offers it (R3, R7, R15). -/
def Part.setService (p : Part) (s : ServiceState) : Part :=
  if p.intake.service = s then p
  else p.flushTally.modIntake (fun i => ({ i with service := s }).offer)

/-- The quiesce condition: the intake queue, the hold lists and the OTT are empty (R143). -/
def Part.quiesceHolds (p : Part) : Bool := p.intake.queue.isEmpty && p.engineEmpty

/-- In QUIESCING, the quiesce condition takes the service state to QUIESCED and logs it (R143). -/
def Part.judgeQuiesce (p : Part) : Part :=
  if p.intake.service = .quiescing ∧ p.quiesceHolds = true then
    (p.setService .quiesced).event .quiesced none none (wholeMs (p.now - p.intake.quiesceAt))
  else p

/-- What ends an event of the stream engine: pending lane restarts and the quiesce condition are judged
(R87, R143). -/
def Part.settle (p : Part) : Part := p.judgeRestarts.judgeQuiesce

/-! ### The checks (R6 to R11) -/

/-- The reason a queued request is malformed (R8, R183). -/
def Intake.malformed (i : Intake) (q : HostRecord) : Option Nat :=
  match ReqKind.ofCode q.kind with
  | none => some 1
  | some k =>
    let len := q.length.toNat
    if len % 4 ≠ 0 ∨ len < 4 ∨ 256 < len ∨ q.data.length ≠ k.dataBytes len then some 2
    else if 256 < q.address.toNat % 256 + len then some 3
    else if k = .swap ∧ (len ≠ 8 ∨ q.address.toNat % 8 ≠ 0) then some 4
    else if k ≠ .write ∧ i.tagOpen q.tag = true then some 5
    else none

/-- Whether a route's range contains an address (R9). -/
def Route.covers (r : Route) (a : Addr) : Bool :=
  r.valid && decide (r.base.toNat ≤ a.toNat) && decide (a.toNat < r.base.toNat + r.units * 4096)

/-- The route of an address: the valid matching entry with the lowest index (R9). -/
def Intake.route (i : Intake) (a : Addr) : Option RouteIx :=
  (List.finRange 32).find? (fun k => (i.routes.get k).covers a)

/-- The endpoint address of a request on a route (R9). -/
def Route.translate (r : Route) (a : Addr) : Addr := a - r.base + r.target

/-- How a request is answered when it is refused: as a READ or SWAP, with a completion, or as a WRITE,
dropped. An unknown kind is answered as a READ or SWAP (R6). -/
def expectsAnswer (q : HostRecord) : Bool := ReqKind.ofCode q.kind != some .write

/-- What the checks find for the head request (R6). -/
inductive Verdict where
  | restricted
  | malformed (reason : Nat)
  | unrouted
  | denied (route : RouteIx)
  | faulted (stream : StreamId)
  | waits
  | passes (kind : ReqKind) (route : Route)
  deriving DecidableEq, Repr

/-- Checks 6 and 7 (R11). -/
def Part.resources (p : Part) (k : ReqKind) (r : Route) (len : Nat) : Verdict :=
  if p.engine.freeBlocks.length < k.blocksNeeded len then .waits
  else if p.dispatches r.stream k = false ∧ p.engine.freeSlots = [] then .waits
  else .passes k r

/-- The seven checks in their order (R6). -/
def Part.verdict (p : Part) (q : HostRecord) : Verdict :=
  if p.intake.service = .restricted then .restricted
  else
    match p.intake.malformed q, ReqKind.ofCode q.kind with
    | some reason, _ => .malformed reason
    | none, none => .malformed 1
    | none, some k =>
      match p.intake.route q.address with
      | none => .unrouted
      | some ix =>
        let r := p.intake.routes.get ix
        if k ≠ .read ∧ r.access = .readOnly then .denied ix
        else if (p.stream r.stream).state = .faulted then .faulted r.stream
        else p.resources k r q.length.toNat

/-- The head request leaves the queue and frees its slot; an emptied queue logs the open tally (R3, R7). -/
def Part.leaveQueue (p : Part) : Part :=
  p.modIntake (fun i => ({ i with queue := i.queue.tail, headWaited := false }).credit)

/-- The queue becoming empty logs the open tally (R7). -/
def Part.flushIfEmpty (p : Part) : Part := if p.intake.queue = [] then p.flushTally else p

/-- An event that is about to complete a quiesce changes the service state, so it logs the open tally before anything
else (R7, R143). -/
def Part.flushForQuiesce (p : Part) : Part :=
  if p.intake.service = .quiescing ∧ p.quiesceHolds = true then p.flushTally else p

/-- A refusal at checks 1 to 5: the slot is freed, a WRITE's drop joins the tally by `drop`, and then come the event
`log` and the completion of a READ or SWAP (R6). Where the refusal completes a quiesce, the tally is logged before
anything else (R7); where it only empties the queue, the tally is logged after the refusal's own event, and QUIESCED is
logged after both (R7, R150; log entry 47: DESIGN CHOICE). -/
def Part.refuse (p : Part) (q : HostRecord) (status : CompletionStatus) (log drop : Part → Part) : Part :=
  let p1 := if expectsAnswer q then p.leaveQueue else drop p.leaveQueue
  let p2 := log (p1.flushForQuiesce.raise (.part .requestsRefused))
  (if expectsAnswer q then p2.answerHost q.tag status [] else p2).flushIfEmpty

/-- The hand-over to the stream engine (R11): blocks are taken and written, the tag opens, and the
request is dispatched or held; on an IDLE stream it starts the first binding. A first binding that stalls logs
STREAM_STALLED before an open tally that the emptied queue logs (R7, R150; log entry 55: DESIGN CHOICE). -/
def Part.handOver (p : Part) (q : HostRecord) (k : ReqKind) (r : Route) : Part :=
  let n := r.stream
  let blocks := p.engine.freeBlocks.take (k.blocksNeeded q.length.toNat)
  let w : Work := { tag := q.tag, kind := k, address := r.translate q.address,
                    length := q.length.toNat, blocks := blocks, poisoned := false }
  let direct := p.dispatches n k
  let p1 := p.leaveQueue.modEngine (fun g =>
    { g with freeBlocks := g.freeBlocks.drop blocks.length, buffer := g.buffer.store blocks q.data })
  let p2 := if k = .write then p1 else p1.setTag q.tag true
  let p3 := if direct then p2.dispatch n w else p2.holdWork n w
  (if (p.stream n).state = .idle then p3.bind n .plain else p3).flushIfEmpty

/-- A request left waiting at the head, counted once (R4, R159). -/
def Part.wait (p : Part) : Part :=
  if p.intake.headWaited then p
  else (p.modIntake (fun i => { i with headWaited := true })).raise (.part .intakeWaits)

/-- The outcome of the checks for the head request (R6). -/
def Part.takeVerdict (p : Part) (q : HostRecord) : Verdict → Part
  | .restricted => p.refuse q .restricted id (fun x => x.drop none)
  | .malformed reason =>
    p.refuse q .malformed (fun x => x.event .malformed none none (bytePair reason q.tag.toNat)) id
  | .unrouted => p.refuse q .unrouted (fun x => x.event .unrouted none none (bytePair 0 q.tag.toNat)) id
  | .denied ix =>
    p.refuse q .denied (fun x => x.event .denied none none (bytePair ix.val q.tag.toNat)) id
  | .faulted n => p.refuse q .pathLost id (fun x => x.drop (some n))
  | .waits => p.wait
  | .passes k r => p.handOver q k r

/-- One examination of the head of the intake queue (R4, R6). -/
def Part.examine (p : Part) : Part :=
  match p.intake.queue with
  | [] => p
  | q :: _ => (p.takeVerdict q (p.verdict q)).judgeQuiesce

/-! ### Commands -/

/-- POWER_ON (R15, R18, R39, R65, R88, R102, R154, R162, R173). -/
def execPowerOn (pins : BitVec 3) (s : State) : Result := s.act (fun _ => Part.powerOn pins)

/-- INIT_DONE (R15, R166): INIT ends and 32 credits are offered. -/
def execInitDone (s : State) : Result :=
  s.act (fun p => if p.intake.service = .init then p.setService .running else p)

/-- A record that arrives against a credit joins the queue (R1). -/
def Part.enqueue (p : Part) (q : HostRecord) : Part :=
  p.modIntake (fun i => { i with queue := i.queue ++ [q], credits := i.credits - 1 })

/-- A record that arrives without credit is answered at once as malformed, reason NO_CREDIT (R1, R8). -/
def Part.refuseUncredited (p : Part) (q : HostRecord) : Part :=
  let p1 := (p.raise (.part .requestsRefused)).event .malformed none none (bytePair 6 q.tag.toNat)
  if expectsAnswer q then p1.answerHost q.tag .malformed [] else p1

/-- HOST_REQUEST (R1). -/
def execHostRequest (record : HostRecord) (s : State) : Result :=
  s.act (fun p =>
    let p1 := p.raise (.part .requestsArrived)
    if p.intake.credits = 0 then p1.refuseUncredited record else p1.enqueue record)

/-- INTAKE_CHECKS (R6). -/
def execIntakeChecks (s : State) : Result := s.act Part.examine

/-- The WRITEs of a queue (R16, R17). -/
def writesIn (queue : List HostRecord) : Nat := queue.countP (fun q => ReqKind.ofCode q.kind == some .write)

/-- A held READ or SWAP is removed at a host link reset: its slot and blocks are freed (R41). -/
def Part.unhold (p : Part) (n : StreamId) (h : Held) : Part :=
  ((p.modStream n (fun r => { r with hold := r.hold.filter (fun x => x.slot != h.slot) })).freeSlot
    h.slot).freeBlocks h.work.blocks

/-- An entry that loses its host tag, in its fields and in its fate copy (R41, R166). -/
def OttEntry.orphaned (e : OttEntry) : OttEntry := { e with tag := none, fate := { e.fate with tag := none } }

/-- The host link reset at one stream (R41). -/
def Part.orphanStream (p : Part) (n : StreamId) : Part :=
  (((p.stream n).hold.filter (fun h => h.work.kind != .write)).foldl (fun q h => q.unhold n h) p).modStream n
    (fun r => { r with inflight := r.inflight.map OttEntry.orphaned })

/-- The host link reset at the stream engine, with each hold-list head judged after the removals (R41). -/
def Part.orphan (p : Part) : Part :=
  allStreams.foldl (fun q n => q.dispatchHeld n 64) (allStreams.foldl (fun q n => q.orphanStream n) p)

/-- The host link reset at the intake: the queue is discarded, every tag closed, every credit cancelled
(R16). -/
def Part.discardIntake (p : Part) : Part :=
  p.modIntake (fun i =>
    { i with queue := [], credits := 0, headWaited := false, linkUp := false,
             openTags := Vector.replicate 256 false })

/-- HOST_LINK_RESET (R16, R41): HOST_LINK_RESET is logged first, then the COUNTER_HALF of its counter, then a
QUIESCED that the emptied queue brings (R144, R150; log entries 48 and 50: DESIGN CHOICE). -/
def execHostLinkReset (s : State) : Result :=
  s.act (fun p =>
    (((p.flushTally.discardIntake.orphan).event .hostLinkReset none none
      (sat16 (writesIn p.intake.queue))).raise (.part .hostLinkResets)).judgeQuiesce)

/-- HOST_LINK_UP (R16). -/
def execHostLinkUp (s : State) : Result :=
  s.act (fun p => p.modIntake (fun i => if i.linkUp then i else ({ i with linkUp := true }).offer))

end Sys2Proof.Machine
end

