-- ==== Sys2Proof/Machine/Receive.lean ====
section
/-! DEFINITION. Frames leaving and arriving: FRAME_DEPARTURE, BAD_FRAME, UNEXPECTED_FRAME, FRAME_IN_OFF,
the RECEIVE commands and LINK_LOSS (chapters 3 and 4), and what the stream engine does with an ANSWER, a
TELL and a GAP (R30 to R36, R117 to R123). -/

namespace Sys2Proof.Machine

/-! ### Data checks (R166, R168) -/

/-- A single-bit error corrected (R166). -/
def Part.corrected (p : Part) : Part := p.raise (.part .correctedChecks)

/-- The OTT entry with an index, if it is in use, on the in-flight list it stands on (R21). -/
def Part.findEntry (p : Part) (i : EntryIx) : Option OttEntry :=
  (allStreams.flatMap (fun n => (p.stream n).inflight)).find? (fun e => e.index == i)

/-- The held request in a slot, if the slot is in use (R24). -/
def Part.findHeld (p : Part) (i : SlotIx) : Option Held :=
  (allStreams.flatMap (fun n => (p.stream n).hold)).find? (fun h => h.slot == i)

/-- The owner of a block is marked poisoned, and POISONED is logged if it was not (R148, R168). -/
def Part.poison (p : Part) : Owner → Part
  | .entry i =>
    match p.findEntry i with
    | none => p
    | some e =>
      if e.poisoned then p
      else
        (p.modStream e.stream (fun r =>
          { r with inflight := r.inflight.map (fun x => if x.index = i then { x with poisoned := true } else x) })).event
          .poisoned none (some e.stream) (e.seq.setWidth 16)
  | .slot i =>
    match p.findHeld i with
    | none => p
    | some h =>
      if h.work.poisoned then p
      else
        (p.modStream h.stream (fun r =>
          { r with hold := r.hold.map (fun x =>
              if x.slot = i then { x with work := { x.work with poisoned := true } } else x) })).event
          .poisoned none (some h.stream) 0xFFFF

/-- The buffer with a block's contents replaced (R168). -/
def Part.writeBlock (p : Part) (b : BlockIx) (bytes : List Byte) : Part :=
  p.modEngine (fun g => { g with buffer := g.buffer.setBlock b bytes })

/-- The check of a data block at a read (R166, R168). -/
def Part.checkBlock (p : Part) (b : BlockIx) : BlockCheck → Part
  | .clean => p
  | .corrected => p.corrected
  | .uncorrectable asRead =>
    match p.engine.owners.get b with
    | some o => (p.writeBlock b asRead).poison o
    | none => p.writeBlock b (List.replicate Config.blockBytes 0)

/-- The checks of the blocks a departure reads, in byte order (R169); a block without a check is clean. -/
def Part.checkBlocks (p : Part) : List BlockIx → List BlockCheck → Part
  | [], _ => p
  | _, [] => p
  | b :: bs, c :: cs => (p.checkBlock b c).checkBlocks bs cs

/-- The blocks a departure reads: nothing is checked while INIT runs (R166, R169). -/
def Part.readBlocks (p : Part) (bs : List BlockIx) (reads : List BlockCheck) : Part :=
  if p.intake.service = .init then p else p.checkBlocks bs reads

/-! ### Departure (R22, R68 to R70, R116, R163) -/

/-- The oldest frame that may leave, and the queue without it: while a pause runs, REQUEST and ASK frames
are passed over (R69). -/
def takeFirst (paused : Bool) : List Frame → Option (Frame × List Frame)
  | [] => none
  | f :: rest =>
    if paused && f.isTransaction then
      match takeFirst paused rest with
      | some (g, left) => some (g, f :: left)
      | none => none
    else some (f, rest)

/-- Whether a lane's frames leave it: in OFF only through the near loopback (R83, R163). -/
def LaneRec.canSend (r : LaneRec) : Bool := r.state != .off || r.loopback

/-- The frame that departs from a lane now, and the queue it leaves (R68, R69). -/
def LaneRec.departing (r : LaneRec) : Option (Frame × List Frame) :=
  if r.canSend then takeFirst r.timers.pause.isSome r.queue else none

/-- A frame goes onto the cable or into the loopback path, is counted, and restarts the beat timer (R70,
R156, R163). -/
def Part.emit (p : Part) (l : Lane) (f : Frame) (queue : List Frame) : Part :=
  (p.modLane l (fun r =>
    { r with
      queue := queue,
      loopPath := if r.loopback then r.loopPath ++ [f] else r.loopPath,
      cable := if r.loopback then r.cable else r.cable ++ [f],
      timers := { r.timers with
        beat := if r.state.isUp then some (p.now + p.params.beatUs) else r.timers.beat } })).raise
    (.lane l .framesSent)

/-- The entry of a stream at a sequence. -/
def StreamRec.entryAt (r : StreamRec) (s : Seq) : Option OttEntry := r.inflight.find? (fun e => e.seq == s)

/-- A REQUEST with the bytes of its entry's blocks and its POISON flag, as it leaves (R22, R46, R169). -/
def Part.filled (p : Part) (f : Frame) (e : OttEntry) : Frame :=
  { f with header := { f.header with poison := e.poisoned },
           payload := p.engine.buffer.load e.blocks (e.kind.payloadBytes e.length) }

/-- The entry after its frame has left: SENT, its transmit time now, its deadline armed when the frame's
epoch is the stream's (R22, R37). -/
def OttEntry.sent (e : OttEntry) (now : Micros) (deadline : Option Micros) : OttEntry :=
  { e with phase := .sent, transmitTime := some now, deadline := deadline,
           fate := { e.fate with transmitted := true } }

/-- The deadline of an entry whose frame leaves a lane now (R37, R100). -/
def Part.armed (p : Part) (l : Lane) (n : StreamId) (epoch : Epoch) (e : OttEntry) : Option Micros :=
  if epoch = (p.stream n).epoch then
    some (p.now + p.params.deadlineInterval (p.lane l).latency (e.kind.deadlineBlocks e.length))
  else none

/-- The stream engine takes the departure of an entry's REQUEST frame (R22). -/
def Part.noteSent (p : Part) (l : Lane) (n : StreamId) (s : Seq) (epoch : Epoch) : Part :=
  p.modStream n (fun r =>
    { r with inflight := r.inflight.map (fun e =>
        if e.seq = s then e.sent p.now (p.armed l n epoch e) else e) })

/-- A REQUEST leaves a lane: its blocks are read and checked, it takes its payload and POISON flag, its
entry becomes SENT, and the last replayed frame ends the binding (R22, R122, R169). -/
def Part.departRequest (p : Part) (l : Lane) (f : Frame) (queue : List Frame) (reads : List BlockCheck) :
    Part :=
  let n := f.header.stream
  match (p.stream n).entryAt f.header.seq with
  | none => p.emit l f queue
  | some e =>
    let q := p.readBlocks e.blocks reads
    let e' := ((q.stream n).entryAt f.header.seq).getD e
    (((q.emit l (q.filled f e') queue).noteSent l n f.header.seq f.header.epoch).judgeReplay n).settle

/-- An ASK leaves a lane: the attempt timer of its BINDING stream starts at 5 ms (R116). -/
def Part.departAsk (p : Part) (l : Lane) (f : Frame) (queue : List Frame) : Part :=
  (p.emit l f queue).modStream f.header.stream (fun r =>
    if r.state = .binding ∧ r.epoch = f.header.epoch then { r with askTimer := some (p.now + 5000) } else r)

/-- Whether a departing TEST frame is one of a running burst's own: REFLECT is set in qualification and
clear in a diagnostic burst (R76, R165). -/
def Burst.ownsTest (b : Burst) (f : Frame) : Bool :=
  match b.owner with
  | .qualify => f.header.reflect
  | .diagnostic => !f.header.reflect

/-- A TEST frame leaves a lane: a frame of the running burst is counted, and the last one starts the
qualify timer at 20 ms (R76, R164, R165). -/
def Part.departTest (p : Part) (l : Lane) (f : Frame) (queue : List Frame) : Part :=
  (p.emit l f queue).modLane l (fun r =>
    match r.checker with
    | none => r
    | some b =>
      if b.ownsTest f then
        { r with checker := some { b with sent := b.sent + 1 },
                 timers := { r.timers with
                   qualify := if b.sent + 1 = b.length then some (p.now + 20000) else r.timers.qualify } }
      else r)

/-- One departure from a lane (R68). -/
def Part.depart (p : Part) (l : Lane) (reads : List BlockCheck) : Part :=
  match (p.lane l).departing with
  | none => p
  | some (f, queue) =>
    match f.kind with
    | .request => p.departRequest l f queue reads
    | .ask => p.departAsk l f queue
    | .test => p.departTest l f queue
    | _ => p.emit l f queue

/-! ### Answers (R30 to R36) -/

/-- The status of an ANSWER as R33 takes it. -/
inductive AnswerStatus where
  | ok | error | dup | dupUnknown
  deriving DecidableEq, Repr

/-- The status a code names; a code outside the four is taken as ERROR (R33, R184). -/
def AnswerStatus.ofCode (c : BitVec 4) : AnswerStatus :=
  if c = 0#4 then .ok else if c = 2#4 then .dup else if c = 3#4 then .dupUnknown else .error

/-- The payload length that fits an entry and a status (R33). -/
def fittingLength (e : OttEntry) : AnswerStatus → Nat
  | .ok => match e.kind with
    | .read => e.length
    | .swap => 8
    | .write => 0
  | .dup => match e.kind with
    | .swap => 8
    | _ => 0
  | .error | .dupUnknown => 0

/-- The status an ANSWER has for its entry: ERROR when its payload does not fit (R33). -/
def answerStatus (e : OttEntry) (h : Header) (payload : List Byte) : AnswerStatus :=
  let st := AnswerStatus.ofCode h.op
  if payload.length = fittingLength e st then st else .error

/-- The completion of a SWAP that is not poisoned (R33). -/
def Part.completeSwap (p : Part) (n : StreamId) (l : Lane) (e : OttEntry) (payload : List Byte) :
    AnswerStatus → Part
  | .ok | .dup => p.complete n e.tag .ok payload
  | .dupUnknown =>
    (p.complete n e.tag .outcomeUnknown []).event .outcomeUnknown (some l) (some n) (e.seq.setWidth 16)
  | .error => p.complete n e.tag .endpointError []

/-- The completion of the answered entry (R33). -/
def Part.completeEntry (p : Part) (n : StreamId) (l : Lane) (e : OttEntry) (st : AnswerStatus)
    (payload : List Byte) : Part :=
  match e.kind with
  | .read => if st = .ok then p.complete n e.tag .ok payload else p.complete n e.tag .endpointError []
  | .write =>
    if st = .error then p.event .writeRejected (some l) (some n) (e.seq.setWidth 16) else p
  | .swap => if e.poisoned then p.complete n e.tag .poisoned [] else p.completeSwap n l e payload st

/-- The rejection count is compared with write rejections seen (R35). -/
def Part.compareRejections (p : Part) (n : StreamId) (l : Lane) (count : BitVec 8) : Part :=
  if (p.stream n).rejections = count then p
  else
    (p.modStream n (fun r => { r with rejections := count })).event .writeRejected (some l) (some n) 0xFFFF

/-- Write rejections seen, raised by an ERROR for a WRITE, then compared (R35). -/
def Part.noteRejections (p : Part) (n : StreamId) (l : Lane) (e : OttEntry) (st : AnswerStatus)
    (count : BitVec 8) : Part :=
  let q :=
    if e.kind = .write ∧ st = .error then
      p.modStream n (fun r => { r with rejections := r.rejections + 1 })
    else p
  q.compareRejections n l count

/-- The latency sample of an entry queued once, handed to the carrier (R36). An entry whose frame has not left has no
transmit time, and gives no sample (log entry 62: DESIGN CHOICE). -/
def Part.sampleOf (p : Part) (l : Lane) (e : OttEntry) : Part :=
  match e.transmitTime with
  | some t => if e.transmissions = 1 then p.report (.sample l (latencyOf (p.now - t))) else p
  | none => p

/-- R31: the applied mark, and the WRITEs it retires. -/
def Part.applyMark (p : Part) (n : StreamId) (s : Seq) : Part :=
  let m := advanceMark (p.stream n).mark s
  (p.modStream n (fun r => { r with mark := some m })).retireWrites n m (some s)

/-- Whether a READ or SWAP entry remains whose sequence is serially before an answered one (R32). -/
def StreamRec.missing (r : StreamRec) (s : Seq) : Bool :=
  r.inflight.any (fun e => e.kind != .write && serialBefore e.seq s)

/-- R32: a missing result rewinds the stream. -/
def Part.judgeMissing (p : Part) (n : StreamId) (s : Seq) : Part :=
  if (p.stream n).missing s then p.rewind n .missingResult else p

/-- The retirement of the answered READ or SWAP (R33). -/
def Part.retireAnswered (p : Part) (n : StreamId) (e : OttEntry) : Part :=
  if e.kind = .write then p else p.retire n e

/-- What follows R31 to R36 in the event of an ANSWER: the hold-list head with the entries that were free
before it, the arbiter, the end of a binding or of a drain (R36, R122, R135). A binding whose last replayed frame this
event removed ends after R32's rewind and the arbiter (log entry 57: DESIGN CHOICE). -/
def Part.afterAnswer (p : Part) (n : StreamId) (freeBefore : Nat) : Part :=
  ((((p.dispatchHeld n freeBefore).serve).judgeReplay n).judgeDrain n).settle

/-- An ANSWER for an entry on the in-flight list (R31 to R36). -/
def Part.takeMatched (p : Part) (n : StreamId) (l : Lane) (e : OttEntry) (h : Header)
    (payload : List Byte) : Part :=
  let st := answerStatus e h payload
  (((((((p.applyMark n h.seq).judgeMissing n h.seq).completeEntry n l e st payload).retireAnswered n
    e).noteRejections n l e st h.rejections).sampleOf l e).afterAnswer n p.engine.freeEntries.length)

/-- DUPLICATE_ANSWERS: by the status the ANSWER carries, unmatched or with a payload that does not fit (R158; log entry
20: DEDUCED). -/
def Part.countDuplicate (p : Part) (n : StreamId) (h : Header) : Part :=
  if h.op = 2#4 ∨ h.op = 3#4 then p.raise (.stream n .duplicateAnswers) else p

/-- A taken ANSWER (R30). -/
def Part.takeAnswer (p : Part) (n : StreamId) (l : Lane) (h : Header) (payload : List Byte) : Part :=
  let q := p.countDuplicate n h
  match (p.stream n).entryAt h.seq with
  | none => q.raise (.stream n .unmatched)
  | some e => q.takeMatched n l e h payload

/-- The filter of R30: stale when the epoch differs, stray when the stream has no carrier, the frame came on
another lane or the state does not take it, and otherwise `act`. -/
def Part.filtered (p : Part) (n : StreamId) (l : Lane) (h : Header) (takes : StreamState → Bool)
    (act : Part → Part) : Part :=
  if h.epoch ≠ (p.stream n).epoch then p.raise (.stream n .stale)
  else if (p.stream n).carrier ≠ some l ∨ takes (p.stream n).state = false then p.raise (.stream n .stray)
  else act p

/-! ### TELL and GAP (R117 to R123) -/

/-- The fresh case (R118). -/
def StreamRec.freshTell (r : StreamRec) (h : Header) : StreamRec :=
  { r with
    nextSeq := if h.fresh then 0 else if h.markValid then h.mark + 1 else r.nextSeq,
    mark := if !h.fresh && h.markValid then some h.mark else none,
    recallDepth := some h.recallDepth, swapLimit := swapLimitOf (some h.recallDepth),
    rejections := h.rejections }

/-- The lower bound a TELL's mark is judged against (R119). -/
def StreamRec.lowerBound (r : StreamRec) : Seq :=
  match r.mark with
  | some m => m
  | none => r.oldest - 1

/-- The reason a TELL contradicts a stream with history (R119). -/
def StreamRec.contradiction (r : StreamRec) (h : Header) : Option (BitVec 16) :=
  if h.fresh then some 1
  else if h.markValid = false then some 2
  else if serialBefore h.mark r.lowerBound then some 3
  else if serialAtOrBefore r.nextSeq h.mark then some 4
  else none

/-- Replay, or the end of the binding when nothing is left in flight (R120, R122). -/
def Part.continueBinding (p : Part) (n : StreamId) : Part :=
  if (p.stream n).inflight = [] then p.endBinding n else p.replay n

/-- A TELL accepted with history (R120). -/
def Part.acceptTell (p : Part) (n : StreamId) (l : Lane) (h : Header) : Part :=
  ((((((p.modStream n (fun r => { r with mark := some h.mark })).retireWrites n h.mark none).modStream n
    (fun r => { r with recallDepth := some h.recallDepth,
                       swapLimit := swapLimitOf (some h.recallDepth) })).compareRejections n l
    h.rejections).serve).continueBinding n)

/-- A TELL judged (R117 to R120). The rejection count of a TELL with history is compared whether the TELL is
accepted or contradicts the stream (R35), and before the stream is faulted (log entry 46: DESIGN CHOICE for the
order). -/
def Part.judgeTell (p : Part) (n : StreamId) (l : Lane) (h : Header) : Part :=
  if (p.stream n).mark = none ∧ (p.stream n).inflight = [] then
    (p.modStream n (fun r => r.freshTell h)).endBinding n
  else
    match (p.stream n).contradiction h with
    | some reason => (p.compareRejections n l h.rejections).fault n reason none
    | none => p.acceptTell n l h

/-- A taken TELL stops the attempt timer, and is judged (R117). -/
def Part.takeTell (p : Part) (n : StreamId) (l : Lane) (h : Header) : Part :=
  ((p.modStream n (fun r => { r with askTimer := none, askAttempts := 0 })).judgeTell n l h).settle

/-- A taken GAP rewinds the stream (R123). -/
def Part.takeGap (p : Part) (n : StreamId) : Part := (p.rewind n .gap).settle

/-- The states that take a TELL (R117). -/
def StreamState.takesTell : StreamState → Bool
  | .binding => true
  | _ => false

/-- An ANSWER, a TELL or a GAP past the destination-node check reaches the stream engine (R30). -/
def Part.engineTakes (p : Part) (l : Lane) (f : Frame) : Part :=
  let n := f.header.stream
  match f.kind with
  | .answer =>
    p.filtered n l f.header StreamState.takesAnswers (fun q => q.takeAnswer n l f.header f.payload)
  | .tell => p.filtered n l f.header StreamState.takesTell (fun q => q.takeTell n l f.header)
  | .gap => p.filtered n l f.header StreamState.takesAnswers (fun q => q.takeGap n)
  | _ => p

/-! ### Link-local frames (R62, R63, R69, R71 to R73, R79) -/

/-- A BEAT (R79): taken in TRAINING, QUALIFY, ACTIVE, DEGRADED and HELD. -/
def Part.takeBeat (p : Part) (l : Lane) (c : PartnerState) : Part :=
  match (p.lane l).state with
  | .training | .qualify | .active | .degraded | .held => p.takePartner l c
  | .off | .quiet | .down => p

/-- A BASE page (R71, R72, R79). -/
def Part.takeBase (p : Part) (l : Lane) (f : Frame) : Part :=
  let g := BasePage.ofFrame f.header f.payload
  match (p.lane l).state with
  | .quiet => (p.startTraining l).takeBasePage l f.header.ack g
  | .training => p.takeBasePage l f.header.ack g
  | .qualify | .active | .degraded | .held => p.takePartner l f.header.partner
  | .off | .down => p

/-- A NEXT page: with ack set and the lane's toggle echoed it completes training in phase NEXT (R73). -/
def Part.takeNext (p : Part) (l : Lane) (f : Frame) : Part :=
  let r := p.lane l
  if r.state = .training ∧ r.training.next = true ∧ f.header.ack = true ∧ f.header.toggle = r.training.toggle
  then (p.modLane l (fun r => { r with training := { r.training with resends := 0 } })).startQualify l
  else p

/-- A PAUSE (R63, R69): taken in QUALIFY, ACTIVE, DEGRADED and HELD. -/
def Part.takePause (p : Part) (l : Lane) (time : BitVec 16) : Part :=
  if (p.lane l).state.isUp then
    (p.modLane l (fun r =>
      { r with timers := { r.timers with
          pause := if time = 0 then none else some (p.now + time.toNat) } })).raise (.lane l .pausesTaken)
  else p

/-- A reflected TEST frame is queued with REFLECT clear (R62). -/
def Part.reflectTest (p : Part) (l : Lane) (f : Frame) : Part := p.place l (p.testFrame false f.payload)

/-- The payload length that a kind must have, where R45 gives one. -/
def requiredLength : FrameKind → Option Nat
  | .tell | .gap | .beat | .pause => some 0
  | .page => some 8
  | .test => some 64
  | .request | .answer | .ask | .probe | .other _ => none

/-- Whether a frame is malformed by its payload length or its page kind (R45, R184). -/
def malformedFrame (f : Frame) : Bool :=
  (match requiredLength f.kind with
    | some len => f.payload.length != len
    | none => false)
  || (f.kind == .page && !(f.header.pageKind == 0#2 || f.header.pageKind == 1#2))

/-- Whether a frame is one that passes the destination-node check (R45). -/
def destined (k : FrameKind) : Bool := k == .answer || k == .tell || k == .gap

/-- A good frame by its kind, in a state other than OFF (R45). -/
def Part.byKind (p : Part) (l : Lane) (f : Frame) : Part :=
  match f.kind with
  | .answer | .tell | .gap => p.engineTakes l f
  | .beat => p.takeBeat l f.header.partner
  | .page => if f.header.pageKind = 0#2 then p.takeBase l f else p.takeNext l f
  | .test => if f.header.reflect then p.reflectTest l f else p.check l f.payload
  | .pause => p.takePause l f.header.pause
  | .request | .ask | .probe | .other _ => p.raise (.lane l .unexpectedFrames)

/-- A good frame in a state other than OFF: the destination-node check, the payload length, then its
kind (R45). -/
def Part.inService (p : Part) (l : Lane) (f : Frame) : Part :=
  if destined f.kind = true ∧ f.header.destination ≠ p.params.sourceNode then
    p.raise (.lane l .misdeliveredFrames)
  else if malformedFrame f then p.raise (.lane l .malformedFrames)
  else p.byKind l f

/-- Whether the reclaim pattern acts on a lane (R64). -/
def LaneRec.reclaims (r : LaneRec) : Bool :=
  (r.offReason == some .retired || r.offReason == some .mismatch) && r.pin != .out

/-- A good frame received in OFF from the cable is searched for the reclaim pattern (R64). -/
def Part.inOff (p : Part) (l : Lane) (f : Frame) : Part :=
  if (p.lane l).reclaims = true ∧ p.params.fabricIdentity ≠ 0
      ∧ holdsRun (reclaimPattern p.params.fabricIdentity) f.payload = true then
    p.enterQuiet l (laneEvent .laneReclaimed l (BitVec.ofNat 16 (offReasonCode (p.lane l).offReason)))
  else p

/-- Whether a lane's receiver is looped back to its own transmitter (R163). -/
def LaneRec.looped (r : LaneRec) : Bool := r.state == .off && r.loopback

/-- Whether `f` is a frame come back: the frame `sent`, but for bytes of its payload that an error the check did not
catch has changed (R163, R165; log entry 26: DEDUCED). -/
def Frame.returns (sent f : Frame) : Bool :=
  sent.kind == f.kind && sent.header == f.header && sent.payload.length == f.payload.length

/-- Whether a good frame that arrives now is delivered: with the near loopback on, only the oldest frame of the
loopback path, come back; a frame on the cable is not (R163). -/
def LaneRec.delivers (r : LaneRec) (f : Frame) : Bool :=
  !r.looped || match r.loopPath with
    | [] => false
    | sent :: _ => Frame.returns sent f

/-- Whether a frame that fails its check is delivered now: with the near loopback on, it is the oldest frame of the
loopback path (R163, log entry 26). -/
def LaneRec.deliversBad (r : LaneRec) : Bool := !r.looped || !r.loopPath.isEmpty

/-- The lane with the oldest frame of its loopback path delivered (R163, log entry 26). -/
def LaneRec.unloop (r : LaneRec) : LaneRec := if r.looped then { r with loopPath := r.loopPath.tail } else r

/-- A good frame delivered through the near loopback: a TEST frame with REFLECT clear goes to the checker,
every other is unexpected, in place of the handling of R45 (R163). -/
def Part.inLoopback (p : Part) (l : Lane) (f : Frame) : Part :=
  if f.kind = .test ∧ f.header.reflect = false then p.check l f.payload else p.raise (.lane l .unexpectedFrames)

/-- The silence timer restarts at a good received frame in the states that watch for silence (R78). -/
def Part.heard (p : Part) (l : Lane) : Part :=
  p.modLane l (fun r =>
    { r with timers := { r.timers with
        silence := if r.state.isUp then some (p.now + 2 * p.params.beatUs) else r.timers.silence } })

/-- The CODE_VIOLATION count and weight of a good frame (R44, R90). -/
def Part.violated (p : Part) (l : Lane) (violation : Bool) : Part :=
  if violation then (p.raise (.lane l .codeViolationFrames)).addWeight l 2 else p

/-- A delivered frame that passes its check, in every state (R44, R45, R78). -/
def Part.receive (p : Part) (l : Lane) (f : Frame) (violation : Bool) : Part :=
  let q := ((p.raise (.lane l .framesReceived)).violated l violation).heard l
  if (q.lane l).looped then q.inLoopback l f
  else if (q.lane l).state = .off then q.inOff l f
  else q.inService l f

/-- A frame that passes its check arrives at a lane (R44, R45, R78, R163). -/
def Part.arrive (p : Part) (l : Lane) (f : Frame) (violation : Bool) : Part :=
  if (p.lane l).delivers f then (p.modLane l LaneRec.unloop).receive l f violation else p

/-- A delivered frame that fails its check: BAD_FRAME, and with code violations one increment of both weights (R44,
R90). -/
def Part.receiveBad (p : Part) (l : Lane) (violation : Bool) : Part :=
  let q := p.raise (.lane l .badFrames)
  if violation then (q.raise (.lane l .codeViolationFrames)).addWeight l 10 else q.addWeight l 8

/-- A frame that fails its check arrives at a lane (R44, R163). -/
def Part.arriveBad (p : Part) (l : Lane) (violation : Bool) : Part :=
  if (p.lane l).deliversBad then (p.modLane l LaneRec.unloop).receiveBad l violation else p

/-! ### Commands -/

/-- FRAME_DEPARTURE (R68). -/
def execFrameDeparture (lane : Lane) (reads : List BlockCheck) (s : State) : Result :=
  s.act (fun p => p.depart lane reads)

/-- BAD_FRAME (R44). -/
def execBadFrame (lane : Lane) (violation : Bool) (s : State) : Result :=
  s.act (fun p => p.arriveBad lane violation)

/-- The frame kind of an unexpected frame (R45). -/
def unexpectedKind : UnexpectedKind → FrameKind
  | .request => .request
  | .ask => .ask
  | .probe => .probe
  | .other c => .other c

/-- UNEXPECTED_FRAME (R45). -/
def execUnexpectedFrame (lane : Lane) (kind : UnexpectedKind) (header : Header) (payload : List Byte)
    (violation : Bool) (s : State) : Result :=
  s.act (fun p => p.arrive lane { kind := unexpectedKind kind, header, payload } violation)

/-- FRAME_IN_OFF (R64). -/
def execFrameInOff (lane : Lane) (frame : Frame) (violation : Bool) (s : State) : Result :=
  s.act (fun p => p.arrive lane frame violation)

/-- RECEIVE_ANSWER (R30). -/
def execReceiveAnswer (lane : Lane) (header : Header) (payload : List Byte) (violation : Bool) (s : State) :
    Result :=
  s.act (fun p => p.arrive lane { kind := .answer, header, payload } violation)

/-- RECEIVE_TELL (R117). -/
def execReceiveTell (lane : Lane) (header : Header) (payload : List Byte) (violation : Bool) (s : State) :
    Result :=
  s.act (fun p => p.arrive lane { kind := .tell, header, payload } violation)

/-- RECEIVE_GAP (R123). -/
def execReceiveGap (lane : Lane) (header : Header) (payload : List Byte) (violation : Bool) (s : State) :
    Result :=
  s.act (fun p => p.arrive lane { kind := .gap, header, payload } violation)

/-- RECEIVE_BEAT (R79). -/
def execReceiveBeat (lane : Lane) (header : Header) (payload : List Byte) (violation : Bool) (s : State) :
    Result :=
  s.act (fun p => p.arrive lane { kind := .beat, header, payload } violation)

/-- RECEIVE_BASE_PAGE (R72): a PAGE of any kind but NEXT; page kinds 2 and 3 are malformed (R184). -/
def execReceiveBasePage (lane : Lane) (header : Header) (payload : List Byte) (violation : Bool)
    (s : State) : Result :=
  s.act (fun p =>
    let kind := if header.pageKind = 1#2 then 0#2 else header.pageKind
    p.arrive lane { kind := .page, header := { header with pageKind := kind }, payload } violation)

/-- RECEIVE_NEXT_PAGE (R73). -/
def execReceiveNextPage (lane : Lane) (header : Header) (payload : List Byte) (violation : Bool)
    (s : State) : Result :=
  s.act (fun p => p.arrive lane { kind := .page, header := { header with pageKind := 1 }, payload } violation)

/-- RECEIVE_TEST_REFLECT (R62). -/
def execReceiveTestReflect (lane : Lane) (header : Header) (payload : List Byte) (violation : Bool)
    (s : State) : Result :=
  s.act (fun p => p.arrive lane { kind := .test, header := { header with reflect := true }, payload } violation)

/-- RECEIVE_TEST_RETURN (R77). -/
def execReceiveTestReturn (lane : Lane) (header : Header) (payload : List Byte) (violation : Bool)
    (s : State) : Result :=
  s.act (fun p => p.arrive lane { kind := .test, header := { header with reflect := false }, payload } violation)

/-- RECEIVE_PAUSE (R69). -/
def execReceivePause (lane : Lane) (header : Header) (payload : List Byte) (violation : Bool) (s : State) :
    Result :=
  s.act (fun p => p.arrive lane { kind := .pause, header, payload } violation)

/-- LINK_LOSS at a lane by its state (R80, R92). -/
def Part.loseLine (p : Part) (l : Lane) : Part :=
  match (p.lane l).state with
  | .training | .qualify | .active | .degraded | .held => p.forceDown l .linkLoss
  | .off | .quiet | .down => p

/-- LINK_LOSS (R80). -/
def execLinkLoss (lane : Lane) (s : State) : Result :=
  s.act (fun p => (p.raise (.lane lane .linkLosses)).loseLine lane)

end Sys2Proof.Machine
end

