-- ==== Sys2Proof/Machine/Timers.lean ====
section
/-! DEFINITION. The events of the part's own timers and the reports that reach a lane: the lane timers, the
leak tick, DISTRESS_WEIGHT, STORM_REPORT and LATENCY_SAMPLE (chapters 4 and 5), the deadlines and timers
of the streams (chapters 2, 7 and 8), and SUSPECT_EXPIRY (R105). An expiry is taken only while its timer
runs, at the time the timer names or later (log entry 3). -/

namespace Sys2Proof.Machine

/-! ### Lane timers -/

/-- An expiry of a timer: while it runs, the time reaches it and the event is taken. -/
def Part.expire (p : Part) (timer : Option Micros) (act : Part → Part) : Part :=
  match timer with
  | none => p
  | some t => act (p.reach t)

/-- The part with one lane's timers changed. -/
def Part.modTimers (p : Part) (l : Lane) (f : Timers → Timers) : Part :=
  p.modLane l (fun r => { r with timers := f r.timers })

/-- A probe timer's expiry: another PROBE, and the timer restarts at 100 ms (R71). -/
def Part.probeAgain (p : Part) (l : Lane) : Part :=
  (p.place l p.probeFrame).modTimers l (fun t => { t with probe := some (p.now + 100000) })

/-- PROBE_TIMER_EXPIRY (R71). -/
def execProbeTimerExpiry (lane : Lane) (s : State) : Result :=
  s.act (fun p => p.expire (p.lane lane).timers.probe (fun q => q.probeAgain lane))

/-- The detail of LANE_TRAINING_FAILED: how far training had come (R67). -/
def Training.reached (t : Training) : BitVec 16 := if t.next then 3 else if t.ownAck then 2 else 1

/-- The current page is placed again (R74). -/
def Part.resendPage (p : Part) (l : Lane) : Part :=
  let page := if (p.lane l).training.next then p.nextPage l else p.basePage l
  ((p.place l page).modLane l (fun r =>
    { r with training := { r.training with resends := r.training.resends + 1 } })).startPageTimer l

/-- A page timer's expiry: the page again, or the end of training at the resend limit (R74). -/
def Part.judgePageTimer (p : Part) (l : Lane) : Part :=
  if (p.lane l).training.resends < 8 then p.resendPage l
  else p.enterQuiet l (laneEvent .laneTrainingFailed l (p.lane l).training.reached)

/-- PAGE_TIMER_EXPIRY (R74). -/
def execPageTimerExpiry (lane : Lane) (s : State) : Result :=
  s.act (fun p => p.expire (p.lane lane).timers.page (fun q => q.judgePageTimer lane))

/-- QUALIFY_TIMER_EXPIRY (R77, R164, R165). -/
def execQualifyTimerExpiry (lane : Lane) (s : State) : Result :=
  s.act (fun p => p.expire (p.lane lane).timers.qualify (fun q =>
    match (q.lane lane).checker with
    | some b => q.expireBurst lane b
    | none => q))

/-- BEAT_TIMER_EXPIRY: one BEAT is placed; its departure restarts the timer (R70). -/
def execBeatTimerExpiry (lane : Lane) (s : State) : Result :=
  s.act (fun p => p.expire (p.lane lane).timers.beat (fun q =>
    (q.place lane (q.beatFrame lane)).modTimers lane (fun t => { t with beat := none })))

/-- A silence expiry restarts the timer at once, then weighs on the figure in service, or takes the lane to
DOWN in QUALIFY or HELD (R78). -/
def Part.silent (p : Part) (l : Lane) : Part :=
  let q := (p.modTimers l (fun t => { t with silence := some (p.now + 2 * p.params.beatUs) })).raise
    (.lane l .silenceExpiries)
  match (q.lane l).state with
  | .active | .degraded => q.addWeight l 128
  | .qualify | .held => q.enterDown l .silence 0
  | .off | .quiet | .training | .down => q

/-- SILENCE_TIMER_EXPIRY (R78). -/
def execSilenceTimerExpiry (lane : Lane) (s : State) : Result :=
  s.act (fun p => p.expire (p.lane lane).timers.silence (fun q => q.silent lane))

/-- STORM_PERIOD_EXPIRY: the count is 0 and the period restarts (R81). -/
def execStormPeriodExpiry (lane : Lane) (s : State) : Result :=
  s.act (fun p => p.expire (p.lane lane).timers.storm (fun q => q.modLane lane (fun r => r.freshStorm q.now)))

/-- HELD_TIMER_EXPIRY: the lane enters QUALIFY and runs a new burst (R81). -/
def execHeldTimerExpiry (lane : Lane) (s : State) : Result :=
  s.act (fun p => p.expire (p.lane lane).timers.held (fun q => q.startQualify lane))

/-- HOLD_DOWN_EXPIRY: the lane enters QUIET (R82). -/
def execHoldDownExpiry (lane : Lane) (s : State) : Result :=
  s.act (fun p => p.expire (p.lane lane).timers.holdDown (fun q => q.enterQuiet lane id))

/-- PAUSE_EXPIRY: the pause ends, and the held frames may leave in queue order (R69). -/
def execPauseExpiry (lane : Lane) (s : State) : Result :=
  s.act (fun p => p.expire (p.lane lane).timers.pause (fun q =>
    q.modTimers lane (fun t => { t with pause := none })))

/-! ### The leak tick and the reports -/

/-- The leak tick at every lane, in lane order (R93, log entry 9). -/
def Part.leakAll (p : Part) : Part := (((p.leak .a0).leak .a1).leak .b0).leak .b1

/-- LEAK_TICK (R93): the tick restarts at once, 1 ms after its expiry. -/
def execLeakTick (s : State) : Result :=
  s.act (fun p =>
    let q := p.reach p.leakAt
    ({ q with leakAt := p.leakAt + 1000 }).leakAll)

/-- DISTRESS_WEIGHT (R90, R91). -/
def execDistressWeight (lane : Lane) (cause : ReportCause) (s : State) : Result :=
  s.act (fun p => (p.takeReport (.weight lane cause)).addWeight lane (ReportCause.weight cause))

/-- A storm report taken at a lane in ACTIVE or DEGRADED: at STORM_REWINDS the lane enters HELD (R81). -/
def Part.stormTaken (p : Part) (l : Lane) : Part :=
  if (p.lane l).state.inService then
    let q := (p.modLane l (fun r => { r with storm := r.storm + 1 })).raise (.lane l .stormReports)
    if q.params.stormRewinds ≤ (q.lane l).storm then q.hold l else q
  else p

/-- STORM_REPORT (R81). -/
def execStormReport (lane : Lane) (s : State) : Result :=
  s.act (fun p => (p.takeReport (.storm lane)).stormTaken lane)

/-- A latency sample at a lane: its histogram bin, as the LATENCY_SAMPLE row of the table of steps has it, and in
ACTIVE or DEGRADED the smoothed latency (R98, R99, R157). -/
def Part.sampleTaken (p : Part) (l : Lane) (us : BitVec 16) : Part :=
  (p.raise (.lane l (latencyBin us.toNat))).modLane l (fun r =>
    if r.state.inService then { r with latency := smooth r.latency us.toNat } else r)

/-- LATENCY_SAMPLE (R99, R157). -/
def execLatencySample (lane : Lane) (sample : BitVec 16) (s : State) : Result :=
  s.act (fun p => (p.takeReport (.sample lane sample)).sampleTaken lane sample)

/-! ### The streams' deadlines and timers -/

/-- The armed deadline of a stream's entry at a sequence (R37). -/
def Part.deadlineOf (p : Part) (n : StreamId) (s : Seq) : Option Micros :=
  match (p.stream n).entryAt s with
  | some e => e.deadline
  | none => none

/-- DEADLINE_EXPIRY (R38). -/
def execDeadlineExpiry (stream : StreamId) (seq : Seq) (s : State) : Result :=
  s.act (fun p => p.expire (p.deadlineOf stream seq) (fun q => (q.rewind stream .deadline).settle))

/-- The kind of a choice made again (R108, R116): that of the binding it replaces. In the final binding of a MANUAL
move, whose drain deadline is absent, the distinguished lane is the move's target (R138; log entry 41: DEDUCED). -/
def StreamRec.kindAgain (r : StreamRec) : BindingKind :=
  match r.move with
  | some m =>
    if m.cause = .manual ∧ m.drain = .absent then { r.binding with distinguished := m.target } else r.binding
  | none => r.binding

/-- A lane given up on after its ASK attempts joins the tried set, and the stream chooses again (R110, R116, R138). -/
def Part.giveUpLane (p : Part) (n : StreamId) (l : Lane) : Part :=
  let kind := (p.stream n).kindAgain
  ((p.modStream n (fun r => { r with carrier := none, tried := r.tried.add l })).bind n kind).migrated n l

/-- Another ASK on the same lane and epoch (R116). -/
def Part.askAgain (p : Part) (n : StreamId) (l : Lane) : Part :=
  (p.modStream n (fun r => { r with askAttempts := r.askAttempts + 1 })).place l (p.askFrame n)

/-- An expiry of the ASK attempt timer (R116). -/
def Part.askExpired (p : Part) (n : StreamId) : Part :=
  match (p.stream n).carrier with
  | none => p
  | some l =>
    let q := (p.modStream n (fun r => { r with askTimer := none })).report (.weight l .resumeTimeout)
    if (q.stream n).askAttempts < 3 then q.askAgain n l else q.giveUpLane n l

/-- ASK_ATTEMPT_EXPIRY (R116). -/
def execAskAttemptExpiry (stream : StreamId) (s : State) : Result :=
  s.act (fun p => p.expire (p.stream stream).askTimer (fun q => (q.askExpired stream).settle))

/-- STALL_DEADLINE_EXPIRY (R127). -/
def execStallDeadlineExpiry (stream : StreamId) (s : State) : Result :=
  s.act (fun p => p.expire (p.stream stream).stallDeadline (fun q => (q.expireStall stream).settle))

/-- The drain deadline of a DRAINING stream's move, when it runs and the move's cause is one of those a
test picks (R131). -/
def Part.drainExpiry (p : Part) (n : StreamId) (causes : MoveCause → Bool) : Option Micros :=
  match (p.stream n).state, (p.stream n).move with
  | .draining, some m =>
    match m.drain with
    | .running t => if causes m.cause then some t else none
    | _ => none
  | _, _ => none

/-- A MANUAL or RETURN move is abandoned at its drain deadline (R136). -/
def Part.abandonMove (p : Part) (n : StreamId) : Part :=
  match (p.stream n).move with
  | none => p
  | some m =>
    ((p.modStream n (fun r => { r.bound with move := none })).event .moveAbandoned (p.stream n).carrier
      (some n) (bytePair (laneByteOf m.target) (laneByteOf (p.stream n).carrier))).afterBound n

/-- MOVE_ABANDONED (R136). -/
def execMoveAbandoned (stream : StreamId) (s : State) : Result :=
  s.act (fun p => p.expire (p.drainExpiry stream (fun c => c != .leaving))
    (fun q => (q.abandonMove stream).settle))

/-- A LEAVING move is forced at its drain deadline (R137). -/
def Part.forceMove (p : Part) (n : StreamId) : Part :=
  match (p.stream n).move with
  | none => p
  | some m =>
    (((p.event .moveForced (some m.left) (some n) (sat16 (p.stream n).inflight.length)).modStream n
      (fun r => { r with move := some m.over })).bind n m.kind).migrated n m.left

/-- MOVE_FORCED (R137). -/
def execMoveForced (stream : StreamId) (s : State) : Result :=
  s.act (fun p => p.expire (p.drainExpiry stream (fun c => c == .leaving))
    (fun q => (q.forceMove stream).settle))

/-- RETURN_TIMER_EXPIRY (R142). -/
def execReturnTimerExpiry (stream : StreamId) (s : State) : Result :=
  s.act (fun p => p.expire (p.stream stream).returnTimer (fun q =>
    (q.startMove stream (some (q.stream stream).preferred) .returning).settle))

/-- SUSPECT_EXPIRY (R105): the mark expires and nothing else changes. -/
def execSuspectExpiry (side : Side) (s : State) : Result :=
  s.act (fun p => p.expire (p.side side).suspectUntil (fun q =>
    q.modSide side (fun r => { r with suspectUntil := none })))

end Sys2Proof.Machine
end

