-- ==== Sys2Proof/Machine/PatrolUnit.lean ====
section
/-! DEFINITION. The integrity patrol: control-state failures, restricted operation, the patrol's pass over every
stream record, OTT entry and data block, PATROL_CHECK and PATROL_PASS_END (chapter 11). -/

namespace Sys2Proof.Machine

/-- The part with the patrol changed. -/
def Part.modPatrol (p : Part) (f : Patrol → Patrol) : Part := { p with patrol := f p.patrol }

/-! ### Control-state failures (R170) -/

/-- The source of a control-state failure (R148). -/
inductive FailureSource where
  | record
  | entry (i : EntryIx)
  deriving DecidableEq, Repr

/-- The detail of RESTRICTED_ENTERED (R148). -/
def FailureSource.detail : FailureSource → BitVec 16
  | .record => bytePair 1 0
  | .entry i => bytePair 2 i.val

/-- The entry a failure names, disposed of by its fate copy (R170). -/
def FailureSource.failedEntry : FailureSource → Option EntryIx
  | .record => none
  | .entry i => some i

/-- Whether a control-state failure restricts the part (R15, R170). -/
def ServiceState.restricts : ServiceState → Bool
  | .running | .quiescing | .quiesced => true
  | .init | .restricted => false

/-- Step 3 of R170: the service state becomes RESTRICTED and RESTRICTED_ENTERED is logged, in the states
that this leaves. -/
def Part.enterRestricted (p : Part) (n : StreamId) (src : FailureSource) : Part :=
  if p.intake.service.restricts then
    (p.setService .restricted).event .restrictedEntered none (some n) src.detail
  else p

/-- A service state that is about to change logs the open tally before anything else (R7). -/
def Part.flushForRestriction (p : Part) : Part := if p.intake.service.restricts then p.flushTally else p

/-- Steps 1 and 3 of R170, and the patrol's note that a failure has been found during the pass (R172), whichever read
found it (log entry 63: DESIGN CHOICE). A stream already FAULTED is not faulted again. In QUIESCING no QUIESCED is
logged, also when the disposal leaves the queue, the hold lists and the OTT empty: the intake judges R143's condition
at the end of the event, in RESTRICTED (log entry 65: DESIGN CHOICE). -/
def Part.controlFailure (p : Part) (n : StreamId) (src : FailureSource) : Part :=
  let p1 := (p.flushForRestriction).modPatrol (fun t => { t with failed := true })
  let p2 := if (p1.stream n).state = .faulted then p1 else p1.fault n 5 src.failedEntry
  (p2.enterRestricted n src).settle

/-- Step 2 of R170: the failed record keeps the epoch, the next sequence and the write rejections seen as
read. -/
def StreamRec.asRead (r : StreamRec) (epoch : Epoch) (nextSeq : Seq) (rejections : BitVec 8) : StreamRec :=
  { r with epoch := epoch, nextSeq := nextSeq, rejections := rejections }

/-- The check of a stream record at a read (R166, R170). -/
def Part.checkRecord (p : Part) (n : StreamId) : RecordCheck → Part
  | .clean => p
  | .corrected => p.corrected
  | .uncorrectable epoch nextSeq rejections =>
    (p.controlFailure n .record).modStream n (fun r => r.asRead epoch nextSeq rejections)

/-- A checked read of a stream record in ordinary use: nothing is checked while INIT runs (R166). -/
def Part.readRecord (p : Part) (n : StreamId) (found : RecordCheck) : Part :=
  if p.intake.service = .init then p else p.checkRecord n found

/-- The check of an OTT entry at a read: a free entry holds nothing of value, and a failed entry's stream is
the one its fate copy names (R166, R170). -/
def Part.checkEntry (p : Part) (i : EntryIx) : EntryCheck → Part
  | .clean => p
  | .corrected => p.corrected
  | .uncorrectable =>
    match p.findEntry i with
    | some e => p.controlFailure e.fate.stream (.entry i)
    | none => p

/-- The check of one item (R167). -/
def Part.checkItem (p : Part) : ItemCheck → Part
  | .record n found => p.checkRecord n found
  | .entry i found => p.checkEntry i found
  | .block b found => p.checkBlock b found

/-! ### The pass (R167, R172) -/

/-- The place of an item among those of a pass (R167). -/
def itemOf : ItemCheck → Nat
  | .record n _ => n.val
  | .entry i _ => 64 + i.val
  | .block b _ => 320 + b.val

/-- The patrol has read an item in this pass (R167). -/
def Patrol.mark (t : Patrol) (item : Nat) : Patrol := { t with read := t.read ||| BitVec.twoPow passItems item }

/-- A patrol pass starts with no item read, replacing one that runs (R167). -/
def Part.startPass (p : Part) (cause : PassCause) : Part :=
  p.modPatrol (fun _ => { read := 0, pass := cause, failed := false })

/-- What a checked read does besides its check: the patrol's own read is one of its pass, a read in ordinary use is
none (R166, R167). -/
def Part.noteRead (p : Part) (read : PatrolRead) : Part :=
  match read.reader with
  | .patrol => p.modPatrol (fun t => t.mark (itemOf read.check))
  | .use => p

/-- PATROL_CHECK (R167), and the check of a read in ordinary use whose finding is taken as an event of its own (R166,
log entry 6): nothing is checked while INIT runs (R166). -/
def execPatrolCheck (read : PatrolRead) (s : State) : Result :=
  s.act (fun p => if p.intake.service = .init then p else (p.noteRead read).checkItem read.check)

/-- The patrol reads the items that its pass has not read, and finds them clean (R167). -/
def Part.readRest (p : Part) : Part := p.modPatrol (fun t => { t with read := BitVec.allOnes passItems })

/-- The end of a pass that has read every item: one started by an accepted LVRS that found no control-state failure
returns the part to RUNNING, and the next pass starts (R167, R172). -/
def Part.closePass (p : Part) : Part :=
  let q := p.startPass .routine
  if p.patrol.pass = .leave ∧ p.patrol.failed = false ∧ p.intake.service = .restricted then
    q.setService .running
  else q

/-- The end of a patrol pass: the items that no PATROL_CHECK of the pass has read are read in this event, clean, and
the pass, one reading of every item, is over (R167, R172; log entry 15: DESIGN CHOICE). The patrol runs from the end
of INIT onward, so in INIT no pass ends. -/
def Part.endPass (p : Part) : Part := if p.intake.service = .init then p else p.readRest.closePass

/-- PATROL_PASS_END (R172). -/
def execPatrolPassEnd (s : State) : Result := s.act Part.endPass

end Sys2Proof.Machine
end

