-- ==== Sys2Proof/Machine/Management.lean ====
section
/-! DEFINITION. The management commands of chapter 12: identity and status, routes, streams, lanes,
diagnostics, parameters, log, counters, and the service commands. Operands are judged as R174 says: a field
outside its encoding is refused BAD_OPERAND, and then the command's own refusals follow. -/

namespace Sys2Proof.Machine

/-- A command taken by the management port (R165, R173). -/
def State.manage (s : State) (f : Part → Part) : Result := s.act (fun p => p.managed f)

/-- A command with an operand that may be outside its encoding: refused BAD_OPERAND, or taken (R174). -/
def Part.withOperand {α : Type} (p : Part) (operand : Option α) (f : α → Part) : Part :=
  match operand with
  | none => p.reply .badOperand
  | some a => f a

/-! ### Identity and status (R176) -/

/-- IDNT (R176). -/
def execIdnt (s : State) : Result :=
  s.manage (fun p => p.respond Status.ok.code
    (toBigEndian 2 Config.vendorCode.toNat ++ toBigEndian 2 Config.partCode.toNat
      ++ [Config.revision, Config.laneCount]))

/-- A side's byte of STAT (R176). -/
def SideRec.statByte (r : SideRec) : Byte :=
  BitVec.ofNat 8 (r.state.code + if r.suspect then 4 else 0)

/-- The 20 bytes of STAT (R176). -/
def Part.statData (p : Part) : List Byte :=
  [BitVec.ofNat 8 p.intake.service.code, p.logFlags, BitVec.ofNat 8 p.log.overflow,
    p.sides.a.statByte, p.sides.b.statByte, BitVec.ofNat 8 p.intake.queue.length]
  ++ toBigEndian 2 p.entriesInUse ++ [BitVec.ofNat 8 p.slotsInUse] ++ toBigEndian 2 p.blocksInUse
  ++ [BitVec.ofNat 8 (min 255 p.tagsOpen)] ++ toBigEndian 4 p.timeCounter.toNat ++ [0, 0, 0, 0]

/-- STAT (R176). -/
def execStat (s : State) : Result := s.manage (fun p => p.respond Status.ok.code p.statData)

/-! ### Routes (R12 to R14, R177) -/

/-- The route entry that RTWR's operands give, `none` when they break the table of R12 (R177). -/
def routeOfOperands (base : BitVec 48) (units : BitVec 40) (target : BitVec 48) (node : BitVec 16)
    (stream preferred policy access : Byte) : Option Route :=
  match streamOfByte stream, laneOfByte preferred, policyOfByte policy, accessOfByte access with
  | some n, some l, some pol, some acc =>
    if base.toNat % 4096 = 0 ∧ target.toNat % 4096 = 0 ∧ 1 ≤ units.toNat ∧ units.toNat ≤ 2 ^ 36
        ∧ node.toNat ≤ 4095 ∧ base.toNat + units.toNat * 4096 ≤ 2 ^ 48
        ∧ target.toNat + units.toNat * 4096 ≤ 2 ^ 48 then
      some { valid := true, base, units := units.toNat, target, node := node.setWidth 12, stream := n,
             preferred := l, policy := pol, access := acc }
    else none
  | _, _, _, _ => none

/-- Whether another valid entry names the written stream with another node, lane or policy (R13). -/
def Intake.conflicts (i : Intake) (ix : RouteIx) (r : Route) : Bool :=
  (List.finRange 32).any (fun k =>
    let o := i.routes.get k
    k != ix && o.valid && o.stream == r.stream
      && (o.node != r.node || o.preferred != r.preferred || o.policy != r.policy))

/-- Whether a valid route names a stream. -/
def Intake.routed (i : Intake) (n : StreamId) : Bool :=
  (List.finRange 32).any (fun k => (i.routes.get k).valid && (i.routes.get k).stream == n)

/-- The route table with one entry replaced (R13, R14). -/
def Part.setRoute (p : Part) (ix : RouteIx) (r : Route) : Part :=
  p.modIntake (fun i => { i with routes := i.routes.set ix.val r ix.isLt })

/-- A stream that is BOUND with nothing in flight or held leaves BOUND for IDLE (R13, R14). -/
def Part.unbind (p : Part) (n : StreamId) : Part :=
  if (p.stream n).state = .bound ∧ (p.stream n).isEmpty = true then
    p.modStream n (fun r => r.ended .idle)
  else p

/-- A stream that has lost its last valid route (R13, R14). -/
def Part.unbindUnrouted (p : Part) (n : StreamId) : Part :=
  if p.intake.routed n then p else p.unbind n

/-- The written stream's record takes the entry's fields; a changed node takes an empty BOUND stream to IDLE,
and a changed preferred lane starts the return timer afresh (R13, R141). -/
def Part.takeRoute (p : Part) (r : Route) : Part :=
  let old := p.stream r.stream
  let q := p.modStream r.stream (fun x =>
    { x with node := r.node, preferred := r.preferred, policy := r.policy,
             returnTimer := if old.preferred = r.preferred then x.returnTimer else none })
  (if old.node = r.node then q else q.unbind r.stream).judgeReturn r.stream

/-- An accepted RTWR (R13). -/
def Part.acceptRoute (p : Part) (ix : RouteIx) (r : Route) : Part :=
  let old := p.intake.routes.get ix
  if old = r then p.reply .ok
  else
    let q := (p.setRoute ix r).takeRoute r
    ((if old.valid = true ∧ old.stream ≠ r.stream then q.unbindUnrouted old.stream else q).reply .ok)

/-- RTWR after operand checking (R13). -/
def Part.writeRoute (p : Part) (ix : RouteIx) (r : Route) : Part :=
  let old := p.intake.routes.get ix
  if p.intake.service = .init then p.reply .notNow
  else if old.valid = true ∧ (p.stream old.stream).busy = true ∧ old ≠ r then p.reply .busy
  else if p.intake.conflicts ix r then p.reply .conflict
  else p.acceptRoute ix r

/-- RTWR (R13, R177). -/
def execRtwr (index : Byte) (base : BitVec 48) (units : BitVec 40) (target : BitVec 48) (node : BitVec 16)
    (stream preferred policy access : Byte) (s : State) : Result :=
  s.manage (fun p =>
    p.withOperand (routeOfByte index) (fun ix =>
      p.withOperand (routeOfOperands base units target node stream preferred policy access) (fun r =>
        p.writeRoute ix r)))

/-- The 24 bytes of RTRD (R177). -/
def Route.bytes (r : Route) : List Byte :=
  if r.valid then
    [1] ++ toBigEndian 6 r.base.toNat ++ toBigEndian 5 r.units ++ toBigEndian 6 r.target.toNat
      ++ toBigEndian 2 r.node.toNat
      ++ [BitVec.ofNat 8 r.stream.val, BitVec.ofNat 8 r.preferred.code, BitVec.ofNat 8 r.policy.code,
          BitVec.ofNat 8 r.access.code]
  else List.replicate 24 0

/-- RTRD (R177). -/
def execRtrd (index : Byte) (s : State) : Result :=
  s.manage (fun p => p.withOperand (routeOfByte index) (fun ix =>
    p.respond Status.ok.code (p.intake.routes.get ix).bytes))

/-- RTCL after operand checking (R14). -/
def Part.clearRoute (p : Part) (ix : RouteIx) : Part :=
  let old := p.intake.routes.get ix
  if p.intake.service = .init then p.reply .notNow
  else if old.valid = false then p.reply .ok
  else if (p.stream old.stream).busy then p.reply .busy
  else (((p.setRoute ix Route.empty).unbindUnrouted old.stream).reply .ok)

/-- RTCL (R14, R177). -/
def execRtcl (index : Byte) (s : State) : Result :=
  s.manage (fun p => p.withOperand (routeOfByte index) (fun ix => p.clearRoute ix))

/-! ### Streams (R130, R133, R178) -/

/-- The tried set's byte (R178). -/
def LaneSet.byte (t : LaneSet) : Byte := flagByte [t.a0, t.a1, t.b0, t.b1]

/-- The bits of a drain deadline (R178). -/
def Drain.code : Drain → Nat
  | .absent => 0
  | .running _ => 1
  | .stopped _ => 2

/-- Byte 22 of SMRD: the pending move (R178). -/
def moveByte : Option Move → Byte
  | none => 0
  | some m =>
    BitVec.ofNat 8 (m.cause.code * 64 + m.drain.code * 16 + match m.target with
      | some l => l.code
      | none => 4)

/-- Byte 23 of SMRD: the drain deadline in ms (R178). -/
def drainByte (now : Micros) : Option Move → Byte
  | none => 0xFF
  | some m =>
    match m.drain with
    | .absent => 0xFF
    | .running t => BitVec.ofNat 8 (min 254 ((t - now) / 1000))
    | .stopped left => BitVec.ofNat 8 (min 254 (left / 1000))

/-- Two bytes of an optional value, FFFFh when absent (R178). -/
def twoBytesOr (v : Option Nat) : List Byte :=
  match v with
  | some x => toBigEndian 2 x
  | none => [0xFF, 0xFF]

/-- The 27 bytes of SMRD (R178). -/
def StreamRec.bytes (r : StreamRec) (n : StreamId) (now : Micros) : List Byte :=
  [BitVec.ofNat 8 n.val, BitVec.ofNat 8 r.state.code] ++ toBigEndian 2 r.node.toNat
  ++ [BitVec.ofNat 8 r.preferred.code, BitVec.ofNat 8 r.policy.code, byteOfLane r.carrier,
      BitVec.ofNat 8 r.epoch.toNat]
  ++ toBigEndian 2 r.nextSeq.toNat ++ twoBytesOr (r.mark.map BitVec.toNat)
  ++ [match r.recallDepth with | some d => BitVec.ofNat 8 d.toNat | none => 0xFF]
  ++ [BitVec.ofNat 8 r.swapLimit] ++ toBigEndian 2 r.inflight.length
  ++ [BitVec.ofNat 8 r.swapCount, BitVec.ofNat 8 r.hold.length, BitVec.ofNat 8 r.askAttempts, r.tried.byte]
  ++ twoBytesOr (r.stallDeadline.map (fun t => (t - now) / 1000))
  ++ [moveByte r.move, drainByte now r.move]
  ++ twoBytesOr (r.returnTimer.map (fun t => (t - now + 99999) / 100000)) ++ [r.rejections]

/-- SMRD (R170, R178): the read of the record is checked, in every state but INIT (R166). -/
def execSmrd (stream : Byte) (found : RecordCheck) (s : State) : Result :=
  s.manage (fun p => p.withOperand (streamOfByte stream) (fun n =>
    let q := p.readRecord n found
    q.respond Status.ok.code ((q.stream n).bytes n q.now)))

/-- Whether SMOV accepts a target lane (R133). -/
def LaneRec.moveTarget (r : LaneRec) : Bool := r.state == .active && !r.leaving

/-- SMOV after operand checking (R133). -/
def Part.moveStream (p : Part) (n : StreamId) (l : Lane) : Part :=
  if (p.stream n).carrier = some l then p.reply .badOperand
  else if (p.stream n).move ≠ none then p.reply .busy
  else if (p.stream n).state ≠ .bound then p.reply .notNow
  else if (p.lane l).moveTarget = false then p.reply .notNow
  else ((p.startMove n (some l) .manual).settle).reply .accepted

/-- SMOV (R133, R178). -/
def execSmov (stream target : Byte) (s : State) : Result :=
  s.manage (fun p => p.withOperand (streamOfByte stream) (fun n =>
    p.withOperand (laneOfByte target) (fun l => p.moveStream n l)))

/-- SRST after operand checking (R130). -/
def Part.resetStream (p : Part) (n : StreamId) : Part :=
  match (p.stream n).state with
  | .faulted => (p.modStream n (fun r => { r with state := .idle })).reply .ok
  | .idle => p.reply .ok
  | .binding | .replaying | .bound | .draining | .stalled => p.reply .notNow

/-- SRST (R130, R178). -/
def execSrst (stream : Byte) (s : State) : Result :=
  s.manage (fun p => p.withOperand (streamOfByte stream) (fun n => p.resetStream n))

/-! ### Lanes (R84 to R87, R179) -/

/-- The partner fields of LNRD, zero when the partner page data is absent (R179). -/
def partnerBytes : Option BasePage → List Byte
  | none => List.replicate 6 0
  | some g =>
    [g.side, g.port] ++ toBigEndian 2 g.maxPayload.toNat
      ++ [BitVec.ofNat 8 g.resume.toNat, BitVec.ofNat 8 (partnerCode g.partner)]

/-- The training byte of LNRD (R179). -/
def Training.byte (t : Training) : Byte :=
  BitVec.ofNat 8 (t.next.toNat * 128 + t.ownAck.toNat * 64 + t.toggle.toNat * 32 + t.seen * 8)

/-- The 22 bytes of LNRD (R179). -/
def LaneRec.bytes (r : LaneRec) (l : Lane) : List Byte :=
  [BitVec.ofNat 8 l.code, BitVec.ofNat 8 r.state.code, BitVec.ofNat 8 (offReasonCode r.offReason),
    BitVec.ofNat 8 r.pin.code,
    flagByte [r.suppressed, r.partnerLeaving, r.restartPending, r.loopback, r.timers.pause.isSome,
      r.page.isSome]]
  ++ toBigEndian 2 r.figure ++ toBigEndian 2 r.latency ++ partnerBytes r.page
  ++ [BitVec.ofNat 8 r.requalify, BitVec.ofNat 8 r.storm, BitVec.ofNat 8 r.errorBytes, r.training.byte,
      BitVec.ofNat 8 r.training.resends]
  ++ twoBytesOr (r.checker.map Burst.compared)

/-- LNRD (R179). -/
def execLnrd (lane : Byte) (s : State) : Result :=
  s.manage (fun p => p.withOperand (laneOfByte lane) (fun l =>
    p.respond Status.ok.code ((p.lane l).bytes l)))

/-- ENABLE (R84). -/
def execEnable (lane : Byte) (s : State) : Result :=
  s.manage (fun p => p.withOperand (laneOfByte lane) (fun l =>
    (if (p.lane l).state = .off then p.enterQuiet l id else p).reply .ok))

/-- DISABLE at a lane (R84). -/
def Part.disableLane (p : Part) (l : Lane) : Part :=
  if (p.lane l).state = .off then p.modLane l (fun r => { r with offReason := some .disabled })
  else p.enterOff l .disabled (laneEvent .laneDown l (bytePair DownCause.disabled.code 0))

/-- DISABLE (R84). -/
def execDisable (lane : Byte) (s : State) : Result :=
  s.manage (fun p => p.withOperand (laneOfByte lane) (fun l => (p.disableLane l).reply .ok))

/-- A restart becomes pending: LEAVING moves start if the lane was not leaving already, and the lane enters
QUIET when the last stream has left it (R87, R134). -/
def Part.pendRestart (p : Part) (l : Lane) : Part :=
  let q := p.modLane l (fun r => { r with restartPending := true })
  (((if (p.lane l).leaving then q else q.leavingMoves l).judgeReturns l).settle)

/-- RESTART after operand checking (R87). -/
def Part.restartCommand (p : Part) (l : Lane) : Part :=
  if (p.lane l).state = .off then p.reply .notNow
  else if (p.lane l).restartPending then p.reply .ok
  else if p.carries l then (p.pendRestart l).reply .accepted
  else (p.restartLane l).reply .ok

/-- RESTART (R87). -/
def execRestart (lane : Byte) (s : State) : Result :=
  s.manage (fun p => p.withOperand (laneOfByte lane) (fun l => p.restartCommand l))

/-- The pin leaves KEEP: the suppressed flag is cleared and the figure is evaluated at once (R86). -/
def Part.leaveKeep (p : Part) (l : Lane) : Part :=
  if (p.lane l).pin = .keep then
    (p.modLane l (fun r => { r with pin := .unpinned, suppressed := false })).evaluate l
  else p

/-- PIN_OUT at a lane (R85): KEEP is left first (R86), and LEAVING moves start if the lane was not leaving
already (R134). -/
def Part.pinOut (p : Part) (l : Lane) : Part :=
  if (p.lane l).pin = .out then p
  else
    let q := p.leaveKeep l
    let q' := q.modLane l (fun r => { r with pin := .out })
    (((if (q.lane l).leaving then q' else q'.leavingMoves l).judgeReturns l).settle)

/-- PIN_OUT (R85). -/
def execPinOut (lane : Byte) (s : State) : Result :=
  s.manage (fun p => p.withOperand (laneOfByte lane) (fun l => (p.pinOut l).reply .ok))

/-- PIN_KEEP (R86). -/
def execPinKeep (lane : Byte) (s : State) : Result :=
  s.manage (fun p => p.withOperand (laneOfByte lane) (fun l =>
    ((p.modLane l (fun r => { r with pin := .keep })).judgeReturns l).reply .ok))

/-- UNPIN at a lane (R85, R86, R179). -/
def Part.unpinLane (p : Part) (l : Lane) : Part :=
  ((p.leaveKeep l).modLane l (fun r => { r with pin := .unpinned })).judgeReturns l

/-- UNPIN (R85, R86). -/
def execUnpin (lane : Byte) (s : State) : Result :=
  s.manage (fun p => p.withOperand (laneOfByte lane) (fun l => (p.unpinLane l).reply .ok))

/-! ### Diagnostics (R163, R165) -/

/-- The setting of DGLP: 0 off, 1 on (R179). -/
def settingOfByte (b : Byte) : Option Bool := if b = 0 then some false else if b = 1 then some true else none

/-- DGLP after operand checking (R163). Frames still in the loopback path stay there when the loopback is turned off
(log entry 53: DESIGN CHOICE). -/
def Part.setLoopback (p : Part) (l : Lane) (on : Bool) : Part :=
  if on then
    if (p.lane l).state = .off ∧ (p.lane l).offReason = some .disabled then
      (p.modLane l (fun r => { r with loopback := true })).reply .ok
    else p.reply .notNow
  else (p.modLane l (fun r => { r with loopback := false })).reply .ok

/-- DGLP (R163). -/
def execDglp (lane setting : Byte) (s : State) : Result :=
  s.manage (fun p => p.withOperand (laneOfByte lane) (fun l =>
    p.withOperand (settingOfByte setting) (fun on => p.setLoopback l on)))

/-- A diagnostic burst starts, and the port stops acknowledging (R165). -/
def Part.startDiagnostic (p : Part) (l : Lane) (count : Nat) : Part :=
  let q := p.modLane l (fun r =>
    { r with errorBytes := 0,
             checker := some { owner := .diagnostic, length := count, sent := 0, compared := 0 },
             queue := r.queue ++ p.burstFrames false count })
  { q with port := { q.port with burst := some l } }

/-- DGPT after its lane operand is known (R165). -/
def Part.runDiagnostic (p : Part) (l : Lane) (count : Nat) : Part :=
  if count < 1 ∨ 256 < count then p.reply .badOperand
  else if (p.lane l).loopback = false then p.reply .notNow
  else p.startDiagnostic l count

/-- DGPT (R165). -/
def execDgpt (lane : Byte) (frames : BitVec 16) (s : State) : Result :=
  s.manage (fun p => p.withOperand (laneOfByte lane) (fun l => p.runDiagnostic l frames.toNat))

/-! ### Parameters (R29, R96, R97, R180) -/

/-- Whether SOURCE_NODE may be written: every stream IDLE or FAULTED, and no OTT entry in use (R180). -/
def Part.sourceFree (p : Part) : Bool :=
  allStreams.all (fun n =>
    ((p.stream n).state == .idle || (p.stream n).state == .faulted) && (p.stream n).inflight.isEmpty)

/-- The threshold evaluation of every lane in one event: each lane and its side in turn, the lane of index 0 of
each side first (R97, R103), and then the streams, whose choices read what all the lanes have become (R112). -/
def Part.evaluateAll (p : Part) : Part :=
  ((((p.evaluateLane .a0).evaluateLane .a1).evaluateLane .b0).evaluateLane .b1).streamsFollow p

/-- What a parameter write does beyond storing its value (R29, R97). -/
def Part.afterWrite (p : Part) (k : Param) (changed : Bool) : Part :=
  match k with
  | .clearLevel | .warnLevel | .downLevel => if changed then p.evaluateAll else p
  | .streamWindow => p.serve
  | _ => p

/-- An accepted parameter write: the clamped value is stored and acts (R180). -/
def Part.acceptParam (p : Part) (k : Param) (v : Nat) : Part :=
  let w := p.params.clamped k v
  let q := { p with params := p.params.store k w }
  ((q.afterWrite k (p.params.value k != w)).reply (if w = v then .ok else .okClamped))

/-- PMWR with a known parameter (R180). -/
def Part.writeParam (p : Part) (k : Param) (value : List Byte) : Part :=
  if value.length ≠ k.width then p.reply .badOperand
  else if k.undefinedMember (bigEndian value) then p.reply .badOperand
  else if k = .sourceNode ∧ p.sourceFree = false then p.reply .busy
  else p.acceptParam k (bigEndian value)

/-- PMWR (R180). -/
def execPmwr (id : Byte) (value : List Byte) (s : State) : Result :=
  s.manage (fun p => p.withOperand (Param.ofId id) (fun k => p.writeParam k value))

/-- PMRD (R180). -/
def execPmrd (id : Byte) (s : State) : Result :=
  s.manage (fun p => p.withOperand (Param.ofId id) (fun k =>
    p.respond Status.ok.code (toBigEndian k.width (p.params.value k))))

/-! ### Log and counters (R151, R160, R181) -/

/-- The data of EVPK and EVPP: the entry count, the flags after the command, and the entry (R181). -/
def Part.logData (p : Part) (head : Option LogEntry) : List Byte :=
  match head with
  | some e => [1, p.logFlags] ++ e.bytes
  | none => [0, p.logFlags]

/-- EVPK (R151). -/
def execEvpk (s : State) : Result :=
  s.manage (fun p => p.respond Status.ok.code (p.logData p.log.entries.head?))

/-- The log without its oldest entry (R151). -/
def EventLog.pop (log : EventLog) : EventLog := { log with entries := log.entries.tail }

/-- EVPP (R151). -/
def execEvpp (s : State) : Result :=
  s.manage (fun p =>
    let q := { p with log := p.log.pop }
    q.respond Status.ok.code (q.logData p.log.entries.head?))

/-- The log emptied: the next event number is kept (R151). -/
def EventLog.clear (log : EventLog) : EventLog := { EventLog.powerOn with next := log.next }

/-- EVCL (R151). -/
def execEvcl (s : State) : Result :=
  s.manage (fun p => ({ p with log := p.log.clear }).reply .ok)

/-- The counter an id names, if one does (R155 to R159). -/
def counterOfId (id : Nat) : Option CounterId :=
  let hi := id / 256
  let lo := id % 256
  if hi = 0x00 then (PartCounter.ofNumber lo).map .part
  else if hi = 0x10 then (LaneCounter.ofNumber lo).map (.lane .a0)
  else if hi = 0x11 then (LaneCounter.ofNumber lo).map (.lane .a1)
  else if hi = 0x12 then (LaneCounter.ofNumber lo).map (.lane .b0)
  else if hi = 0x13 then (LaneCounter.ofNumber lo).map (.lane .b1)
  else
    match streamOfByte (BitVec.ofNat 8 (hi - 0x40)) with
    | some n => if 0x40 ≤ hi then (StreamCounter.ofNumber lo).map (.stream n) else none
    | none => none

/-- The counters that follow a first id in counter number, `none` when one of the ids names none or the
range runs past FFh (R160). -/
def countersOfRange (first count : Nat) : Option (List CounterId) :=
  if 256 < first % 256 + count then none
  else ((List.range count).map (fun k => counterOfId (first + k))).foldr
    (fun c acc => match c, acc with
      | some x, some xs => some (x :: xs)
      | _, _ => none) (some [])

/-- CTRD with its counters known: the values, and the clear (R160). -/
def Part.readCounters (p : Part) (cs : List CounterId) (clear : Bool) : Part :=
  let q := if clear then cs.foldl (fun x c => x.setCounter c 0) p else p
  q.respond Status.ok.code (cs.flatMap (fun c => toBigEndian 4 (p.counter c).toNat))

/-- CTRD (R160). -/
def execCtrd (first : BitVec 16) (number clear : Byte) (s : State) : Result :=
  s.manage (fun p =>
    if number.toNat < 1 ∨ 8 < number.toNat then p.reply .badOperand
    else p.withOperand (settingOfByte clear) (fun c =>
      p.withOperand (countersOfRange first.toNat number.toNat) (fun cs => p.readCounters cs c)))

/-! ### Service commands (R143, R144, R172, R182) -/

/-- QSCE in RUNNING (R143). -/
def Part.quiesce (p : Part) : Part :=
  ((p.setService .quiescing).modIntake (fun i => { i with quiesceAt := p.now })).judgeQuiesce

/-- QSCE (R15, R143). -/
def execQsce (s : State) : Result :=
  s.manage (fun p =>
    match p.intake.service with
    | .running => p.quiesce.reply .ok
    | .quiescing | .quiesced => p.reply .ok
    | .init | .restricted => p.reply .notNow)

/-- RLSE (R15, R144). -/
def execRlse (s : State) : Result :=
  s.manage (fun p =>
    match p.intake.service with
    | .quiescing | .quiesced => (p.setService .running).reply .ok
    | .running => p.reply .ok
    | .init | .restricted => p.reply .notNow)

/-- LVRS (R172): the intake queue, the hold lists and the OTT must be empty. -/
def execLvrs (s : State) : Result :=
  s.manage (fun p =>
    if p.intake.service = .restricted ∧ p.quiesceHolds = true then (p.startPass .leave).reply .accepted
    else p.reply .notNow)

/-- The intake at a warm restart: the queue is answered or discarded in order, and the discarded WRITEs are
reported, before the stream engine's events of the restart (R17, steps 1 and 2; log entry 56: DESIGN CHOICE). -/
def Part.restartIntake (p : Part) : Part :=
  let queue := p.intake.queue
  let p1 := p.flushTally.modIntake (fun i => { i with queue := [], headWaited := false })
  let p2 := queue.foldl (fun x q => if expectsAnswer q then x.answerHost q.tag .restarted [] else x) p1
  if writesIn queue = 0 then p2 else p2.event .writesDropped none none (sat16 (writesIn queue))

/-- The stream engine at a warm restart (R39, R40): every stream in increasing stream number, and the
arbiter's last stream served. -/
def Part.restartStreams (p : Part) : Part :=
  (allStreams.foldl (fun q n => q.restartStream n) p).modEngine (fun g => { g with lastServed := 63 })

/-- The lanes at a warm restart: their REQUEST and ASK frames are removed, and a lane with a restart pending
enters QUIET (R88). -/
def Part.restartLanes (p : Part) : Part := (p.unqueue Frame.isTransaction).judgeRestarts

/-- Every tag is closed (R5, R17). -/
def Part.closeTags (p : Part) : Part :=
  p.modIntake (fun i => { i with openTags := Vector.replicate 256 false })

/-- The service state after a warm restart: RUNNING, or INIT during INIT (R15). -/
def ServiceState.restarted : ServiceState → ServiceState
  | .init => .init
  | .running | .quiescing | .quiesced | .restricted => .running

/-- The service state after a warm restart, with credit offered (R15, R17). -/
def Part.restartService (p : Part) : Part :=
  p.modIntake (fun i => ({ i with service := i.service.restarted }).offer)

/-- A warm restart (R182). R40 lets the intake's completions and the stream engine's reach the port independently; here
the intake's are handed over first, each list in its own order (log entry 64: DESIGN CHOICE). -/
def Part.warmRestart (p : Part) : Part :=
  (((((p.restartIntake).restartStreams).restartLanes).closeTags).restartService).startPass .restart

/-- SVRS (R182). -/
def execSvrs (s : State) : Result := s.manage (fun p => p.warmRestart.reply .ok)

end Sys2Proof.Machine
end

