-- ==== Sys2Proof/Machine/Frontend.lean ====
section
/-! DEFINITION. From bytes to commands: a management frame judged as R174 and R175 say, with BAD_COMMAND for
the frames they refuse, and a delivered lane frame as R44 and R45 sort it. -/

namespace Sys2Proof.Machine

/-- What R174 finds in the bytes of a management write. -/
inductive Judged where
  /-- A write that carries only the address: nothing is executed (R173). -/
  | nothing
  | refused (status : Status)
  | command (i : Instr)
  deriving DecidableEq, Repr

/-- The command codes of R175. -/
def commandCodes : List Byte :=
  [0x01, 0x02, 0x10, 0x11, 0x12, 0x20, 0x21, 0x22, 0x30, 0x31, 0x38, 0x39, 0x40, 0x41, 0x50, 0x51, 0x52,
    0x58, 0x60, 0x61, 0x62, 0x6F]

/-- The number in the `w` bytes of a run that start at `i`. -/
def fieldAt (w i : Nat) (bs : List Byte) : BitVec (8 * w) := BitVec.ofNat (8 * w) (bigEndian ((bs.drop i).take w))

/-- RTWR from its 24 operand bytes (R177). -/
def rtwrOf (bs : List Byte) : Instr :=
  .rtwr (bs.getD 0 0) (fieldAt 6 1 bs) (fieldAt 5 7 bs) (fieldAt 6 12 bs) (fieldAt 2 18 bs) (bs.getD 20 0)
    (bs.getD 21 0) (bs.getD 22 0) (bs.getD 23 0)

/-- LNCT from its lane and action (R179). -/
def lnctOf (lane action : Byte) : Judged :=
  match action.toNat with
  | 1 => .command (.enable lane)
  | 2 => .command (.disable lane)
  | 3 => .command (.restart lane)
  | 4 => .command (.pinOut lane)
  | 5 => .command (.pinKeep lane)
  | 6 => .command (.unpin lane)
  | _ => .refused .badOperand

/-- PMWR from its id and value bytes, whose number the id sets (R180). -/
def pmwrOf (id : Byte) (value : List Byte) : Judged :=
  match Param.ofId id with
  | some k => if value.length = k.width then .command (.pmwr id value) else .refused .badOperand
  | none => .refused .badOperand

/-- The command of a code and its operand bytes; a wrong number of bytes is refused BAD_OPERAND (R174,
R175). SMRD's read of the record is taken as clean. -/
def commandOf (code : Byte) (operands : List Byte) : Judged :=
  match code.toNat, operands with
  | 0x01, [] => .command .idnt
  | 0x02, [] => .command .stat
  | 0x11, [i] => .command (.rtrd i)
  | 0x12, [i] => .command (.rtcl i)
  | 0x20, [n] => .command (.smrd n .clean)
  | 0x21, [n, l] => .command (.smov n l)
  | 0x22, [n] => .command (.srst n)
  | 0x30, [l] => .command (.lnrd l)
  | 0x31, [l, a] => lnctOf l a
  | 0x38, [l, v] => .command (.dglp l v)
  | 0x39, [l, hi, lo] => .command (.dgpt l (hi ++ lo))
  | 0x40, id :: value => pmwrOf id value
  | 0x41, [id] => .command (.pmrd id)
  | 0x50, [] => .command .evpk
  | 0x51, [] => .command .evpp
  | 0x52, [] => .command .evcl
  | 0x58, [hi, lo, k, c] => .command (.ctrd (hi ++ lo) k c)
  | 0x60, [] => .command .qsce
  | 0x61, [] => .command .rlse
  | 0x62, [] => .command .lvrs
  | 0x10, bs => if bs.length = 24 then .command (rtwrOf bs) else .refused .badOperand
  | _, _ => .refused .badOperand

/-- A management write judged in the order of R174; SVRS is carried out whatever follows its code. -/
def judgeFrame : List Byte → Judged
  | [] => .nothing
  | code :: rest =>
    if code = 0x6F#8 then .command .svrs
    else if commandCodes.contains code = false then .refused .badCommand
    else
      match rest with
      | [] => .refused .badOperand
      | count :: operands =>
        if 32 < count.toNat ∨ count.toNat ≠ operands.length then .refused .badOperand
        else commandOf code operands

/-- A write transaction at an address: one that the port does not acknowledge carries nothing to the part, and one
that it acknowledges is judged (R165, R173). -/
def Port.write (t : Port) (a : BitVec 7) (bytes : List Byte) : Judged :=
  if t.acknowledges a then judgeFrame bytes else .nothing

/-- BAD_COMMAND (R174): a frame that R174 refuses changes nothing but the response; another frame is no
BAD_COMMAND, and nothing happens. -/
def execBadCommand (frame : List Byte) (s : State) : Result :=
  s.manage (fun p =>
    match judgeFrame frame with
    | .refused st => p.reply st
    | .nothing | .command _ => p)

/-- The command of a good frame at a lane: in OFF the search of R64, and otherwise by its kind (R45). -/
def arrivalOfFrame (isOff : Bool) (l : Lane) (f : Frame) (violation : Bool) : Instr :=
  if isOff then .frameInOff l f violation
  else
    match f.kind with
    | .answer => .receiveAnswer l f.header f.payload violation
    | .tell => .receiveTell l f.header f.payload violation
    | .gap => .receiveGap l f.header f.payload violation
    | .beat => .receiveBeat l f.header f.payload violation
    | .page =>
      if f.header.pageKind = 1#2 then .receiveNextPage l f.header f.payload violation
      else .receiveBasePage l f.header f.payload violation
    | .test =>
      if f.header.reflect then .receiveTestReflect l f.header f.payload violation
      else .receiveTestReturn l f.header f.payload violation
    | .pause => .receivePause l f.header f.payload violation
    | .request => .unexpectedFrame l .request f.header f.payload violation
    | .ask => .unexpectedFrame l .ask f.header f.payload violation
    | .probe => .unexpectedFrame l .probe f.header f.payload violation
    | .other c => .unexpectedFrame l (.other c) f.header f.payload violation

/-- The command of the bytes a lane receiver delivers: BAD_FRAME when they fail their check (R44). -/
def arrivalOf (isOff : Bool) (l : Lane) (bytes : List Byte) (violation : Bool) : Instr :=
  match Frame.ofBytes bytes with
  | none => .badFrame l violation
  | some f => arrivalOfFrame isOff l f violation

end Sys2Proof.Machine
end

