-- ==== Sys2Proof/Machine/Dispatch.lean ====
section
/-! DEFINITION. The dispatch of a command to its meaning: one arm per constructor of `Instr`. -/

namespace Sys2Proof.Machine

def exec (i : Instr) (s : State) : Host.Outcome State Fault Refusal :=
  match i with
  | .powerOn pins => Sys2Proof.Machine.execPowerOn pins s
  | .initDone => Sys2Proof.Machine.execInitDone s
  | .hostRequest record => Sys2Proof.Machine.execHostRequest record s
  | .intakeChecks => Sys2Proof.Machine.execIntakeChecks s
  | .hostLinkReset => Sys2Proof.Machine.execHostLinkReset s
  | .hostLinkUp => Sys2Proof.Machine.execHostLinkUp s
  | .frameDeparture lane reads => Sys2Proof.Machine.execFrameDeparture lane reads s
  | .badFrame lane violation => Sys2Proof.Machine.execBadFrame lane violation s
  | .unexpectedFrame lane kind header payload violation => Sys2Proof.Machine.execUnexpectedFrame lane kind header payload violation s
  | .frameInOff lane frame violation => Sys2Proof.Machine.execFrameInOff lane frame violation s
  | .receiveAnswer lane header payload violation => Sys2Proof.Machine.execReceiveAnswer lane header payload violation s
  | .receiveTell lane header payload violation => Sys2Proof.Machine.execReceiveTell lane header payload violation s
  | .receiveGap lane header payload violation => Sys2Proof.Machine.execReceiveGap lane header payload violation s
  | .receiveBeat lane header payload violation => Sys2Proof.Machine.execReceiveBeat lane header payload violation s
  | .receiveBasePage lane header payload violation => Sys2Proof.Machine.execReceiveBasePage lane header payload violation s
  | .receiveNextPage lane header payload violation => Sys2Proof.Machine.execReceiveNextPage lane header payload violation s
  | .receiveTestReflect lane header payload violation => Sys2Proof.Machine.execReceiveTestReflect lane header payload violation s
  | .receiveTestReturn lane header payload violation => Sys2Proof.Machine.execReceiveTestReturn lane header payload violation s
  | .receivePause lane header payload violation => Sys2Proof.Machine.execReceivePause lane header payload violation s
  | .linkLoss lane => Sys2Proof.Machine.execLinkLoss lane s
  | .probeTimerExpiry lane => Sys2Proof.Machine.execProbeTimerExpiry lane s
  | .pageTimerExpiry lane => Sys2Proof.Machine.execPageTimerExpiry lane s
  | .qualifyTimerExpiry lane => Sys2Proof.Machine.execQualifyTimerExpiry lane s
  | .beatTimerExpiry lane => Sys2Proof.Machine.execBeatTimerExpiry lane s
  | .silenceTimerExpiry lane => Sys2Proof.Machine.execSilenceTimerExpiry lane s
  | .stormPeriodExpiry lane => Sys2Proof.Machine.execStormPeriodExpiry lane s
  | .heldTimerExpiry lane => Sys2Proof.Machine.execHeldTimerExpiry lane s
  | .holdDownExpiry lane => Sys2Proof.Machine.execHoldDownExpiry lane s
  | .pauseExpiry lane => Sys2Proof.Machine.execPauseExpiry lane s
  | .leakTick => Sys2Proof.Machine.execLeakTick s
  | .distressWeight lane cause => Sys2Proof.Machine.execDistressWeight lane cause s
  | .stormReport lane => Sys2Proof.Machine.execStormReport lane s
  | .latencySample lane sample => Sys2Proof.Machine.execLatencySample lane sample s
  | .deadlineExpiry stream seq => Sys2Proof.Machine.execDeadlineExpiry stream seq s
  | .askAttemptExpiry stream => Sys2Proof.Machine.execAskAttemptExpiry stream s
  | .stallDeadlineExpiry stream => Sys2Proof.Machine.execStallDeadlineExpiry stream s
  | .moveAbandoned stream => Sys2Proof.Machine.execMoveAbandoned stream s
  | .moveForced stream => Sys2Proof.Machine.execMoveForced stream s
  | .returnTimerExpiry stream => Sys2Proof.Machine.execReturnTimerExpiry stream s
  | .suspectExpiry side => Sys2Proof.Machine.execSuspectExpiry side s
  | .patrolCheck read => Sys2Proof.Machine.execPatrolCheck read s
  | .patrolPassEnd => Sys2Proof.Machine.execPatrolPassEnd s
  | .idnt => Sys2Proof.Machine.execIdnt s
  | .stat => Sys2Proof.Machine.execStat s
  | .rtwr index base units target node stream preferred policy access => Sys2Proof.Machine.execRtwr index base units target node stream preferred policy access s
  | .rtrd index => Sys2Proof.Machine.execRtrd index s
  | .rtcl index => Sys2Proof.Machine.execRtcl index s
  | .smrd stream found => Sys2Proof.Machine.execSmrd stream found s
  | .smov stream target => Sys2Proof.Machine.execSmov stream target s
  | .srst stream => Sys2Proof.Machine.execSrst stream s
  | .lnrd lane => Sys2Proof.Machine.execLnrd lane s
  | .enable lane => Sys2Proof.Machine.execEnable lane s
  | .disable lane => Sys2Proof.Machine.execDisable lane s
  | .restart lane => Sys2Proof.Machine.execRestart lane s
  | .pinOut lane => Sys2Proof.Machine.execPinOut lane s
  | .pinKeep lane => Sys2Proof.Machine.execPinKeep lane s
  | .unpin lane => Sys2Proof.Machine.execUnpin lane s
  | .dglp lane setting => Sys2Proof.Machine.execDglp lane setting s
  | .dgpt lane frames => Sys2Proof.Machine.execDgpt lane frames s
  | .pmwr id value => Sys2Proof.Machine.execPmwr id value s
  | .pmrd id => Sys2Proof.Machine.execPmrd id s
  | .evpk => Sys2Proof.Machine.execEvpk s
  | .evpp => Sys2Proof.Machine.execEvpp s
  | .evcl => Sys2Proof.Machine.execEvcl s
  | .ctrd first number clear => Sys2Proof.Machine.execCtrd first number clear s
  | .qsce => Sys2Proof.Machine.execQsce s
  | .rlse => Sys2Proof.Machine.execRlse s
  | .lvrs => Sys2Proof.Machine.execLvrs s
  | .svrs => Sys2Proof.Machine.execSvrs s
  | .badCommand frame => Sys2Proof.Machine.execBadCommand frame s

end Sys2Proof.Machine
end

