-- ==== Sys2Proof/Machine/Clock.lean ====
section
/-! DEFINITION. What the part does while no command waits (log entry 2): it takes its own next event that is
due, and with none due a microsecond passes. The events that are due are the reports on their way to a
lane (R91), the examination of the intake head (R4), and the expiries whose time has come. -/

namespace Sys2Proof.Machine

/-- The command of a report (R91). -/
def Report.command : Report → Instr
  | .weight l c => .distressWeight l c
  | .storm l => .stormReport l
  | .sample l us => .latencySample l us

/-- Whether a timer has come to its time. -/
def dueAt (now : Micros) (timer : Option Micros) : Bool :=
  match timer with
  | some t => decide (t ≤ now)
  | none => false

/-- A command, if it is due. -/
def whenDue (due : Bool) (c : Instr) : List Instr := if due then [c] else []

/-- The examination of the intake head, when it would do something: the head passes or is refused, or it
waits and has not been counted (R4, R159). -/
def Part.intakeDue (p : Part) : Bool :=
  match p.intake.queue with
  | [] => false
  | q :: _ => p.verdict q != .waits || !p.intake.headWaited

/-- The timer expiries of a lane that are due. -/
def Part.laneDue (p : Part) (l : Lane) : List Instr :=
  let t := (p.lane l).timers
  whenDue (dueAt p.now t.probe) (.probeTimerExpiry l) ++ whenDue (dueAt p.now t.page) (.pageTimerExpiry l)
  ++ whenDue (dueAt p.now t.qualify) (.qualifyTimerExpiry l) ++ whenDue (dueAt p.now t.held) (.heldTimerExpiry l)
  ++ whenDue (dueAt p.now t.holdDown) (.holdDownExpiry l) ++ whenDue (dueAt p.now t.beat) (.beatTimerExpiry l)
  ++ whenDue (dueAt p.now t.silence) (.silenceTimerExpiry l) ++ whenDue (dueAt p.now t.storm) (.stormPeriodExpiry l)
  ++ whenDue (dueAt p.now t.pause) (.pauseExpiry l)

/-- The deadlines and timers of a stream that are due. -/
def Part.streamDue (p : Part) (n : StreamId) : List Instr :=
  let r := p.stream n
  (r.inflight.flatMap (fun e => whenDue (dueAt p.now e.deadline) (.deadlineExpiry n e.seq)))
  ++ whenDue (dueAt p.now r.askTimer) (.askAttemptExpiry n)
  ++ whenDue (dueAt p.now r.stallDeadline) (.stallDeadlineExpiry n)
  ++ whenDue (dueAt p.now (p.drainExpiry n (fun c => c != .leaving))) (.moveAbandoned n)
  ++ whenDue (dueAt p.now (p.drainExpiry n (fun c => c == .leaving))) (.moveForced n)
  ++ whenDue (dueAt p.now r.returnTimer) (.returnTimerExpiry n)

/-- The part's own events that are due, in the order the model takes them. -/
def Part.dueEvents (p : Part) : List Instr :=
  p.reports.map Report.command ++ whenDue p.intakeDue .intakeChecks
  ++ whenDue (decide (p.leakAt ≤ p.now)) .leakTick
  ++ Lane.all.flatMap p.laneDue
  ++ whenDue (dueAt p.now p.sides.a.suspectUntil) (.suspectExpiry .a)
  ++ whenDue (dueAt p.now p.sides.b.suspectUntil) (.suspectExpiry .b)
  ++ allStreams.flatMap p.streamDue

/-- A microsecond passes (R153). -/
def Part.tick (p : Part) : Part := { p with now := p.now + 1 }

/-- One step with no command waiting: the part's first due event, or a microsecond. -/
def State.idle (s : State) : Result :=
  match s.part.dueEvents with
  | c :: _ => exec c s
  | [] => s.act Part.tick

end Sys2Proof.Machine
end

