-- ==== Sys2Proof/Machine/Step.lean ====
section
/-! DEFINITION. One step of the part: it takes the command or event at the front of the queue, and with
none waiting its own next event, or a microsecond. -/

namespace Sys2Proof.Machine

/-- The state with its queue replaced. -/
def State.withPending (s : State) (q : List Instr) : State := { s with pending := q }

/-- One step: `exec` of the command at the front of the queue on the state with the queue's rest; on an
empty queue the part takes its own next event that is due, or a microsecond passes (log entry 2). -/
def step (s : State) : Host.Outcome State Fault Refusal :=
  match s.pending with
  | [] => s.idle
  | c :: rest => exec c (s.withPending rest)

/-- The state with the command that a table word spells put at the front of its queue, unchanged where the
word spells none. -/
def State.withFetchWord (s : State) (nbits w : Nat) : State :=
  match decodeTableWord nbits w with
  | some c => s.withPending (c :: s.pending)
  | none => s

end Sys2Proof.Machine
end

