-- ==== Sys2Proof/WellFormed.lean ====
section
/-! DEFINITION. Which commands the part's ports can hand over: the frames a receiver passes on (R42, R44),
the split of the frame rows (R45, R62, R72, R73), the bytes a management frame can carry (R174), and the
bytes a check brings (R23, R168). `exec` gives every command a meaning, well-formed or not. -/

namespace Sys2Proof

/-- A payload a good frame can have: 0 to 256 bytes in multiples of 4 (R42, R44). -/
def payloadFits (payload : List Byte) : Bool := payload.length ≤ 256 && payload.length % 4 == 0

/-- A kind code that `other` may hold: one outside the ten (R45, R184). -/
def outsideTheTen (c : BitVec 4) : Bool := c == 0#4 || decide (10 < c.toNat)

/-- A frame kind in its one form: a code that names a kind is not written as `other`. -/
def FrameKind.wellFormed : FrameKind → Bool
  | .other c => outsideTheTen c
  | _ => true

/-- An unexpected kind in its one form. -/
def UnexpectedKind.wellFormed : UnexpectedKind → Bool
  | .other c => outsideTheTen c
  | _ => true

/-- A frame a receiver can pass on (R42, R44). -/
def Frame.wellFormed (f : Frame) : Bool := f.kind.wellFormed && payloadFits f.payload

/-- A block check: the contents as read are the block's 64 bytes (R23, R168). -/
def BlockCheck.wellFormed : BlockCheck → Bool
  | .uncorrectable asRead => asRead.length == Config.blockBytes
  | _ => true

/-- An item's check: a block's contents as read are 64 bytes. -/
def ItemCheck.wellFormed : ItemCheck → Bool
  | .block _ found => found.wellFormed
  | _ => true

/-- Whether R174 refuses a frame's bytes. -/
def refusedFrame (frame : List Byte) : Bool :=
  match Machine.judgeFrame frame with
  | .refused _ => true
  | _ => false

/-- Whether a command is one that the part's ports can hand over. -/
def Instr.wellFormed : Instr → Bool
  | .frameDeparture _ reads => decide (reads.length ≤ 4) && reads.all BlockCheck.wellFormed
  | .unexpectedFrame _ kind _ payload _ => kind.wellFormed && payloadFits payload
  | .frameInOff _ frame _ => frame.wellFormed
  | .receiveAnswer _ _ payload _ | .receiveTell _ _ payload _ | .receiveGap _ _ payload _
  | .receiveBeat _ _ payload _ | .receivePause _ _ payload _ => payloadFits payload
  | .receiveBasePage _ header payload _ => header.pageKind != 1#2 && payloadFits payload
  | .receiveNextPage _ header payload _ => header.pageKind == 1#2 && payloadFits payload
  | .receiveTestReflect _ header payload _ => header.reflect && payloadFits payload
  | .receiveTestReturn _ header payload _ => !header.reflect && payloadFits payload
  | .patrolCheck read => read.check.wellFormed
  | .pmwr _ value => decide (value.length ≤ 31)
  | .badCommand frame => refusedFrame frame
  | .powerOn _ | .initDone | .hostRequest _ | .intakeChecks | .hostLinkReset | .hostLinkUp | .badFrame _ _
  | .linkLoss _ | .probeTimerExpiry _ | .pageTimerExpiry _ | .qualifyTimerExpiry _ | .beatTimerExpiry _
  | .silenceTimerExpiry _ | .stormPeriodExpiry _ | .heldTimerExpiry _ | .holdDownExpiry _ | .pauseExpiry _
  | .leakTick | .distressWeight _ _ | .stormReport _ | .latencySample _ _ | .deadlineExpiry _ _
  | .askAttemptExpiry _ | .stallDeadlineExpiry _ | .moveAbandoned _ | .moveForced _ | .returnTimerExpiry _
  | .suspectExpiry _ | .patrolPassEnd | .idnt | .stat | .rtwr _ _ _ _ _ _ _ _ _ | .rtrd _ | .rtcl _
  | .smrd _ _ | .smov _ _ | .srst _ | .lnrd _ | .enable _ | .disable _ | .restart _ | .pinOut _ | .pinKeep _
  | .unpin _ | .dglp _ _ | .dgpt _ _ | .pmrd _ | .evpk | .evpp | .evcl | .ctrd _ _ _ | .qsce | .rlse | .lvrs
  | .svrs => true

end Sys2Proof
end

