-- ==== Sys2Proof/Safety.lean ====
section
/-! DEFINITION. What counts as a sound part, in the terms the claims use: the ranges of the lane fields
(R65, R81, R89, R98), the shape of the event log (R145, R147, R149), the order of the thresholds (R96), the
canonical form of the data buffer, the states of the sides (R103), the pools of the stream engine (R20 to R24), and
the fates a disposal reports (R128). -/

namespace Sys2Proof.Machine

/-- The ranges of a lane record's numbers (R65, R89, R98): three requalify failures only in OFF (R77), a storm rewind
count that could still rise only below 63 (R81), the held timer only in HELD, and a qualification burst only in
QUALIFY. -/
def LaneRec.rangesHold (r : LaneRec) : Prop :=
  (r.figure ≤ 1023 ∧ r.latency ≤ 65535 ∧ r.errorBytes ≤ 255 ∧ r.training.seen ≤ 2 ∧ r.training.resends ≤ 8) ∧
  (r.requalify ≤ 3 ∧ (r.requalify = 3 → r.state = .off)) ∧
  (r.storm ≤ 63 ∧ (r.state.inService = true → r.storm ≤ 62)) ∧
  (r.timers.held ≠ none → r.state = .held) ∧
  ∀ b, r.checker = some b → b.owner = .qualify → r.state = .qualify

/-- Every lane's numbers are in range. -/
def Part.laneRanges (p : Part) : Prop := ∀ l, (p.lane l).rangesHold

/-- Event numbers run on by 1, modulo 65536, up to the next event number (R145). -/
def numbersRun : List LogEntry → BitVec 16 → Prop
  | [], _ => True
  | [e], next => e.number + 1 = next
  | e :: f :: rest, next => e.number + 1 = f.number ∧ numbersRun (f :: rest) next

/-- The shape of the event log (R145, R147, R149). -/
structure EventLog.sound (log : EventLog) : Prop where
  /-- At most 32 entries. -/
  short : log.entries.length ≤ 32
  /-- Repeat counts are 1 to 255. -/
  repeats : ∀ e ∈ log.entries, 1 ≤ e.repeats ∧ e.repeats ≤ 255
  /-- Event numbers are consecutive. -/
  numbers : numbersRun log.entries log.next
  /-- EVER is set while the log holds an entry. -/
  ever : log.entries ≠ [] → log.ever = true
  /-- OVERFLOWED is set exactly when the overflow count is not 0, and the count is at most 255. -/
  overflow : (log.overflowed = true ↔ log.overflow ≠ 0) ∧ log.overflow ≤ 255

/-- CLEAR_LEVEL < WARN_LEVEL < DOWN_LEVEL ≤ 1023 (R96). -/
def Params.ordered (q : Params) : Prop :=
  q.clearLevel < q.warnLevel ∧ q.warnLevel < q.downLevel ∧ q.downLevel ≤ 1023

/-- The parameters in the order of their ids, 01h to 14h: the value held, the width in bytes, and the two ends of the
range into which a written value is clamped (R96, R180). A set has every value of its width in range. -/
def Params.table (q : Params) : List (Nat × Nat × Nat × Nat) :=
  [(q.beatInterval, 1, 1, 64), (q.leak, 1, 0, 63), (q.clearLevel, 2, 0, q.warnLevel - 1),
   (q.warnLevel, 2, q.clearLevel + 1, q.downLevel - 1), (q.downLevel, 2, q.warnLevel + 1, 1023),
   (q.holdDown, 1, 1, 255), (q.qualTolerance, 1, 0, 255), (q.margin, 2, 0, 1000), (q.deadlineMin, 2, 10, 1000),
   (q.deadlineMax, 2, 1000, 65000), (q.streamWindow, 2, 1, 256), (q.stallLimit, 1, 1, 255), (q.drainLimit, 1, 1, 255),
   (q.suspectWindow, 1, 0, 255), (q.returnDelay, 1, 1, 255), (q.stormRewinds, 1, 1, 63),
   (q.sourceNode.toNat, 2, 0, 4095), (q.fabricIdentity.toNat, 4, 0, 2 ^ 32 - 1),
   (q.attentionSet.toNat, 8, 0, 2 ^ 64 - 1), ((q.halfPart ++ q.halfLane ++ q.halfStream).toNat, 12, 0, 2 ^ 96 - 1)]

/-- No counter kind is in COUNTER_HALF_SET, so that no raise logs COUNTER_HALF (R161). -/
def Part.unwatched (p : Part) : Prop :=
  p.params.halfPart = 0 ∧ p.params.halfLane = 0 ∧ p.params.halfStream = 0

/-- Nothing waits to be judged at the end of an event: no lane has a restart pending, and no quiesce is in
progress (R87, R143). -/
def Part.settled (p : Part) : Prop :=
  (∀ l, (p.lane l).restartPending = false) ∧ p.intake.service ≠ .quiescing

/-- No stream holds a request. -/
def Part.noneHeld (p : Part) : Prop := ∀ n, (p.stream n).hold = []

/-- Two parts that agree on everything but the port's response. -/
def Part.sameButResponse (p q : Part) : Prop :=
  q = { p with port := { p.port with status := q.port.status, data := q.port.data } }

/-- The completion that a disposal gives an in-flight entry (R128), if it gives one to the host (R34). -/
def OttEntry.givenUp (e : OttEntry) : Option Completion :=
  match e.kind, e.tag with
  | .write, _ => none
  | _, none => none
  | .read, some t => some ⟨t, .pathLost, []⟩
  | .swap, some t => some ⟨t, if e.transmitTime.isSome then .outcomeUnknown else .pathLost, []⟩

/-- The completion that a disposal gives a held request (R128). -/
def Held.givenUp (h : Held) : Option Completion :=
  match h.work.kind with
  | .write => none
  | _ => some ⟨h.work.tag, .pathLost, []⟩

/-- The completions of a disposal, in order (R128). -/
def StreamRec.givenUp (r : StreamRec) : List Completion :=
  r.inflight.filterMap OttEntry.givenUp ++ r.hold.filterMap Held.givenUp

/-- A count logged as one event, saturating at FFFFh, and no event for a count of 0 (R40, R128). -/
def EventLog.counted (log : EventLog) (kind : EventKind) (stream : Option StreamId) (count : Nat) (time : BitVec 32) :
    EventLog :=
  if count = 0 then log else log.take kind none stream (BitVec.ofNat 16 (min count 65535)) time

/-- The log after the fates of the WRITEs that a stream gives up: the transmitted ones as one WRITE_FATE_UNKNOWN, then
the others and the held ones as one WRITES_DROPPED (R40, R128). -/
def StreamRec.writesLog (r : StreamRec) (n : StreamId) (time : BitVec 32) (log : EventLog) : EventLog :=
  (log.counted .writeFateUnknown (some n)
      (r.inflight.countP (fun e => e.kind == .write && e.transmitTime.isSome)) time).counted .writesDropped (some n)
    (r.inflight.countP (fun e => e.kind == .write && e.transmitTime.isNone) +
      r.hold.countP (fun h => h.work.kind == .write)) time

/-- The log after the events of a disposal (R128): OUTCOME_UNKNOWN for each transmitted SWAP, in order, with its
sequence, or FFFFh for the entry whose check failed (R170), and then the fates of the WRITEs. -/
def StreamRec.disposalLog (r : StreamRec) (n : StreamId) (failed : Option EntryIx) (time : BitVec 32)
    (log : EventLog) : EventLog :=
  r.writesLog n time
    ((r.inflight.filter (fun e => e.kind == .swap && e.transmitTime.isSome)).foldl
      (fun g e => g.take .outcomeUnknown none (some n)
        (if failed = some e.index then 0xFFFF else e.seq.setWidth 16) time) log)

/-- The lane state that the thresholds give a lane with a figure (R94). -/
def thresholdState (q : Params) (state : LaneState) (figure : Nat) : LaneState :=
  match state with
  | .active => if q.downLevel ≤ figure then .down else if q.warnLevel ≤ figure then .degraded else .active
  | .degraded => if q.downLevel ≤ figure then .down else if figure ≤ q.clearLevel then .active else .degraded
  | other => other

/-- The lane state that the thresholds give a lane with a figure under its pin: KEEP suppresses a move to DEGRADED or
DOWN, and no other (R86, R94). -/
def thresholdStateUnder (q : Params) (pin : Pin) (state : LaneState) (figure : Nat) : LaneState :=
  if pin = .keep ∧ thresholdState q state figure ≠ .active then state else thresholdState q state figure

/-- What a weight has done to lane `l` between `p` and `p'`: in service it raises the figure, saturating at 1023, and
the thresholds judge a figure that has changed; where no state follows, nothing but lane `l` is touched (R90, R94). -/
def Part.weighs (p p' : Part) (l : Lane) (weight : Nat) : Prop :=
  let raised := ((p.lane l).state = .active ∨ (p.lane l).state = .degraded) ∧ (p.lane l).figure < 1023
  (raised → (p'.lane l).figure = min 1023 ((p.lane l).figure + weight) ∧ (p'.lane l).state =
    thresholdStateUnder p.params (p.lane l).pin (p.lane l).state (min 1023 ((p.lane l).figure + weight))) ∧
  (¬raised → (p'.lane l).figure = (p.lane l).figure ∧ (p'.lane l).state = (p.lane l).state) ∧
  ((p'.lane l).state = (p.lane l).state → (p'.lane l).queue = (p.lane l).queue ∧ p'.engine = p.engine ∧
    p'.sides = p.sides ∧ ∀ m, m ≠ l → p'.lane m = p.lane m)

/-- A lane's place in the order of R111's steps 2 to 4 for a preferred lane: first the step, then the place in
the candidate list (R108). -/
def Part.carrierRank (p : Part) (preferred m : Lane) : Nat :=
  4 * (if (p.lane m).state = .active then (if (p.side m.side).suspectUntil = none then 0 else 1) else 2)
    + [preferred, preferred.sibling, preferred.across, preferred.across.sibling].idxOf m

/-- A stream has a carrier exactly in the four states that have one, and its carrier is in service (R19, R66). -/
def Part.carriersHold (p : Part) : Prop :=
  ∀ n, ((p.stream n).state.carried = true ↔ (p.stream n).carrier ≠ none) ∧
    ∀ l, (p.stream n).carrier = some l → (p.lane l).state.inService = true

/-- Every side state is the one its two lanes give (R103). -/
def Part.sidesHold (p : Part) : Prop := ∀ d, (p.side d).state = p.derivedSide d

/-! ### The pools of the stream engine (R20 to R24, R166) -/

/-- The OTT entries in use, by index. -/
def Part.entriesUsed (p : Part) : List EntryIx :=
  allStreams.flatMap (fun n => (p.stream n).inflight.map OttEntry.index)

/-- The hold slots in use. -/
def Part.slotsUsed (p : Part) : List SlotIx := allStreams.flatMap (fun n => (p.stream n).hold.map Held.slot)

/-- The data blocks in use. -/
def Part.blocksUsed (p : Part) : List BlockIx :=
  allStreams.flatMap (fun n =>
    (p.stream n).inflight.flatMap OttEntry.blocks ++ (p.stream n).hold.flatMap (fun h => h.work.blocks))

/-- A block's owner mark names the entry or the slot that holds it, and no owner for a free block (R166). -/
def Part.ownersHold (p : Part) : Prop :=
  ∀ b o, p.engine.owners.get b = some o ↔
    match o with
    | .entry i => ∃ n, ∃ e ∈ (p.stream n).inflight, e.index = i ∧ b ∈ e.blocks
    | .slot i => ∃ n, ∃ h ∈ (p.stream n).hold, h.slot = i ∧ b ∈ h.work.blocks

/-- An entry stands on its own stream's list, and its fate copy says what its own fields say (R166). -/
def OttEntry.agrees (e : OttEntry) (n : StreamId) : Prop :=
  e.stream = n ∧ e.fate = ⟨n, e.kind, e.tag, e.transmitTime.isSome⟩

/-- Nothing is lost and nothing is used twice: the free and the used entries are the 256, the slots the 64, the
blocks the 1,024; owner marks and fate copies agree with what they stand beside; a stream in IDLE or FAULTED holds
nothing (R21, R23, R24, R39, R129, R166). -/
structure Part.poolsHold (p : Part) : Prop where
  entries : (p.engine.freeEntries ++ p.entriesUsed).Perm (List.finRange 256)
  slots : (p.engine.freeSlots ++ p.slotsUsed).Perm (List.finRange 64)
  blocks : (p.engine.freeBlocks ++ p.blocksUsed).Perm (List.finRange 1024)
  owners : p.ownersHold
  fates : ∀ n, ∀ e ∈ (p.stream n).inflight, e.agrees n
  holds : ∀ n, ∀ h ∈ (p.stream n).hold, h.stream = n
  out : ∀ n, (p.stream n).state = .idle ∨ (p.stream n).state = .faulted →
    (p.stream n).inflight = [] ∧ (p.stream n).hold = []

/-- How far a sequence lies behind a stream's next sequence (R20). -/
def StreamRec.lag (r : StreamRec) (s : Seq) : Nat := (r.nextSeq - s).toNat

/-- Every in-flight list runs in sequence order up to the next sequence, so that no sequence stands on it twice
(R18, R20). -/
def Part.seqsHold (p : Part) : Prop :=
  ∀ n, ((p.stream n).inflight.map (fun e => (p.stream n).lag e.seq)).Pairwise (· > ·) ∧
    ∀ e ∈ (p.stream n).inflight, 1 ≤ (p.stream n).lag e.seq

/-- Every sequence in flight is within serial range of its stream's next sequence (R20). -/
def Part.seqsNear (p : Part) : Prop := ∀ n, ∀ e ∈ (p.stream n).inflight, (p.stream n).lag e.seq ≤ 2047

/-! ### Dispatch of held requests (R26, R27) -/

/-- The entry that a held request becomes when it is dispatched (R21, R26, R168). -/
def Held.becomes (h : Held) (e : OttEntry) : Prop :=
  e.kind = h.work.kind ∧ e.tag = (if h.work.kind = .write then none else some h.work.tag) ∧
  e.address = h.work.address ∧ e.length = h.work.length ∧ e.blocks = h.work.blocks ∧
  e.poisoned = h.work.poisoned ∧ e.phase = .queued ∧ e.transmissions = 1 ∧ e.transmitTime = none ∧
  e.deadline = none

/-- From a record `r` on, a stream has dispatched the oldest of its held requests, in order, at the next sequences,
and holds the rest (R26, R27). -/
def StreamRec.dispatchedTo (r r' : StreamRec) : Prop :=
  ∃ hs es, r.hold = hs ++ r'.hold ∧ r'.inflight = r.inflight ++ es ∧ List.Forall₂ Held.becomes hs es ∧
    es.map OttEntry.seq = (List.range es.length).map (fun k => r.nextSeq + BitVec.ofNat 12 k) ∧
    r'.nextSeq = r.nextSeq + BitVec.ofNat 12 es.length

/-- A stream has dispatched all it can: its hold-list head does not meet the conditions of R26, or no entry is
free (R27). -/
def Part.dispatchStops (p : Part) (n : StreamId) : Prop := p.headReady n = false ∨ p.engine.freeEntries = []

/-- A stream's hold-list head could take an OTT entry now: the stream is BOUND, and the head meets the window and, for
a SWAP, the swap limit (R26, R27). -/
def StreamRec.headMeets (r : StreamRec) (q : Params) : Prop :=
  r.state = .bound ∧ r.inflight.length < q.streamWindow ∧
    ∃ h hs, r.hold = h :: hs ∧
      (h.work.kind = .swap → (r.inflight.filter (fun e => e.kind == .swap)).length < r.swapLimit)

/-- The applied mark after an ANSWER for a sequence (R31). -/
def StreamRec.markAfter (r : StreamRec) (s : Seq) : Seq :=
  match r.mark with
  | none => s
  | some m => if 1 ≤ (s - m).toNat ∧ (s - m).toNat ≤ 2047 then s else m

/-- The entries that an ANSWER for the entry `e` at a sequence leaves in flight: no WRITE at or before the mark, and
not `e` when it is a READ or SWAP (R31, R33). -/
def StreamRec.leftBy (r : StreamRec) (e : OttEntry) (s : Seq) : List OttEntry :=
  r.inflight.filter (fun x => !(x.kind == .write && serialAtOrBefore x.seq (r.markAfter s)) &&
    (e.kind == .write || x.index != e.index))

/-- What a hand-over does at the intake and in the data buffer: the request leaves the queue, a READ's or SWAP's tag
opens, the blocks are taken from the front of the pool (log entry 7: DESIGN CHOICE), the data stands in them, and
every other block is as it was, given a canonical buffer and a pool without repeats (R11, R23). -/
def Part.handedOver (p p' : Part) (q : HostRecord) (k : ReqKind) : Prop :=
  p'.intake.queue = p.intake.queue.tail ∧ (k ≠ .write → p'.intake.tagOpen q.tag = true) ∧
  p'.completions = p.completions ∧
  p'.engine.freeBlocks = p.engine.freeBlocks.drop (k.blocksNeeded q.length.toNat) ∧
  (p.engine.buffer.wf = true → p.engine.freeBlocks.Nodup →
    p'.engine.buffer.load (p.engine.freeBlocks.take (k.blocksNeeded q.length.toNat))
      (k.payloadBytes q.length.toNat) = q.data ∧
    ∀ b, b ∉ p.engine.freeBlocks.take (k.blocksNeeded q.length.toNat) →
      p'.engine.buffer.block b = p.engine.buffer.block b)

/-- The lane that a qualification burst leaves behind when it ends with an error count (R77). -/
def LaneRec.afterBurst (r : LaneRec) (tolerance err : Nat) (after : LaneRec) : Prop :=
  if err ≤ tolerance then
    after.state = .active ∧ after.figure = 0 ∧ after.latency = 100 ∧ after.requalify = 0 ∧ after.storm = 0
  else if r.requalify + 1 < 3 then after.state = .down ∧ after.requalify = r.requalify + 1
  else after.state = .off ∧ after.offReason = some .retired

end Sys2Proof.Machine
end

