-- ==== Sys2Proof/Certificates/Slice0/Obligations.lean ====
section
/-! DEFINITION. The statements for the provers. Each is about the part `p` and the queue of waiting commands
`w`, which every command leaves as it is. -/

open Sys2Proof Sys2Proof.Machine

/-! ### The machine -/

/-- A step with a command waiting runs the command at the front on the queue's rest (the model's queue). -/
def Obligations.StepTakesFront : Prop :=
  ∀ (c : Instr) (w : List Instr) (p : Machine.Part), step ⟨p, c :: w⟩ = exec c ⟨p, w⟩

/-- With no command waiting the part takes its own first due event, or a microsecond passes (log entry 2: the
model's choice). -/
def Obligations.IdleStepTakesDueEvent : Prop :=
  ∀ p : Machine.Part,
    (∀ c cs, p.dueEvents = c :: cs → step ⟨p, []⟩ = exec c ⟨p, []⟩) ∧
    (p.dueEvents = [] → step ⟨p, []⟩ = .next ⟨{ p with now := p.now + 1 }, []⟩)

/-- Every command, in every state, answers a next state and leaves the waiting commands as they are. That no command
ends in a fault or a refusal, and that one that does not apply has no effect, is the model's inference (log entries 31
and 32: DEDUCED). -/
def Obligations.EveryCommandAnswersNext : Prop :=
  ∀ (c : Instr) (p : Machine.Part) (w : List Instr), ∃ p', exec c ⟨p, w⟩ = .next ⟨p', w⟩

/-- The parameters change only at POWER_ON and PMWR, and the route table only at POWER_ON, RTWR and RTCL (R12,
R180). -/
def Obligations.TablesMoveByCommand : Prop :=
  ∀ (c : Instr) (p p' : Machine.Part) (w : List Instr), (∀ pins, c ≠ .powerOn pins) →
    exec c ⟨p, w⟩ = .next ⟨p', w⟩ →
    ((∀ id value, c ≠ .pmwr id value) → p'.params = p.params) ∧
    ((∀ i b u t n s l o a, c ≠ .rtwr i b u t n s l o a) → (∀ i, c ≠ .rtcl i) →
      p'.intake.routes = p.intake.routes)

/-- POWER_ON leaves every record at its power-on value, and every parameter at its default, with the fifteen kinds of
R152 in ATTENTION_SET and no counter in COUNTER_HALF_SET (R12, R15, R18, R39, R65, R102, R152, R154, R162, R173,
R180); that every transmit queue is empty then is the model's choice between R65 and R71 (log entry 5: DESIGN CHOICE),
and the part at reset is the one it leaves with the pins at 0 (log entry 14: the model's choice). -/
def Obligations.PowerOnValues : Prop :=
  (∀ (p : Machine.Part) (w : List Instr), exec (.powerOn 0) ⟨p, w⟩ = .next ⟨State.reset.part, w⟩) ∧
  ∀ (pins : BitVec 3) (p : Machine.Part) (w : List Instr), ∃ p',
    exec (.powerOn pins) ⟨p, w⟩ = .next ⟨p', w⟩ ∧
    p'.now = 0 ∧ p'.intake.service = .init ∧ p'.intake.queue = [] ∧ p'.intake.credits = 0 ∧
    (∀ t, p'.intake.tagOpen t = false) ∧ (∀ i, p'.intake.routes.get i = Route.empty) ∧
    (∀ n, (p'.stream n).state = .idle ∧ (p'.stream n).node = 0 ∧ (p'.stream n).preferred = .a0 ∧
      (p'.stream n).policy = .sticky ∧ (p'.stream n).carrier = none ∧ (p'.stream n).epoch = 0 ∧
      (p'.stream n).nextSeq = 0 ∧ (p'.stream n).mark = none ∧ (p'.stream n).recallDepth = none ∧
      (p'.stream n).swapLimit = 16 ∧ (p'.stream n).inflight = [] ∧ (p'.stream n).hold = [] ∧
      (p'.stream n).askAttempts = 0 ∧ (∀ l, (p'.stream n).tried.has l = false) ∧
      (p'.stream n).stallDeadline = none ∧ (p'.stream n).move = none ∧
      (p'.stream n).returnTimer = none ∧ (p'.stream n).rejections = 0) ∧
    (∀ l, (p'.lane l).state = .quiet ∧ (p'.lane l).offReason = none ∧ (p'.lane l).pin = .unpinned ∧
      (p'.lane l).suppressed = false ∧ (p'.lane l).partnerLeaving = false ∧
      (p'.lane l).restartPending = false ∧ (p'.lane l).figure = 0 ∧ (p'.lane l).latency = 100 ∧
      (p'.lane l).page = none ∧ (p'.lane l).requalify = 0 ∧ (p'.lane l).storm = 0 ∧
      (p'.lane l).timers.probe ≠ none ∧ (p'.lane l).timers.silence = none ∧ (p'.lane l).queue = [] ∧
      (p'.lane l).checker = none ∧ (p'.lane l).loopback = false) ∧
    (∀ d, p'.side d = ⟨.lost, none, none, none, 0⟩) ∧ p'.log = ⟨[], 0, false, false, 0⟩ ∧
    (∀ c, p'.counter c = 0) ∧ p'.port.status = 0xFF ∧ p'.port.data = [] ∧
    p'.engine.freeEntries.length = 256 ∧ p'.engine.freeSlots.length = 64 ∧
    p'.engine.freeBlocks.length = 1024 ∧ p'.engine.lastServed = 63 ∧
    (p'.params.beatInterval = 4 ∧ p'.params.leak = 4 ∧ p'.params.clearLevel = 64 ∧ p'.params.warnLevel = 256 ∧
      p'.params.downLevel = 768 ∧ p'.params.holdDown = 20 ∧ p'.params.qualTolerance = 0 ∧ p'.params.margin = 50 ∧
      p'.params.deadlineMin = 20 ∧ p'.params.deadlineMax = 20000 ∧ p'.params.streamWindow = 64 ∧
      p'.params.stallLimit = 20 ∧ p'.params.drainLimit = 50 ∧ p'.params.suspectWindow = 50 ∧
      p'.params.returnDelay = 30 ∧ p'.params.stormRewinds = 8 ∧ p'.params.sourceNode = 0 ∧
      p'.params.fabricIdentity = 0) ∧
    (∀ k, p'.params.attentionSet.getLsbD k = true ↔
      k ∈ [0x03, 0x05, 0x06, 0x0C, 0x10, 0x11, 0x12, 0x13, 0x14, 0x15, 0x16, 0x1D, 0x1E, 0x1F, 0x20]) ∧
    p'.params.halfPart = 0 ∧ p'.params.halfLane = 0 ∧ p'.params.halfStream = 0

/-! ### Intake (chapter 1) -/

/-- INIT_DONE and HOST_LINK_UP offer credit until credits outstanding and requests queued equal 32, where the
service state offers it; a record that arrives against a credit joins the tail of the queue, and one without
credit is answered at once as malformed with reason NO_CREDIT (R1, R3, R8, R15, R16). -/
def Obligations.CreditAndArrival : Prop :=
  (∀ (p : Machine.Part) (w : List Instr),
    p.intake.service = .init → p.intake.tally = none → p.intake.linkUp = true → p.intake.queue = [] →
    p.intake.credits = 0 →
    exec .initDone ⟨p, w⟩ =
      .next ⟨{ p with intake := { p.intake with service := .running, credits := 32 } }, w⟩) ∧
  (∀ (p : Machine.Part) (w : List Instr),
    p.intake.linkUp = false → p.intake.credits = 0 →
    exec .hostLinkUp ⟨p, w⟩ =
      .next ⟨{ p with intake := { p.intake with
        linkUp := true,
        credits := if p.intake.service = .running ∨ p.intake.service = .restricted then
          32 - p.intake.queue.length else 0 } }, w⟩) ∧
  ∀ (p : Machine.Part) (w : List Instr) (q : HostRecord), p.unwatched →
    (p.intake.credits ≠ 0 → ∃ p', exec (.hostRequest q) ⟨p, w⟩ = .next ⟨p', w⟩ ∧
      p'.intake = { p.intake with queue := p.intake.queue ++ [q], credits := p.intake.credits - 1 } ∧
      p'.completions = p.completions ∧ p'.log = p.log ∧ p'.engine = p.engine ∧ p'.lanes = p.lanes ∧
      p'.counter (.part .requestsArrived) = p.counter (.part .requestsArrived) + 1) ∧
    (p.intake.credits = 0 → ∃ p', exec (.hostRequest q) ⟨p, w⟩ = .next ⟨p', w⟩ ∧
      p'.intake = p.intake ∧ p'.engine = p.engine ∧ p'.lanes = p.lanes ∧
      p'.completions =
        (if q.kind = 0x02#8 then p.completions else p.completions ++ [⟨q.tag, .malformed, []⟩]) ∧
      p'.log = p.log.take .malformed none none (BitVec.ofNat 16 (6 * 256 + q.tag.toNat)) p.timeCounter)

/-- The form check finds the first condition of R8's table that holds, with the data length of R183. -/
def Obligations.MalformedReasons : Prop :=
  ∀ (i : Intake) (q : HostRecord),
    i.malformed q =
      if q.kind ≠ 0x01#8 ∧ q.kind ≠ 0x02#8 ∧ q.kind ≠ 0x03#8 then some 1
      else if ¬(q.length.toNat % 4 = 0 ∧ 4 ≤ q.length.toNat ∧ q.length.toNat ≤ 256 ∧
          q.data.length =
            if q.kind = 0x01#8 then 0 else if q.kind = 0x02#8 then q.length.toNat else 16) then some 2
      else if q.address.toNat / 256 ≠ (q.address.toNat + q.length.toNat - 1) / 256 then some 3
      else if q.kind = 0x03#8 ∧ (q.length.toNat ≠ 8 ∨ q.address.toNat % 8 ≠ 0) then some 4
      else if q.kind ≠ 0x02#8 ∧ i.tagOpen q.tag = true then some 5
      else none

/-- What checks 1 to 5 refuse: the request leaves the queue and frees its slot, the event and the completion
are those of R6's table, and nothing of the stream engine changes. -/
def Obligations.IntakeRefuses : Prop :=
  ∀ (p : Machine.Part) (w : List Instr) (q : HostRecord) (rest : List HostRecord),
    p.unwatched → p.intake.queue = q :: rest → p.intake.tally = none → p.intake.linkUp = true →
    ∀ (st : CompletionStatus) (log : EventLog),
    ((p.intake.service = .restricted ∧ st = .restricted ∧ log = p.log ∧ q.kind ≠ 0x02#8) ∨
     (p.intake.service = .running ∧ ∃ reason, p.intake.malformed q = some reason ∧ st = .malformed ∧
        log = p.log.take .malformed none none (bytePair reason q.tag.toNat) p.timeCounter) ∨
     (p.intake.service = .running ∧ p.intake.malformed q = none ∧ p.intake.route q.address = none ∧
        st = .unrouted ∧ log = p.log.take .unrouted none none (bytePair 0 q.tag.toNat) p.timeCounter) ∨
     (p.intake.service = .running ∧ p.intake.malformed q = none ∧ ∃ ix, p.intake.route q.address = some ix ∧
        (p.intake.routes.get ix).access = .readOnly ∧ q.kind ≠ 0x01#8 ∧ st = .denied ∧
        log = p.log.take .denied none none (bytePair ix.val q.tag.toNat) p.timeCounter) ∨
     (p.intake.service = .running ∧ p.intake.malformed q = none ∧ ∃ ix, p.intake.route q.address = some ix ∧
        ((p.intake.routes.get ix).access = .readWrite ∨ q.kind = 0x01#8) ∧ q.kind ≠ 0x02#8 ∧
        (p.stream (p.intake.routes.get ix).stream).state = .faulted ∧ st = .pathLost ∧ log = p.log)) →
    ∃ p', exec .intakeChecks ⟨p, w⟩ = .next ⟨p', w⟩ ∧
      p'.intake.queue = rest ∧ p'.intake.credits = p.intake.credits + 1 ∧ p'.log = log ∧
      p'.completions =
        (if q.kind = 0x02#8 then p.completions else p.completions ++ [⟨q.tag, st, []⟩]) ∧
      p'.engine = p.engine ∧ p'.lanes = p.lanes

/-- A WRITE refused because the part is restricted or its stream is FAULTED joins the drop tally; the queue becoming
empty logs the tally as one WRITES_DROPPED. A refusal that completes a quiesce logs the tally, with its own drop in
it, before anything else (R7, R10, R143, R171); that QUIESCED comes after the refusal's own event is the model's
choice (log entry 47: DESIGN CHOICE). -/
def Obligations.DroppedWritesAreTallied : Prop :=
  (∀ (p : Machine.Part) (w : List Instr) (q : HostRecord) (t : Tally) (quiesced : EventLog → EventLog),
    p.unwatched → p.intake.queue = [q] → p.intake.service = .quiescing → p.intake.tally = some t → t.count ≤ 65535 →
    (∀ n, (p.stream n).inflight = [] ∧ (p.stream n).hold = []) →
    (∀ log, quiesced log = log.take .quiesced none none
      (BitVec.ofNat 16 (min ((p.now - p.intake.quiesceAt) / 1000) 65535)) p.timeCounter) →
    (∀ reason, p.intake.malformed q = some reason →
      ∃ p', exec .intakeChecks ⟨p, w⟩ = .next ⟨p', w⟩ ∧ p'.intake.service = .quiesced ∧ p'.intake.tally = none ∧
        p'.log = quiesced ((p.log.take .writesDropped none t.key (BitVec.ofNat 16 t.count) p.timeCounter).take
          .malformed none none (bytePair reason q.tag.toNat) p.timeCounter)) ∧
    ∀ ix, p.intake.malformed q = none → q.kind = 0x02#8 → p.intake.route q.address = some ix →
      (p.intake.routes.get ix).access = .readWrite → t.key = some (p.intake.routes.get ix).stream →
      (p.stream (p.intake.routes.get ix).stream).state = .faulted →
      ∃ p', exec .intakeChecks ⟨p, w⟩ = .next ⟨p', w⟩ ∧ p'.intake.service = .quiesced ∧ p'.intake.tally = none ∧
        p'.completions = p.completions ∧ p'.log = quiesced
          (p.log.take .writesDropped none t.key (BitVec.ofNat 16 (min 65535 (t.count + 1))) p.timeCounter)) ∧
  ∀ (p : Machine.Part) (w : List Instr) (q : HostRecord) (rest : List HostRecord) (key : Option StreamId),
    p.unwatched → p.intake.queue = q :: rest → q.kind = 0x02#8 →
    ((p.intake.service = .restricted ∧ key = none) ∨
     (p.intake.service = .running ∧ p.intake.malformed q = none ∧ ∃ ix, p.intake.route q.address = some ix ∧
        (p.intake.routes.get ix).access = .readWrite ∧ key = some (p.intake.routes.get ix).stream ∧
        (p.stream (p.intake.routes.get ix).stream).state = .faulted)) →
    ∀ k, ((p.intake.tally = none ∧ k = 0) ∨ p.intake.tally = some ⟨key, k⟩) →
    ∃ p', exec .intakeChecks ⟨p, w⟩ = .next ⟨p', w⟩ ∧ p'.intake.queue = rest ∧
      p'.completions = p.completions ∧ p'.engine = p.engine ∧
      (rest ≠ [] → p'.intake.tally = some ⟨key, min 65535 (k + 1)⟩ ∧ p'.log = p.log) ∧
      (rest = [] → p'.intake.tally = none ∧
        p'.log = p.log.take .writesDropped none key (BitVec.ofNat 16 (min 65535 (k + 1))) p.timeCounter)

/-- A request that passes the checks takes its blocks, which then hold its data, opens its tag, and leaves the queue.
A BOUND stream that can take it dispatches it: a free entry, the next sequence, and a REQUEST at the tail of the
carrier's queue. An IDLE stream holds it in a free slot and starts its first binding: a new epoch, the lane that the
choice finds and one ASK, or STALLED when it finds none. A BOUND stream that cannot dispatch it, and a stream in
BINDING, REPLAYING, DRAINING or STALLED, holds it at the tail of its hold list and nothing else changes there. A
request whose blocks are not free, or that would be held and finds no free slot, waits and takes nothing; that wait is
counted once (R4, R11, R19, R22, R23, R24, R26, R113, R114, R125, R159). Which free entry, slot and block is taken,
the front of each list, is the model's choice (log entry 7: DESIGN CHOICE). -/
def Obligations.IntakeDispatches : Prop :=
  ∀ (p : Machine.Part) (w : List Instr) (q : HostRecord) (rest : List HostRecord) (k : ReqKind) (ix : RouteIx)
    (n : StreamId),
    p.intake.service = .running → p.intake.queue = q :: rest → ReqKind.ofCode q.kind = some k →
    p.intake.malformed q = none → p.intake.route q.address = some ix →
    (k = .read ∨ (p.intake.routes.get ix).access = .readWrite) → (p.intake.routes.get ix).stream = n →
    (p.stream n).state ≠ .faulted →
    (p.engine.freeBlocks.length < k.blocksNeeded q.length.toNat →
      ∃ p', exec .intakeChecks ⟨p, w⟩ = .next ⟨p', w⟩ ∧ p'.intake = { p.intake with headWaited := true } ∧
        p'.engine = p.engine ∧ p'.lanes = p.lanes ∧ p'.completions = p.completions ∧
        p'.counter (.part .intakeWaits) =
          p.counter (.part .intakeWaits) + (if p.intake.headWaited then 0 else 1)) ∧
    (k.blocksNeeded q.length.toNat ≤ p.engine.freeBlocks.length → ∀ blocks address,
      blocks = p.engine.freeBlocks.take (k.blocksNeeded q.length.toNat) →
      address = q.address - (p.intake.routes.get ix).base + (p.intake.routes.get ix).target →
      (∀ (l : Lane) (i : EntryIx) (fe : List EntryIx),
        (p.stream n).state = .bound → (p.stream n).carrier = some l → (p.stream n).hold = [] →
        (p.stream n).inflight.length < p.params.streamWindow →
        (k = .swap → (p.stream n).swapCount < (p.stream n).swapLimit) → p.engine.freeEntries = i :: fe →
        ∃ p' e f, exec .intakeChecks ⟨p, w⟩ = .next ⟨p', w⟩ ∧ p.handedOver p' q k ∧
          (p'.stream n).inflight = (p.stream n).inflight ++ [e] ∧
          (p'.stream n).nextSeq = (p.stream n).nextSeq + 1 ∧ (p'.stream n).state = .bound ∧
          e.index = i ∧ e.stream = n ∧ e.seq = (p.stream n).nextSeq ∧ e.kind = k ∧
          e.tag = (if k = .write then none else some q.tag) ∧ e.address = address ∧
          e.length = q.length.toNat ∧ e.blocks = blocks ∧ e.phase = .queued ∧
          e.transmissions = 1 ∧ e.transmitTime = none ∧ e.deadline = none ∧ e.poisoned = false ∧
          (p'.lane l).queue = (p.lane l).queue ++ [f] ∧ f.kind = .request ∧ f.header.stream = n ∧
          f.header.seq = e.seq ∧ f.header.op = k.op ∧ f.header.epoch = (p.stream n).epoch ∧
          f.header.destination = (p.stream n).node ∧ f.header.source = p.params.sourceNode ∧
          f.header.address = address ∧ f.header.lengthCode.toNat = q.length.toNat / 4 - 1 ∧
          p'.engine.freeEntries = fe ∧
          (∀ m, m ≠ n → p'.stream m = p.stream m) ∧ (∀ m, m ≠ l → p'.lane m = p.lane m)) ∧
      (∀ (i : SlotIx) (fs : List SlotIx), (p.stream n).state = .idle → p.engine.freeSlots = i :: fs →
        ∃ p' h, exec .intakeChecks ⟨p, w⟩ = .next ⟨p', w⟩ ∧ p.handedOver p' q k ∧
          (p'.stream n).epoch = (p.stream n).epoch + 1 ∧ (p'.stream n).hold = (p.stream n).hold ++ [h] ∧
          h.slot = i ∧ h.stream = n ∧ h.work = ⟨q.tag, k, address, q.length.toNat, blocks, false⟩ ∧
          p'.engine.freeSlots = fs ∧ (∀ m, m ≠ n → p'.stream m = p.stream m) ∧
          match p.chooseFor n ⟨none, none⟩ with
          | some l => (p'.stream n).state = .binding ∧ (p'.stream n).carrier = some l ∧
            (p'.stream n).askAttempts = 1 ∧ ∃ f,
            (p'.lane l).queue = (p.lane l).queue.filter (fun x => !x.isOf n) ++ [f] ∧ f.kind = .ask ∧
            f.header.epoch = (p.stream n).epoch + 1 ∧ f.header.seq = (p.stream n).nextSeq
          | none => (p'.stream n).state = .stalled ∧ (p'.stream n).carrier = none ∧
            (p'.stream n).askAttempts = 0 ∧ ((p.stream n).stallDeadline = none →
              (p'.stream n).stallDeadline = some (p.now + p.params.stallLimit * 100000))) ∧
      ∀ held : Prop, (held ↔ ((p.stream n).state ∈ [StreamState.binding, .replaying, .draining, .stalled] ∨
          (p.stream n).state = .bound ∧ ((p.stream n).hold ≠ [] ∨
            p.params.streamWindow ≤ (p.stream n).inflight.length ∨
            (k = .swap ∧ (p.stream n).swapLimit ≤ (p.stream n).swapCount) ∨ p.engine.freeEntries = []))) →
        (∀ (i : SlotIx) (fs : List SlotIx), held → p.engine.freeSlots = i :: fs →
          ∃ p' h, exec .intakeChecks ⟨p, w⟩ = .next ⟨p', w⟩ ∧ p.handedOver p' q k ∧
            p'.stream n = { p.stream n with hold := (p.stream n).hold ++ [h] } ∧
            h = ⟨i, n, ⟨q.tag, k, address, q.length.toNat, blocks, false⟩⟩ ∧
            p'.engine.freeSlots = fs ∧ p'.engine.freeEntries = p.engine.freeEntries ∧ p'.lanes = p.lanes ∧
            ∀ m, m ≠ n → p'.stream m = p.stream m) ∧
        (held ∨ (p.stream n).state = .idle → p.engine.freeSlots = [] →
          ∃ p', exec .intakeChecks ⟨p, w⟩ = .next ⟨p', w⟩ ∧ p'.intake = { p.intake with headWaited := true } ∧
            p'.engine = p.engine ∧ p'.lanes = p.lanes ∧ p'.completions = p.completions ∧
            p'.counter (.part .intakeWaits) =
              p.counter (.part .intakeWaits) + (if p.intake.headWaited then 0 else 1)))

/-- A host link reset discards the queue, closes every tag, cancels the credits, removes held READs and SWAPs,
keeps every in-flight entry as an orphan without a tag, keeps held WRITEs or dispatches them in order as far as the
stream can take them, and logs the WRITEs discarded (R16, R27, R41). -/
def Obligations.HostLinkResetOrphans : Prop :=
  ∀ (p : Machine.Part) (w : List Instr),
    p.unwatched → p.intake.service ≠ .quiescing → p.intake.tally = none →
    (∀ n, ((p.stream n).hold.map Held.slot).Nodup) →
    ∃ p', exec .hostLinkReset ⟨p, w⟩ = .next ⟨p', w⟩ ∧
      p'.intake.queue = [] ∧ p'.intake.credits = 0 ∧ p'.intake.linkUp = false ∧
      (∀ t, p'.intake.tagOpen t = false) ∧ p'.intake.service = p.intake.service ∧
      p'.intake.routes = p.intake.routes ∧ p'.completions = p.completions ∧
      p'.log = p.log.take .hostLinkReset none none
        (BitVec.ofNat 16 (min 65535 (p.intake.queue.countP (fun q => q.kind == 0x02#8)))) p.timeCounter ∧
      (∀ n, (∀ e ∈ (p'.stream n).inflight, e.tag = none) ∧
        (p.stream n).inflight.map OttEntry.orphaned <+: (p'.stream n).inflight ∧
        StreamRec.dispatchedTo
          { p.stream n with hold := (p.stream n).hold.filter (fun h => h.work.kind == .write),
                            inflight := (p.stream n).inflight.map OttEntry.orphaned } (p'.stream n) ∧
        ((p.stream n).hold.length ≤ 64 → p'.dispatchStops n) ∧
        (p'.stream n).state = (p.stream n).state ∧ (p'.stream n).epoch = (p.stream n).epoch ∧
        (p'.stream n).mark = (p.stream n).mark ∧ (p'.stream n).carrier = (p.stream n).carrier ∧
        (p'.stream n).move = (p.stream n).move) ∧
      (∀ l, (p'.lane l).state = (p.lane l).state)

/-! ### Frames (chapters 2, 3 and 4) -/

/-- A REQUEST that leaves a lane: it goes out with its blocks' bytes and its POISON flag, its entry becomes
SENT, and its deadline is the departure time plus the clamped interval (R22, R37, R100). -/
def Obligations.RequestDeparts : Prop :=
  ∀ (p : Machine.Part) (w : List Instr) (l : Lane) (f : Frame) (rest : List Frame) (e : OttEntry),
    (p.lane l).state ≠ .off → (p.lane l).loopback = false → (p.lane l).timers.pause = none →
    (p.lane l).queue = f :: rest → f.kind = .request →
    (p.stream f.header.stream).entryAt f.header.seq = some e →
    f.header.epoch = (p.stream f.header.stream).epoch → (p.stream f.header.stream).state = .bound → p.settled →
    ∃ p', exec (.frameDeparture l []) ⟨p, w⟩ = .next ⟨p', w⟩ ∧ (p'.lane l).queue = rest ∧
      (p'.lane l).cable = (p.lane l).cable ++
        [{ f with header := { f.header with poison := e.poisoned },
                  payload := p.engine.buffer.load e.blocks (e.kind.payloadBytes e.length) }] ∧
      (p'.stream f.header.stream).inflight = (p.stream f.header.stream).inflight.map (fun x =>
        if x.seq = f.header.seq then
          { x with phase := .sent, transmitTime := some p.now,
                   deadline := some (p.now + max p.params.deadlineMin (min p.params.deadlineMax
                     (2 * (p.lane l).latency + p.params.margin +
                       4 * (if x.kind = .swap then 1 else (x.length + 63) / 64)))),
                   fate := { x.fate with transmitted := true } }
        else x) ∧
      p'.completions = p.completions ∧ p'.intake = p.intake ∧
      (∀ m, m ≠ f.header.stream → p'.stream m = p.stream m) ∧ (∀ m, m ≠ l → p'.lane m = p.lane m)

/-- What else a departure does. The last replayed REQUEST of a stream ends its binding: with no move the stream is
BOUND and dispatches what it held, a move whose drain is over is done and logs MOVE_DONE, and a drain that was stopped
runs on with the time it had left. An ASK starts the attempt timer of its BINDING stream at 5 ms, the last TEST frame
of a burst starts the qualify timer at 20 ms, and a block found uncorrectable by the departure's own read poisons the
entry, whose frame leaves with POISON and the bytes as read (R69, R76, R116, R122, R139, R140, R164, R168, R169). That
an ASK of another epoch or of a stream no longer in BINDING starts no timer is the model's inference (log entry 40:
DEDUCED). -/
def Obligations.DeparturesAct : Prop :=
  ∀ (p : Machine.Part) (w : List Instr) (l : Lane) (f : Frame) (rest : List Frame) (n : StreamId),
    (p.lane l).state ≠ .off → (p.lane l).loopback = false → (p.lane l).timers.pause = none →
    (p.lane l).queue = f :: rest → f.header.stream = n →
    (∀ e, f.kind = .request → (p.stream n).entryAt f.header.seq = some e → f.header.epoch = (p.stream n).epoch →
      (p.stream n).carrier = some l → (p.stream n).state = .replaying → p.settled → (p.lane l).leaving = false →
      ∃ p', exec (.frameDeparture l []) ⟨p, w⟩ = .next ⟨p', w⟩ ∧ p'.completions = p.completions ∧
        (p'.stream n).carrier = some l ∧ (p'.stream n).epoch = (p.stream n).epoch ∧
        (p'.lane l).cable.length = (p.lane l).cable.length + 1 ∧
        ((∃ g ∈ rest, g.kind = .request ∧ g.header.stream = n) →
          (p'.stream n).state = .replaying ∧ (p'.stream n).move = (p.stream n).move) ∧
        ((∀ g ∈ rest, ¬(g.kind = .request ∧ g.header.stream = n)) →
          (p'.stream n).askAttempts = 0 ∧ (∀ m, (p'.stream n).tried.has m = false) ∧
          (p'.stream n).stallDeadline = none ∧
          (((p.stream n).move = none ∨ ∃ m, (p.stream n).move = some m ∧ m.drain = .absent) →
            (p'.stream n).state = .bound ∧ (p'.stream n).move = none ∧
            StreamRec.dispatchedTo
              { p.stream n with inflight := (p.stream n).inflight.map (fun x =>
                  if x.seq = f.header.seq then
                    { x with phase := .sent, transmitTime := some p.now,
                             deadline := some (p.now + p.params.deadlineInterval (p.lane l).latency
                               (if x.kind = .swap then 1 else (x.length + 63) / 64)),
                             fate := { x.fate with transmitted := true } }
                  else x) } (p'.stream n) ∧
            ((p.stream n).hold.length ≤ 64 → p'.dispatchStops n) ∧
            (p.unwatched → p'.log = match (p.stream n).move with
              | none => p.log
              | some m => p.log.take .moveDone (some l) (some n)
                  (bytePair (match m.target with | some g => g.code | none => 255) l.code) p.timeCounter)) ∧
          ∀ m t, (p.stream n).move = some m → m.drain = .stopped t →
            (p'.stream n).state = .draining ∧ (p'.stream n).move = some { m with drain := .running (p.now + t) } ∧
            (p'.stream n).hold = (p.stream n).hold)) ∧
    (f.kind = .ask → ∃ p', exec (.frameDeparture l []) ⟨p, w⟩ = .next ⟨p', w⟩ ∧ (p'.lane l).queue = rest ∧
      (p'.lane l).cable = (p.lane l).cable ++ [f] ∧ p'.log = (p.raise (.lane l .framesSent)).log ∧
      p'.stream n = { p.stream n with
        askTimer := if (p.stream n).state = .binding ∧ (p.stream n).epoch = f.header.epoch then some (p.now + 5000)
          else (p.stream n).askTimer } ∧
      ∀ m, m ≠ n → p'.stream m = p.stream m) ∧
    (∀ b, f.kind = .test → f.header.reflect = true → (p.lane l).checker = some b → b.owner = .qualify →
      ∃ p', exec (.frameDeparture l []) ⟨p, w⟩ = .next ⟨p', w⟩ ∧ (p'.lane l).queue = rest ∧
        (p'.lane l).cable = (p.lane l).cable ++ [f] ∧ (p'.lane l).checker = some { b with sent := b.sent + 1 } ∧
        (p'.lane l).timers.qualify =
          (if b.sent + 1 = b.length then some (p.now + 20000) else (p.lane l).timers.qualify) ∧
        (p'.lane l).state = (p.lane l).state ∧ p'.engine = p.engine ∧ ∀ m, m ≠ l → p'.lane m = p.lane m) ∧
    ∀ e b bs asRead, f.kind = .request → (p.stream n).entryAt f.header.seq = some e → e.stream = n →
      (p.stream n).state = .bound → p.settled → p.unwatched → p.intake.service ≠ .init → p.engine.buffer.wf = true →
      e.blocks = b :: bs → asRead.length = 64 → p.engine.owners.get b = some (.entry e.index) →
      p.findEntry e.index = some e → e.poisoned = false →
      ∃ p', exec (.frameDeparture l [.uncorrectable asRead]) ⟨p, w⟩ = .next ⟨p', w⟩ ∧ (p'.lane l).queue = rest ∧
        p'.engine.buffer.block b = asRead ∧ (∀ c, c ≠ b → p'.engine.buffer.block c = p.engine.buffer.block c) ∧
        (p'.lane l).cable = (p.lane l).cable ++ [{ f with
          header := { f.header with poison := true },
          payload := p'.engine.buffer.load e.blocks (e.kind.payloadBytes e.length) }] ∧
        (∃ x ∈ (p'.stream n).inflight, x.index = e.index ∧ x.poisoned = true ∧ x.phase = .sent) ∧
        p'.log = p.log.take .poisoned none (some n) (e.seq.setWidth 16) p.timeCounter ∧
        p'.completions = p.completions

/-- A PAUSE is taken in QUALIFY, ACTIVE, DEGRADED and HELD and sets, replaces or ends the pause; while it runs, the
oldest frame that is no REQUEST and no ASK leaves, onto the cable and counted, the frames passed over keep their order,
and with only such frames nothing leaves (R68, R69, R156). -/
def Obligations.PauseHoldsTransactions : Prop :=
  (∀ (p : Machine.Part) (w : List Instr) (l : Lane) (h : Header), ∃ p',
    exec (.receivePause l h [] false) ⟨p, w⟩ = .next ⟨p', w⟩ ∧
    ((p.lane l).state ∈ [LaneState.qualify, .active, .degraded, .held] →
      (p'.lane l).timers.pause = (if h.pause = 0 then none else some (p.now + h.pause.toNat)) ∧
      (p'.lane l).state = (p.lane l).state ∧ (p'.lane l).queue = (p.lane l).queue ∧ p'.engine = p.engine ∧
      (∀ m, m ≠ l → p'.lane m = p.lane m) ∧
      p'.counter (.lane l .pausesTaken) = p.counter (.lane l .pausesTaken) + 1) ∧
    ((p.lane l).state ∈ [LaneState.quiet, .training, .down] → p'.lanes = p.lanes ∧ p'.engine = p.engine)) ∧
  (∀ queue : List Frame,
    (takeFirst true queue = none ↔ ∀ f ∈ queue, f.kind = .request ∨ f.kind = .ask) ∧
    ∀ g left, takeFirst true queue = some (g, left) → ∃ a b, queue = a ++ g :: b ∧ left = a ++ b ∧
      ¬(g.kind = .request ∨ g.kind = .ask) ∧ ∀ f ∈ a, f.kind = .request ∨ f.kind = .ask) ∧
  (∀ (p : Machine.Part) (w : List Instr) (l : Lane) (reads : List BlockCheck),
    (p.lane l).timers.pause ≠ none → (∀ f ∈ (p.lane l).queue, f.kind = .request ∨ f.kind = .ask) →
    exec (.frameDeparture l reads) ⟨p, w⟩ = .next ⟨p, w⟩) ∧
  ∀ (p : Machine.Part) (w : List Instr) (l : Lane) (reads : List BlockCheck) (a b : List Frame) (g : Frame),
    (p.lane l).timers.pause ≠ none → (p.lane l).state ≠ .off → (p.lane l).loopback = false →
    (p.lane l).queue = a ++ g :: b → (∀ f ∈ a, f.kind = .request ∨ f.kind = .ask) →
    ¬(g.kind = .request ∨ g.kind = .ask) →
    ∃ p', exec (.frameDeparture l reads) ⟨p, w⟩ = .next ⟨p', w⟩ ∧ (p'.lane l).queue = a ++ b ∧
      (p'.lane l).cable = (p.lane l).cable ++ [g] ∧ (p'.lane l).timers.pause = (p.lane l).timers.pause ∧
      (p'.lane l).state = (p.lane l).state ∧ p'.engine = p.engine ∧ (∀ m, m ≠ l → p'.lane m = p.lane m) ∧
      p'.counter (.lane l .framesSent) = p.counter (.lane l .framesSent) + 1 ∧ p'.completions = p.completions

/-- A frame that fails its check is counted, and its weight, 8 or with code violations 10, raises the figure of a lane
in service, where the thresholds judge it, and of no lane out of service; a good REQUEST, ASK, PROBE or unknown kind
is discarded and counted as unexpected. A good frame with code violations is counted as such and brings a weight of 2
(R44, R45, R78, R86, R90, R94); that the weight comes before the silence timer and the frame's kind is the model's
choice (log entry 8: DESIGN CHOICE). -/
def Obligations.BadAndUnexpectedFrames : Prop :=
  (∀ (p : Machine.Part) (w : List Instr) (l : Lane) (violation : Bool), (p.lane l).loopback = false →
    ∃ p', exec (.badFrame l violation) ⟨p, w⟩ = .next ⟨p', w⟩ ∧ p'.completions = p.completions ∧
      p'.counter (.lane l .badFrames) = p.counter (.lane l .badFrames) + 1 ∧
      p'.counter (.lane l .codeViolationFrames) =
        p.counter (.lane l .codeViolationFrames) + (if violation then 1 else 0) ∧
      p'.counter (.lane l .framesReceived) = p.counter (.lane l .framesReceived) ∧
      p.weighs p' l (if violation then 10 else 8)) ∧
  (∀ (p : Machine.Part) (w : List Instr) (l : Lane) (k : UnexpectedKind) (h : Header) (payload : List Byte),
    k.wellFormed = true → (p.lane l).state ≠ .off →
    ∃ p', exec (.unexpectedFrame l k h payload true) ⟨p, w⟩ = .next ⟨p', w⟩ ∧ p'.completions = p.completions ∧
      p'.counter (.lane l .codeViolationFrames) = p.counter (.lane l .codeViolationFrames) + 1 ∧
      p'.counter (.lane l .unexpectedFrames) = p.counter (.lane l .unexpectedFrames) + 1 ∧
      p'.counter (.lane l .framesReceived) = p.counter (.lane l .framesReceived) + 1 ∧
      p'.counter (.lane l .badFrames) = p.counter (.lane l .badFrames) ∧ p.weighs p' l 2 ∧
      ((p'.lane l).state = .qualify ∨ (p'.lane l).state = .active ∨ (p'.lane l).state = .degraded ∨
          (p'.lane l).state = .held →
        (p'.lane l).timers.silence = some (p.now + 2 * (p.params.beatInterval * 250)))) ∧
  (∀ (p : Machine.Part) (w : List Instr) (l : Lane) (violation : Bool),
    (p.lane l).loopback = false →
    ((p.lane l).state ≠ .active → (p.lane l).state ≠ .degraded →
      ∃ p', exec (.badFrame l violation) ⟨p, w⟩ = .next ⟨p', w⟩ ∧ p'.lanes = p.lanes ∧ p'.engine = p.engine ∧
        p'.intake = p.intake ∧ p'.completions = p.completions ∧
        p'.counter (.lane l .badFrames) = p.counter (.lane l .badFrames) + 1) ∧
    (p.params.ordered → (p.lane l).state = .active →
      (p.lane l).figure + (if violation then 10 else 8) < p.params.warnLevel →
      ∃ p', exec (.badFrame l violation) ⟨p, w⟩ = .next ⟨p', w⟩ ∧
        p'.lane l = { p.lane l with figure := (p.lane l).figure + (if violation then 10 else 8) } ∧
        (∀ m, m ≠ l → p'.lane m = p.lane m) ∧ p'.engine = p.engine ∧
        p'.counter (.lane l .badFrames) = p.counter (.lane l .badFrames) + 1)) ∧
  ∀ (p : Machine.Part) (w : List Instr) (l : Lane) (k : UnexpectedKind) (h : Header) (payload : List Byte),
    k.wellFormed = true → (p.lane l).state ≠ .off →
    ∃ p', exec (.unexpectedFrame l k h payload false) ⟨p, w⟩ = .next ⟨p', w⟩ ∧
      p'.counter (.lane l .unexpectedFrames) = p.counter (.lane l .unexpectedFrames) + 1 ∧
      p'.counter (.lane l .framesReceived) = p.counter (.lane l .framesReceived) + 1 ∧
      p'.engine = p.engine ∧ p'.intake = p.intake ∧ p'.completions = p.completions ∧
      (p'.lane l).state = (p.lane l).state ∧ (p'.lane l).queue = (p.lane l).queue ∧
      (∀ m, m ≠ l → p'.lane m = p.lane m)

/-- In OFF a good frame that holds the reclaim pattern takes a RETIRED or MISMATCH lane that is not pinned OUT to
QUIET; with fabric identity 0, pin OUT, reason DISABLED or a payload below 40 bytes a good frame changes no lane
(R45, R64, R83). -/
def Obligations.ReclaimPatternActs : Prop :=
  ∀ (p : Machine.Part) (w : List Instr) (l : Lane) (f : Frame),
    (p.lane l).state = .off → (p.lane l).loopback = false →
    ((∃ a b, f.payload = a ++ (List.replicate 8 0x5A#8 ++
          (List.replicate 8 (toBigEndian 4 p.params.fabricIdentity.toNat)).flatten) ++ b) →
      p.params.fabricIdentity ≠ 0 → (p.lane l).pin ≠ .out →
      ((p.lane l).offReason = some .retired ∨ (p.lane l).offReason = some .mismatch) →
      ∃ p', exec (.frameInOff l f false) ⟨p, w⟩ = .next ⟨p', w⟩ ∧ (p'.lane l).state = .quiet ∧
        (p'.lane l).offReason = none ∧ (p'.lane l).requalify = 0 ∧ p'.engine.buffer = p.engine.buffer) ∧
    ((p.params.fabricIdentity = 0 ∨ (p.lane l).pin = .out ∨ (p.lane l).offReason = some .disabled ∨
        f.payload.length < 40) →
      ∃ p', exec (.frameInOff l f false) ⟨p, w⟩ = .next ⟨p', w⟩ ∧ p'.lanes = p.lanes ∧ p'.engine = p.engine ∧
        p'.counter (.lane l .framesReceived) = p.counter (.lane l .framesReceived) + 1)

/-- No ANSWER, whatever its payload, and no TELL or GAP of another epoch, on another lane or in a state that does not
take it changes the stream engine, the intake or the completions; each is counted as stale or stray. A taken ANSWER
for no entry is counted as unmatched, and a frame for another node as misdelivered. A TELL, GAP, BEAT or PAUSE with a
payload, a PAGE that has not 8 bytes or is of kind 2 or 3, and a TEST that has not 64 bytes are counted as malformed
and do nothing but restart the silence timer; an ANSWER's payload is judged by its entry alone, so no ANSWER dropped
here is malformed (R30, R33, R45, R78, R117, R123, R156, R184). -/
def Obligations.FramesFiltered : Prop :=
  (∀ (p : Machine.Part) (w : List Instr) (l : Lane) (h : Header) (payload : List Byte) (c : Instr),
    (p.lane l).state ≠ .off →
    (payload ≠ [] ∧ h.destination = p.params.sourceNode ∧
        (c = .receiveTell l h payload false ∨ c = .receiveGap l h payload false) ∨
      payload ≠ [] ∧ (c = .receiveBeat l h payload false ∨ c = .receivePause l h payload false) ∨
      (payload.length ≠ 8 ∨ h.pageKind = 2 ∨ h.pageKind = 3) ∧ c = .receiveBasePage l h payload false ∨
      payload.length ≠ 8 ∧ c = .receiveNextPage l h payload false ∨
      payload.length ≠ 64 ∧
        (c = .receiveTestReflect l h payload false ∨ c = .receiveTestReturn l h payload false)) →
    ∃ p', exec c ⟨p, w⟩ = .next ⟨p', w⟩ ∧
      p'.counter (.lane l .malformedFrames) = p.counter (.lane l .malformedFrames) + 1 ∧
      p'.counter (.lane l .framesReceived) = p.counter (.lane l .framesReceived) + 1 ∧
      (∀ k, k ≠ .lane l .malformedFrames → k ≠ .lane l .framesReceived → p'.counter k = p.counter k) ∧
      p'.engine = p.engine ∧ p'.intake = p.intake ∧ p'.completions = p.completions ∧ p'.sides = p.sides ∧
      p'.lane l = { p.lane l with
        timers := { (p.lane l).timers with
          silence :=
            if (p.lane l).state ∈ [LaneState.qualify, .active, .degraded, .held] then
              some (p.now + 2 * (p.params.beatInterval * 250))
            else (p.lane l).timers.silence } } ∧
      (∀ m, m ≠ l → p'.lane m = p.lane m) ∧ (p.unwatched → p'.log = p.log)) ∧
  ∀ (p : Machine.Part) (w : List Instr) (l : Lane) (h : Header) (payload : List Byte) (c : Instr)
    (takes : List StreamState),
    (p.lane l).state ≠ .off →
    ((c, takes) = (.receiveAnswer l h payload false, [.replaying, .bound, .draining]) ∨
     (c, takes) = (.receiveTell l h [] false, [.binding]) ∨
     (c, takes) = (.receiveGap l h [] false, [.replaying, .bound, .draining])) →
    ∃ p', exec c ⟨p, w⟩ = .next ⟨p', w⟩ ∧
      (h.destination ≠ p.params.sourceNode → p'.engine = p.engine ∧ p'.intake = p.intake ∧
        p'.completions = p.completions ∧
        p'.counter (.lane l .misdeliveredFrames) = p.counter (.lane l .misdeliveredFrames) + 1 ∧
        p'.counter (.lane l .malformedFrames) = p.counter (.lane l .malformedFrames)) ∧
      (h.destination = p.params.sourceNode → h.epoch ≠ (p.stream h.stream).epoch →
        p'.engine = p.engine ∧ p'.intake = p.intake ∧ p'.completions = p.completions ∧
        p'.counter (.stream h.stream .stale) = p.counter (.stream h.stream .stale) + 1 ∧
        p'.counter (.lane l .malformedFrames) = p.counter (.lane l .malformedFrames)) ∧
      (h.destination = p.params.sourceNode → h.epoch = (p.stream h.stream).epoch →
        ((p.stream h.stream).carrier ≠ some l ∨ (p.stream h.stream).state ∉ takes) →
        p'.engine = p.engine ∧ p'.intake = p.intake ∧ p'.completions = p.completions ∧
        p'.counter (.stream h.stream .stray) = p.counter (.stream h.stream .stray) + 1 ∧
        p'.counter (.lane l .malformedFrames) = p.counter (.lane l .malformedFrames)) ∧
      (h.destination = p.params.sourceNode → h.epoch = (p.stream h.stream).epoch →
        (p.stream h.stream).carrier = some l → (p.stream h.stream).state ∈ takes →
        c = .receiveAnswer l h payload false → (p.stream h.stream).entryAt h.seq = none →
        p'.engine = p.engine ∧ p'.intake = p.intake ∧ p'.completions = p.completions ∧
        p'.counter (.stream h.stream .unmatched) = p.counter (.stream h.stream .unmatched) + 1 ∧
        p'.counter (.lane l .malformedFrames) = p.counter (.lane l .malformedFrames))

/-- A taken ANSWER for a READ or SWAP hands over the one completion of R33's table and closes its tag, the applied
mark moves forward or stays, every WRITE at or before the mark retires, and the entry retires (R31, R33, R34). No
other entry left has its sequence, where no sequence stands twice in flight (R20, R21). An ANSWER that finds no result
missing lets held requests be dispatched, in order, each at its stream's next sequence, until no entry is free or no
head can take one; an entry that comes free while none was goes to the first stream after the last one served whose
head can take it (R27, R28, R36). That the answered stream takes the entries free before the event first is the
model's inference (log entry 24: DEDUCED). -/
def Obligations.AnswerCompletes : Prop :=
  (∀ (p : Machine.Part) (w : List Instr) (l : Lane) (h : Header) (payload : List Byte) (e : OttEntry)
    (tg : HostTag), (p.lane l).state ≠ .off → h.destination = p.params.sourceNode →
    h.epoch = (p.stream h.stream).epoch → (p.stream h.stream).carrier = some l →
    (p.stream h.stream).state = .bound → (p.stream h.stream).entryAt h.seq = some e → e.kind ≠ .write →
    e.tag = some tg → p.noneHeld →
    ∃ p', exec (.receiveAnswer l h payload false) ⟨p, w⟩ = .next ⟨p', w⟩ ∧
      p'.completions = p.completions ++ [
        if e.kind = .read then
          (if h.op = 0#4 ∧ payload.length = e.length then ⟨tg, .ok, payload⟩ else ⟨tg, .endpointError, []⟩)
        else if e.poisoned then ⟨tg, .poisoned, []⟩
        else if (h.op = 0#4 ∨ h.op = 2#4) ∧ payload.length = 8 then ⟨tg, .ok, payload⟩
        else if h.op = 3#4 ∧ payload = [] then ⟨tg, .outcomeUnknown, []⟩
        else ⟨tg, .endpointError, []⟩] ∧
      p'.intake.tagOpen tg = false ∧
      (p'.stream h.stream).mark = some (match (p.stream h.stream).mark with
        | none => h.seq
        | some m => if 1 ≤ (h.seq - m).toNat ∧ (h.seq - m).toNat ≤ 2047 then h.seq else m) ∧
      (((p.stream h.stream).inflight.map OttEntry.seq).Nodup →
        ∀ x ∈ (p'.stream h.stream).inflight, x.seq ≠ h.seq) ∧
      (∀ x ∈ (p'.stream h.stream).inflight, x.kind = .write →
        ∀ m, (p'.stream h.stream).mark = some m → serialAtOrBefore x.seq m = false)) ∧
  ∀ (p : Machine.Part) (w : List Instr) (l : Lane) (h : Header) (payload : List Byte) (e : OttEntry) (n : StreamId)
    (kept : StreamId → StreamRec),
    h.stream = n → p.settled → (p.lane l).state ≠ .off → h.destination = p.params.sourceNode →
    h.epoch = (p.stream n).epoch → (p.stream n).carrier = some l → (p.stream n).state = .bound →
    (p.stream n).entryAt h.seq = some e → ((p.stream n).inflight.map OttEntry.index).Nodup →
    (p.stream n).inflight.any (fun x => x.kind != .write && serialBefore x.seq h.seq) = false →
    (∀ m, kept m =
      if m = n then { p.stream n with inflight := (p.stream n).leftBy e h.seq } else p.stream m) →
    ∃ p', exec (.receiveAnswer l h payload false) ⟨p, w⟩ = .next ⟨p', w⟩ ∧
      (∀ m, (kept m).dispatchedTo (p'.stream m) ∧ (p'.stream m).state = (p.stream m).state ∧
        (p'.stream m).carrier = (p.stream m).carrier) ∧
      (∀ x ∈ (p'.stream n).inflight, x ∉ (kept n).inflight → ∃ f ∈ (p'.lane l).queue, f.kind = .request ∧
        f.header.stream = n ∧ f.header.seq = x.seq ∧ f.header.epoch = (p.stream n).epoch ∧ f.header.op = x.kind.op) ∧
      ((allStreams.map (fun m => (p.stream m).hold.length)).sum ≤ 64 →
        p'.engine.freeEntries = [] ∨ ∀ m, ¬(p'.stream m).headMeets p.params) ∧
      ∀ (m : StreamId) (j : Fin 64) (x : Held) (xs : List Held),
        p.engine.freeEntries = [] → ((p.stream n).leftBy e h.seq).length + 1 = (p.stream n).inflight.length →
        m = p.engine.lastServed + 1 + j → (kept m).headMeets p.params → (p.stream m).hold = x :: xs →
        (∀ k < j, ¬(kept (p.engine.lastServed + 1 + k)).headMeets p.params) →
        ∃ y, x.becomes y ∧ y.seq = (p.stream m).nextSeq ∧ (p'.stream m).inflight = (kept m).inflight ++ [y] ∧
          (p'.stream m).hold = xs ∧ p'.engine.lastServed = m ∧ p'.engine.freeEntries = [] ∧
          ∀ o, o ≠ m → (p'.stream o).hold = (p.stream o).hold ∧ (p'.stream o).inflight = (kept o).inflight

/-- What an ANSWER does besides its completion. The applied mark moves and retires the WRITEs at or before it, and an
ANSWER for a WRITE hands over no completion. A READ or SWAP left before the answered sequence rewinds the stream: a
new epoch, every entry left QUEUED, the weight SEQUENCE_BREAK and a storm report for the carrier. Write rejections
seen is raised by an ERROR for a WRITE, and then becomes what the ANSWER carries, WRITE_REJECTED for each of the two.
An entry queued once gives the carrier its latency sample, and a sample raises its bin at the lane; that an entry
which has not left gives none is the model's choice (log entry 62: DESIGN CHOICE). An ANSWER that empties a DRAINING
stream ends its drain: a new epoch on the lane that the choice finds with the move's target distinguished, logged when
it is another lane, or STALLED with the move abandoned, whose MOVE_ABANDONED the model logs before STREAM_STALLED (log
entry 10: DESIGN CHOICE); and a lane whose restart waited for its last stream enters
QUIET, whose LANE_RESTARTED the model logs after the stream's events (log entry 60: DESIGN CHOICE). An ANSWER that
leaves nothing in the part in QUIESCING completes the quiesce (R31, R32, R33, R35, R36, R87, R108, R124, R135, R138,
R143, R157). -/
def Obligations.AnswerCounts : Prop :=
  (∀ (p : Machine.Part) (w : List Instr) (l : Lane) (h : Header) (payload : List Byte) (e : OttEntry) (n : StreamId)
    (mark : Seq) (missing bad : Bool) (left : List OttEntry),
    h.stream = n → p.unwatched → p.settled → p.noneHeld → (p.lane l).state ≠ .off →
    h.destination = p.params.sourceNode → h.epoch = (p.stream n).epoch → (p.stream n).carrier = some l →
    (p.stream n).state = .bound → (p.stream n).entryAt h.seq = some e →
    ((p.stream n).inflight.map OttEntry.index).Nodup →
    mark = (match (p.stream n).mark with
      | none => h.seq
      | some m => if 1 ≤ (h.seq - m).toNat ∧ (h.seq - m).toNat ≤ 2047 then h.seq else m) →
    missing = (p.stream n).inflight.any (fun x => x.kind != .write && serialBefore x.seq h.seq) →
    bad = (e.kind == .write && !(payload.isEmpty && (h.op == 0#4 || h.op == 2#4 || h.op == 3#4))) →
    left = (p.stream n).inflight.filter (fun x => !(x.kind == .write && serialAtOrBefore x.seq mark) &&
      (e.kind == .write || x.index != e.index)) →
    ∃ p', exec (.receiveAnswer l h payload false) ⟨p, w⟩ = .next ⟨p', w⟩ ∧ (p'.stream n).mark = some mark ∧
      (p'.stream n).inflight =
        (if missing then left.map (fun x => { x with phase := .queued, deadline := none }) else left) ∧
      (p'.stream n).rejections = h.rejections ∧ (p'.stream n).nextSeq = (p.stream n).nextSeq ∧
      (∀ m, m ≠ n → p'.stream m = p.stream m) ∧
      p'.reports = p.reports ++ (if missing then [.weight l .sequenceBreak, .storm l] else []) ++
        (match e.transmitTime with
          | some t => if e.transmissions = 1 then [.sample l (BitVec.ofNat 16 (min (p.now - t) 65535))] else []
          | none => []) ∧
      (e.kind = .write → p'.completions = p.completions ∧ (missing = false →
        p'.log =
          let log := if bad then p.log.take .writeRejected (some l) (some n) (e.seq.setWidth 16) p.timeCounter
            else p.log
          if (p.stream n).rejections + (if bad then 1 else 0) = h.rejections then log
          else log.take .writeRejected (some l) (some n) 0xFFFF p.timeCounter)) ∧
      (missing = false → (p'.stream n).state = .bound ∧ (p'.stream n).carrier = some l ∧
        (p'.stream n).epoch = (p.stream n).epoch) ∧
      (missing = true → (p'.stream n).epoch = (p.stream n).epoch + 1 ∧
        (p.eligible (p.stream n).tried none l = true → (p'.stream n).state = .binding ∧
          (p'.stream n).carrier = some l ∧ (p'.stream n).askAttempts = 1 ∧
          (e.kind = .read → p'.log =
            let log := p.log.take .streamRewound (some l) (some n) 1 p.timeCounter
            if (p.stream n).rejections = h.rejections then log
            else log.take .writeRejected (some l) (some n) 0xFFFF p.timeCounter)))) ∧
  (∀ (p : Machine.Part) (w : List Instr) (l : Lane) (h : Header) (payload : List Byte) (e : OttEntry) (n : StreamId)
    (m : Move) (found : Option Lane) (log : EventLog),
    h.stream = n → p.unwatched → (∀ g, g ≠ l → (p.lane g).restartPending = false) → (p.lane l).state ≠ .off →
    h.destination = p.params.sourceNode → h.epoch = (p.stream n).epoch → (p.stream n).carrier = some l →
    (p.stream n).state = .draining → (p.stream n).move = some m → m.left = l →
    (p.stream n).entryAt h.seq = some e → ((p.stream n).inflight.map OttEntry.index).Nodup →
    (p.stream n).leftBy e h.seq = [] →
    found = p.choose (p.stream n).preferred (p.stream n).tried
      ⟨m.target, if m.cause = .returning then none else some l⟩ →
    log = (match found with
      | some g => if g = l then p.log
        else p.log.take .streamMigrated (some g) (some n) (bytePair l.code g.code) p.timeCounter
      | none =>
        let log := p.log.take .moveAbandoned none (some n)
          (bytePair (match m.target with | some g => g.code | none => 255) 255) p.timeCounter
        if (p.stream n).stallDeadline = none then log.take .streamStalled none (some n) 0 p.timeCounter else log) →
    ∃ p', exec (.receiveAnswer l h payload false) ⟨p, w⟩ = .next ⟨p', w⟩ ∧
      (p'.stream n).epoch = (p.stream n).epoch + 1 ∧ (p'.stream n).nextSeq = (p.stream n).nextSeq ∧
      (p'.stream n).inflight = [] ∧ (p'.stream n).hold = (p.stream n).hold ∧
      (match found with
      | some g => (p'.stream n).state = .binding ∧ (p'.stream n).carrier = some g ∧ (p'.stream n).askAttempts = 1 ∧
        (p'.stream n).move = some { m with drain := .absent } ∧ ∃ f,
        (p'.lane g).queue.filter (fun x => x.isOf n) = [f] ∧ f.kind = .ask ∧
        f.header.epoch = (p.stream n).epoch + 1 ∧ f.header.seq = (p.stream n).nextSeq ∧
        f.header.mark = (p.stream n).nextSeq
      | none => (p'.stream n).state = .stalled ∧ (p'.stream n).carrier = none ∧ (p'.stream n).askAttempts = 0 ∧
        (p'.stream n).move = none) ∧
      ((p.lane l).restartPending = true → (∀ o, o ≠ n → (p.stream o).carrier ≠ some l) →
        (p'.lane l).state = .quiet ∧ (p'.lane l).restartPending = false) ∧
      (e.kind = .read → (p.stream n).rejections = h.rejections → p.intake.service ≠ .quiescing →
        ((p.lane l).restartPending = false → p'.log = log) ∧
        ((p.lane l).restartPending = true → (∀ o, o ≠ n → (p.stream o).carrier ≠ some l) →
          ((p.lane l.sibling).state = .active ∨ (p.lane l.sibling).state = .degraded) →
          (p.side l.side).state ≠ .lost → p'.log = log.take .laneRestarted (some l) none 0 p.timeCounter))) ∧
  (∀ (p : Machine.Part) (w : List Instr) (l : Lane) (h : Header) (payload : List Byte) (e : OttEntry) (n : StreamId),
    h.stream = n → p.unwatched → (∀ g, (p.lane g).restartPending = false) → (p.lane l).state ≠ .off →
    h.destination = p.params.sourceNode → h.epoch = (p.stream n).epoch → (p.stream n).carrier = some l →
    (p.stream n).state = .bound → (p.stream n).entryAt h.seq = some e →
    ((p.stream n).inflight.map OttEntry.index).Nodup → (p.stream n).leftBy e h.seq = [] → (p.stream n).hold = [] →
    (∀ o, o ≠ n → (p.stream o).inflight = [] ∧ (p.stream o).hold = []) →
    p.intake.service = .quiescing → p.intake.queue = [] → p.intake.tally = none →
    ∃ p', exec (.receiveAnswer l h payload false) ⟨p, w⟩ = .next ⟨p', w⟩ ∧ p'.intake.service = .quiesced ∧
      p'.intake.credits = p.intake.credits ∧ (p'.stream n).state = .bound ∧
      (e.kind = .read → (p.stream n).rejections = h.rejections → p'.log = p.log.take .quiesced none none
        (BitVec.ofNat 16 (min ((p.now - p.intake.quiesceAt) / 1000) 65535)) p.timeCounter)) ∧
  ∀ (p : Machine.Part) (w : List Instr) (l : Lane) (us : BitVec 16) (bin : LaneCounter),
    bin = (if us.toNat ≤ 9 then .latencyBin0 else if us.toNat ≤ 49 then .latencyBin1
      else if us.toNat ≤ 199 then .latencyBin2 else if us.toNat ≤ 999 then .latencyBin3 else .latencyBin4) →
    ∃ p', exec (.latencySample l us) ⟨p, w⟩ = .next ⟨p', w⟩ ∧
      p'.counter (.lane l bin) = p.counter (.lane l bin) + 1 ∧
      (∀ c, c ≠ .lane l bin → p'.counter c = p.counter c) ∧ p'.engine = p.engine

/-- A TELL in the fresh case is accepted whatever it carries, and ends the binding at once; the requests held until
then are dispatched in order, from the accepted next sequence on, as far as the stream can take them (R27, R118,
R122). -/
def Obligations.FreshTellAccepted : Prop :=
  ∀ (p : Machine.Part) (w : List Instr) (l : Lane) (h : Header) (n : StreamId) (next : Seq),
    h.stream = n → (p.lane l).state ≠ .off → (p.lane l).leaving = false →
    h.destination = p.params.sourceNode → h.epoch = (p.stream n).epoch → (p.stream n).carrier = some l →
    (p.stream n).state = .binding → (p.stream n).mark = none → (p.stream n).inflight = [] →
    (p.stream n).move = none →
    next = (if h.fresh then 0 else if h.markValid then h.mark + 1 else (p.stream n).nextSeq) →
    ∃ p', exec (.receiveTell l h [] false) ⟨p, w⟩ = .next ⟨p', w⟩ ∧ (p'.stream n).state = .bound ∧
      (p'.stream n).carrier = some l ∧ (p'.stream n).epoch = (p.stream n).epoch ∧
      (p'.stream n).mark = (if h.fresh then none else if h.markValid then some h.mark else none) ∧
      (p'.stream n).recallDepth = some h.recallDepth ∧
      (p'.stream n).swapLimit = max 1 (min 16 h.recallDepth.toNat) ∧
      (p'.stream n).rejections = h.rejections ∧
      (p'.stream n).askAttempts = 0 ∧ (∀ m, (p'.stream n).tried.has m = false) ∧
      (p'.stream n).stallDeadline = none ∧
      StreamRec.dispatchedTo { p.stream n with nextSeq := next } (p'.stream n) ∧
      ((p.stream n).hold.length ≤ 64 → p'.dispatchStops n) ∧
      ((p.stream n).hold = [] → (p'.stream n).nextSeq = next ∧ (p'.stream n).inflight = []) ∧
      ∀ e ∈ (p'.stream n).inflight, ∃ f ∈ (p'.lane l).queue, f.kind = .request ∧ f.header.stream = n ∧
        f.header.seq = e.seq ∧ f.header.op = e.kind.op ∧ f.header.epoch = (p.stream n).epoch ∧
        f.header.address = e.address

/-- A TELL that contradicts a stream with history faults it: the stream is emptied, its READs and SWAPs are given up
in order, the fates of its SWAPs and WRITEs are logged after STREAM_FAULTED, the epoch and next sequence are kept, and
the write rejections seen are what the TELL carries, compared like those of any taken TELL (R35, R119, R128, R129).
That the comparison and its WRITE_REJECTED come before STREAM_FAULTED is the model's choice (log entry 46: DESIGN
CHOICE). -/
def Obligations.TellContradictionFaults : Prop :=
  ∀ (p : Machine.Part) (w : List Instr) (l : Lane) (h : Header) (n : StreamId),
    h.stream = n → (p.lane l).state ≠ .off → h.destination = p.params.sourceNode →
    h.epoch = (p.stream n).epoch → (p.stream n).carrier = some l → (p.stream n).state = .binding →
    ((p.stream n).mark ≠ none ∨ (p.stream n).inflight ≠ []) →
    ∀ behind ahead : Bool,
    behind = serialBefore h.mark (match (p.stream n).mark, (p.stream n).inflight with
        | some m, _ => m
        | none, e :: _ => e.seq - 1
        | none, [] => 0) →
    ahead = serialAtOrBefore (p.stream n).nextSeq h.mark →
    (h.fresh = true ∨ h.markValid = false ∨ behind = true ∨ ahead = true) →
    ∃ p', exec (.receiveTell l h [] false) ⟨p, w⟩ = .next ⟨p', w⟩ ∧ (p'.stream n).state = .faulted ∧
      (p'.stream n).inflight = [] ∧ (p'.stream n).hold = [] ∧ (p'.stream n).carrier = none ∧
      (p'.stream n).mark = none ∧ (p'.stream n).recallDepth = none ∧ (p'.stream n).swapLimit = 16 ∧
      (p'.stream n).epoch = (p.stream n).epoch ∧ (p'.stream n).nextSeq = (p.stream n).nextSeq ∧
      (p'.stream n).rejections = h.rejections ∧
      p'.completions = p.completions ++ (p.stream n).givenUp ∧
      (p.unwatched → p.settled →
        p'.log = (p.stream n).disposalLog n none p.timeCounter
          ((if (p.stream n).rejections = h.rejections then p.log
            else p.log.take .writeRejected (some l) (some n) 0xFFFF p.timeCounter).take .streamFaulted (some l)
          (some n) (if h.fresh then 1 else if h.markValid = false then 2 else if behind then 3 else 4) p.timeCounter))

/-- A TELL with history that nothing contradicts moves the mark, retires the WRITEs at or before it, and replays
the rest in order with one more transmission each: the carrier's queue gains one REQUEST for each entry left, in
sequence order and under the new epoch (R46, R120, R121). That the replayed frames stand last in the queue, so that the
frames of other streams dispatched in this event (R28) stand before them, is the model's inference (log entry 25:
DEDUCED). -/
def Obligations.TellReplays : Prop :=
  ∀ (p : Machine.Part) (w : List Instr) (l : Lane) (h : Header) (n : StreamId) (left : List OttEntry),
    h.stream = n → (p.lane l).state ≠ .off → h.destination = p.params.sourceNode →
    h.epoch = (p.stream n).epoch → (p.stream n).carrier = some l → (p.stream n).state = .binding →
    (p.stream n).contradiction h = none → ((p.stream n).inflight.map OttEntry.index).Nodup →
    left = (p.stream n).inflight.filter (fun x => !(x.kind == .write && serialAtOrBefore x.seq h.mark)) →
    left ≠ [] →
    ∃ p' before, exec (.receiveTell l h [] false) ⟨p, w⟩ = .next ⟨p', w⟩ ∧ (p'.stream n).state = .replaying ∧
      (p'.stream n).mark = some h.mark ∧ (p'.stream n).carrier = some l ∧
      (p'.stream n).epoch = (p.stream n).epoch ∧ (p'.stream n).nextSeq = (p.stream n).nextSeq ∧
      (p'.stream n).recallDepth = some h.recallDepth ∧ (p'.stream n).rejections = h.rejections ∧
      (p'.stream n).inflight = left.map (fun x => { x with transmissions := min 255 (x.transmissions + 1) }) ∧
      (p'.lane l).queue = before ++ left.map (fun x =>
        { kind := .request, payload := [],
          header := { Header.zero with
            source := p.params.sourceNode, epoch := (p.stream n).epoch, destination := (p.stream n).node,
            op := x.kind.op, stream := n, seq := x.seq, lengthCode := BitVec.ofNat 6 (x.length / 4 - 1),
            address := x.address } }) ∧
      (∀ f ∈ before, f ∈ (p.lane l).queue ∨ f.header.stream ≠ n) ∧
      p'.completions = p.completions

/-- A GAP or a deadline expiry rewinds a stream: a new epoch, every entry QUEUED without a deadline, the weight and the
storm report handed to the lane, and STREAM_REWOUND. While the carrier is eligible the stream stays on it and asks
there once; otherwise it binds on another lane or stalls (R38, R114, R123, R124, R125). That the time reaches the
deadline at its expiry is the model's choice (log entry 3: DESIGN CHOICE). -/
def Obligations.RewindStaysOnCarrier : Prop :=
  ∀ (p : Machine.Part) (w : List Instr) (l : Lane) (n : StreamId) (c : Instr) (cause : ReportCause)
    (detail : BitVec 16) (now : Nat),
    p.unwatched → p.settled → (p.lane l).state ≠ .off → (p.stream n).carrier = some l →
    (p.stream n).state ∈ [StreamState.replaying, .bound, .draining] →
    ((∃ h, c = .receiveGap l h [] false ∧ h.stream = n ∧ h.destination = p.params.sourceNode ∧
        h.epoch = (p.stream n).epoch ∧ cause = .sequenceBreak ∧ detail = 2 ∧ now = p.now) ∨
     (∃ s t, c = .deadlineExpiry n s ∧ p.deadlineOf n s = some t ∧ cause = .deadlineMiss ∧ detail = 3 ∧
        now = max p.now t)) →
    ∃ p', exec c ⟨p, w⟩ = .next ⟨p', w⟩ ∧ p'.now = now ∧ (p'.stream n).epoch = (p.stream n).epoch + 1 ∧
      (p'.stream n).mark = (p.stream n).mark ∧
      (p'.stream n).nextSeq = (p.stream n).nextSeq ∧ (p'.stream n).hold = (p.stream n).hold ∧
      (p'.stream n).inflight =
        (p.stream n).inflight.map (fun x => { x with phase := .queued, deadline := none }) ∧
      p'.reports = p.reports ++ [.weight l cause, .storm l] ∧
      (∀ m, m ≠ n → p'.stream m = p.stream m) ∧ p'.completions = p.completions ∧
      (p.eligible (p.stream n).tried none l = true → ∃ f, (p'.stream n).state = .binding ∧
        (p'.stream n).carrier = some l ∧ (p'.stream n).askAttempts = 1 ∧
        p'.log = p.log.take .streamRewound (some l) (some n) detail (BitVec.ofNat 32 now) ∧
        (p'.lane l).queue = (p.lane l).queue.filter (fun x => !x.isOf n) ++ [f] ∧ f.kind = .ask ∧
        f.header.epoch = (p.stream n).epoch + 1) ∧
      (p.eligible (p.stream n).tried none l = false →
        (p'.stream n).state = .binding ∧ (p'.stream n).askAttempts = 1 ∧
            (∃ m, m ≠ l ∧ (p'.stream n).carrier = some m ∧ p.eligible (p.stream n).tried none m = true) ∨
          (p'.stream n).state = .stalled ∧ (p'.stream n).carrier = none ∧ (p'.stream n).move = none)

/-! ### Link-local frames and lane states (chapters 3 and 4) -/

/-- What a partner state code in a BEAT does: OK clears partner-leaving, OFFLINE sets it, LINK_FAIL takes the lane
to DOWN with its figure at 1023, CONFIG_ERROR to OFF; in QUIET and DOWN nothing (R45, R78, R79, R92). -/
def Obligations.BeatPartnerStates : Prop :=
  ∀ (p : Machine.Part) (w : List Instr) (l : Lane) (h : Header), p.unwatched →
    ∃ p', exec (.receiveBeat l h [] false) ⟨p, w⟩ = .next ⟨p', w⟩ ∧
      ((p.lane l).state = .quiet ∨ (p.lane l).state = .down →
        p'.lanes = p.lanes ∧ p'.engine = p.engine ∧ p'.log = p.log ∧ p'.intake = p.intake) ∧
      ((p.lane l).state ∈ [LaneState.training, .qualify, .active, .degraded, .held] →
        p'.completions = p.completions ∧ (∀ m, m ≠ l → (p'.lane m).state = (p.lane m).state) ∧
        (h.partner = .ok → p'.log = p.log ∧ p'.lane l = { p.lane l with
          partnerLeaving := false,
          page := (p.lane l).page.map (fun g => { g with partner := .ok }),
          timers := { (p.lane l).timers with
            silence := if (p.lane l).state = .training then (p.lane l).timers.silence
              else some (p.now + 2 * (p.params.beatInterval * 250)) } }) ∧
        (h.partner = .offline → (p'.lane l).state = (p.lane l).state ∧ (p'.lane l).partnerLeaving = true ∧
          ((p.lane l).partnerLeaving = true → p'.log = p.log ∧ p'.engine = p.engine) ∧
          ((p.lane l).partnerLeaving = false → p.carries l = false →
            p'.log = p.log.take .partnerOffline (some l) none (BitVec.ofNat 16 (p.lane l).state.code)
              p.timeCounter)) ∧
        (h.partner = .linkFail → (p'.lane l).state = .down ∧ (p'.lane l).queue = [] ∧
          (p'.lane l).timers.holdDown = some (p.now + p.params.holdDown * 10000) ∧
          (p'.lane l).figure = if (p.lane l).state = .active ∨ (p.lane l).state = .degraded then 1023
            else (p.lane l).figure) ∧
        (h.partner = .configError → (p'.lane l).state = .off ∧ (p'.lane l).offReason = some .mismatch ∧
          (p'.lane l).queue = [] ∧ (p'.lane l).timers = Timers.stopped))

/-- Pages. A BASE page with another side, a maximum payload below 256, no resume or CONFIG_ERROR is a mismatch in QUIET
and TRAINING, the first reason of R75's table that holds. The first BASE page in QUIET starts training with the toggle
inverted, the second identical one sets own ack, an acked one then ends phase BASE, and one in phase NEXT counts the
pages seen alone; LINK_FAIL in one takes the lane to DOWN and OFFLINE sets partner-leaving. A NEXT page with ack set
and the lane's toggle echoed starts the qualification burst of 256 TEST frames; another one changes no state, queue or
training (R71, R72, R73, R75, R76, R78, R79). That a BASE page carries the toggle is the model's inference (log entry
22: DEDUCED), as is the page data written with a LINK_FAIL (log entry 43: DEDUCED). -/
def Obligations.PagesTrain : Prop :=
  (∀ (p : Machine.Part) (w : List Instr) (l : Lane) (h : Header) (payload : List Byte) (g : BasePage),
    h.pageKind = 0 → payload.length = 8 → g = BasePage.ofFrame h payload →
    ∃ p', exec (.receiveBasePage l h payload false) ⟨p, w⟩ = .next ⟨p', w⟩ ∧ p'.completions = p.completions ∧
      p'.intake = p.intake ∧ ((p.lane l).state = .quiet ∨ (p.lane l).state = .training →
      (p'.lane l).page = some g ∧
      (∀ reason, (g.side ≠ sideByte l.side ∧ reason = 1 ∨
          g.side = sideByte l.side ∧ g.maxPayload.toNat < 256 ∧ reason = 2 ∨
          g.side = sideByte l.side ∧ 256 ≤ g.maxPayload.toNat ∧ g.resume = false ∧ reason = 3 ∨
          g.side = sideByte l.side ∧ 256 ≤ g.maxPayload.toNat ∧ g.resume = true ∧ g.partner = .configError ∧
            reason = 4) →
        (p'.lane l).state = .off ∧ (p'.lane l).offReason = some .mismatch ∧ (p'.lane l).queue = [] ∧
        (p.unwatched → p.sidesHold → p'.log =
          p.log.take .laneMismatch (some l) none (bytePair reason g.port.toNat) p.timeCounter)) ∧
      (g.side = sideByte l.side → 256 ≤ g.maxPayload.toNat → g.resume = true →
        (g.partner = .linkFail → (p'.lane l).state = .down) ∧
        (g.partner = .offline → (p'.lane l).state = .training ∧ (p'.lane l).partnerLeaving = true) ∧
        (g.partner = .ok → (p'.lane l).state = .training ∧ (p'.lane l).partnerLeaving = false ∧
        ((p.lane l).state = .quiet → ∃ f,
          (p'.lane l).training = ⟨false, false, 1, some g, !(p.lane l).training.toggle, 0⟩ ∧
          (p'.lane l).timers.probe = none ∧ (p'.lane l).timers.page = some (p.now + 10000) ∧
          (p'.lane l).queue = (p.lane l).queue ++ [f] ∧ f.kind = .page ∧ f.header.pageKind = 0 ∧
          f.header.ack = false ∧ f.header.toggle = !(p.lane l).training.toggle) ∧
        ((p.lane l).state = .training → (p.lane l).training.next = false → (p.lane l).training.ownAck = false →
          (p.lane l).training.last = some g → (p.lane l).training.seen = 1 → ∃ f,
          (p'.lane l).training = { (p.lane l).training with seen := 2, ownAck := true, resends := 0 } ∧
          (p'.lane l).timers.page = some (p.now + 10000) ∧ (p'.lane l).queue = (p.lane l).queue ++ [f] ∧
          f.kind = .page ∧ f.header.pageKind = 0 ∧ f.header.ack = true) ∧
        ((p.lane l).state = .training → (p.lane l).training.next = false → (p.lane l).training.ownAck = true →
          h.ack = true → ∃ f, (p'.lane l).training.next = true ∧
          (p'.lane l).training.resends = 0 ∧ (p'.lane l).training.toggle = (p.lane l).training.toggle ∧
          (p'.lane l).queue = (p.lane l).queue ++ [f] ∧ f.kind = .page ∧ f.header.pageKind = 1 ∧
          f.header.toggle = (p.lane l).training.toggle) ∧
        ((p.lane l).state = .training → (p.lane l).training.next = true →
          (p'.lane l).queue = (p.lane l).queue ∧ (p'.lane l).timers = (p.lane l).timers ∧
          (p'.lane l).training = { (p.lane l).training with
            seen := if (p.lane l).training.last = some g then min 2 ((p.lane l).training.seen + 1) else 1,
            last := some g }))))) ∧
  ∀ (p : Machine.Part) (w : List Instr) (l : Lane) (h : Header) (payload : List Byte),
    h.pageKind = 1 → payload.length = 8 → (p.lane l).state ≠ .off →
    ∃ p', exec (.receiveNextPage l h payload false) ⟨p, w⟩ = .next ⟨p', w⟩ ∧ p'.completions = p.completions ∧
      ((p.lane l).state = .training → (p.lane l).training.next = true → h.ack = true →
        h.toggle = (p.lane l).training.toggle → ∃ burst, (p'.lane l).state = .qualify ∧
        (p'.lane l).errorBytes = 0 ∧ (p'.lane l).checker = some ⟨.qualify, 256, 0, 0⟩ ∧
        (p'.lane l).queue = (p.lane l).queue ++ burst ∧ burst.map Frame.payload = burstPayloads 256 ∧
        (∀ f ∈ burst, f.kind = .test ∧ f.header.reflect = true) ∧ (p'.lane l).timers.page = none ∧
        (p'.lane l).timers.beat = some (p.now + p.params.beatInterval * 250) ∧
        (p'.lane l).timers.silence = some (p.now + 2 * (p.params.beatInterval * 250))) ∧
      (¬((p.lane l).state = .training ∧ (p.lane l).training.next = true ∧ h.ack = true ∧
          h.toggle = (p.lane l).training.toggle) →
        (p'.lane l).state = (p.lane l).state ∧ (p'.lane l).queue = (p.lane l).queue ∧
        (p'.lane l).training = (p.lane l).training ∧ p'.engine = p.engine ∧
        ∀ m, m ≠ l → p'.lane m = p.lane m)

/-- TEST frames: one with REFLECT set is queued back with REFLECT clear and the same payload; one with REFLECT
clear is compared with the burst, and the last one ends the qualification. A pass brings the lane to ACTIVE with
LANE_UP, its side is UP or IMPAIRED by its other lane, and a side found LOST logs SIDE_RESTORED with the whole
milliseconds since lost-since. The entry to ACTIVE releases every STALLED stream: its tried set emptied, under a new
epoch and with its stall deadline as it was, it asks once on the lane that the choice finds, or is STALLED again, and
nothing is logged for it; no other stream changes but for its return timer (R62, R77, R103, R104, R114, R126, R164). -/
def Obligations.TestFrames : Prop :=
  ∀ (p : Machine.Part) (w : List Instr) (l : Lane) (h : Header) (payload : List Byte),
    payload.length = 64 → (p.lane l).state ≠ .off →
    (h.reflect = true → ∃ p' f, exec (.receiveTestReflect l h payload false) ⟨p, w⟩ = .next ⟨p', w⟩ ∧
      (p'.lane l).queue = (p.lane l).queue ++ [f] ∧ f.kind = .test ∧ f.header.reflect = false ∧
      f.payload = payload ∧ (p'.lane l).state = (p.lane l).state ∧ p'.engine = p.engine ∧
      ∀ m, m ≠ l → p'.lane m = p.lane m) ∧
    (h.reflect = false → ∃ p', exec (.receiveTestReturn l h payload false) ⟨p, w⟩ = .next ⟨p', w⟩ ∧
      ((p.lane l).checker = none → (p'.lane l).state = (p.lane l).state ∧ p'.engine = p.engine ∧
        (p'.lane l).errorBytes = (p.lane l).errorBytes ∧
        p'.counter (.lane l .unexpectedFrames) = p.counter (.lane l .unexpectedFrames) + 1) ∧
      ∀ b err, (p.lane l).checker = some b →
        err = min 255 ((p.lane l).errorBytes + differing payload (burstPayload b.compared)) →
        (b.compared + 1 < b.length → (p'.lane l).state = (p.lane l).state ∧ (p'.lane l).errorBytes = err ∧
          (p'.lane l).checker = some { b with compared := b.compared + 1 } ∧ p'.engine = p.engine) ∧
        (b.length ≤ b.compared + 1 → b.owner = .qualify → (p.lane l).state = .qualify →
          (p'.lane l).checker = none ∧ (p'.lane l).errorBytes = err ∧
          (p.lane l).afterBurst p.params.qualTolerance err (p'.lane l) ∧
          (err ≤ p.params.qualTolerance →
            (p'.side l.side).state =
              (if (p.lane l.sibling).state = .active ∨ (p.lane l.sibling).state = .degraded then .up
                else .impaired) ∧
            (p'.side l.side).lostSince = (p.side l.side).lostSince ∧
            (∀ n, (p.stream n).state ≠ .stalled →
              p'.stream n = { p.stream n with returnTimer := (p'.stream n).returnTimer }) ∧
            (∀ n, (p.stream n).state = .stalled → (p'.stream n).epoch = (p.stream n).epoch + 1 ∧
              (∀ m, (p'.stream n).tried.has m = false) ∧ (p'.stream n).hold = (p.stream n).hold ∧
              (p'.stream n).nextSeq = (p.stream n).nextSeq ∧ (p'.stream n).mark = (p.stream n).mark ∧
              (p'.stream n).inflight =
                (p.stream n).inflight.map (fun x => { x with phase := .queued, deadline := none }) ∧
              ((p.stream n).stallDeadline ≠ none → (p'.stream n).stallDeadline = (p.stream n).stallDeadline) ∧
              match p'.choose (p.stream n).preferred .empty ⟨none, none⟩ with
              | some m => (p'.stream n).state = .binding ∧ (p'.stream n).carrier = some m ∧
                (p'.stream n).askAttempts = 1 ∧ ∃ f, (p'.lane m).queue.filter (fun x => x.isOf n) = [f] ∧
                f.kind = .ask ∧ f.header.epoch = (p.stream n).epoch + 1 ∧ f.header.seq = (p.stream n).nextSeq
              | none => (p'.stream n).state = .stalled ∧ (p'.stream n).carrier = none ∧
                (p'.stream n).askAttempts = 0) ∧
            (p.unwatched → (∀ n, (p.stream n).state = .stalled → (p.stream n).stallDeadline ≠ none ∧
                (p.stream n).move = none) →
              p'.log = if (p.side l.side).state = .lost then
                  (p.log.take .laneUp (some l) none 1 p.timeCounter).take .sideRestored (some l) none
                    (BitVec.ofNat 16 (min ((p.now - (p.side l.side).lostSince) / 1000) 65535)) p.timeCounter
                else p.log.take .laneUp (some l) none 1 p.timeCounter))))

/-- LINK_LOSS takes a lane in TRAINING to HELD to DOWN, empties its queue, starts the hold-down and the suspect
window, and forces the figure of a lane in service to 1023; elsewhere it is only counted. A lane lost from service
sets its last loss time, and with its sibling out of service its side is LOST since now, which logs SIDE_LOST with the
whole milliseconds since the sibling's last loss, FFFFh without one (R66, R80, R82, R103, R104, R105). -/
def Obligations.LinkLossTakesDown : Prop :=
  ∀ (p : Machine.Part) (w : List Instr) (l : Lane), p.unwatched →
    ∃ p', exec (.linkLoss l) ⟨p, w⟩ = .next ⟨p', w⟩ ∧ p'.completions = p.completions ∧ p'.intake = p.intake ∧
      p'.counter (.lane l .linkLosses) = p.counter (.lane l .linkLosses) + 1 ∧
      ((p.lane l).state ∈ [LaneState.off, .quiet, .down] →
        p'.lanes = p.lanes ∧ p'.engine = p.engine ∧ p'.log = p.log ∧ p'.sides = p.sides) ∧
      ((p.lane l).state ∈ [LaneState.training, .qualify, .active, .degraded, .held] →
        (p'.lane l).state = .down ∧ (p'.lane l).queue = [] ∧ (p'.lane l).checker = none ∧
        (p'.lane l).timers = { Timers.stopped with holdDown := some (p.now + p.params.holdDown * 10000) } ∧
        (p'.lane l).figure = (if (p.lane l).state = .active ∨ (p.lane l).state = .degraded then 1023
          else (p.lane l).figure) ∧
        (p'.side l.side).suspectUntil = (if p.params.suspectWindow = 0 then none
          else some (p.now + p.params.suspectWindow * 1000)) ∧
        p'.counter (.lane l .downEntries) = p.counter (.lane l .downEntries) + 1 ∧
        (∀ m, m ≠ l → (p'.lane m).state = (p.lane m).state ∧ p'.lastLoss m = p.lastLoss m) ∧
        ((p.lane l).state ≠ .active → (p.lane l).state ≠ .degraded → p'.lastLoss l = p.lastLoss l) ∧
        ((p.lane l).state = .active ∨ (p.lane l).state = .degraded →
          p'.lastLoss l = some p.now ∧
          (p'.side l.side).state =
            (if (p.lane l.sibling).state = .active ∨ (p.lane l.sibling).state = .degraded then .impaired else .lost) ∧
          ((p'.side l.side).state = .lost → (p.side l.side).state ≠ .lost →
            (p'.side l.side).lostSince = p.now ∧ ((∀ n, (p.stream n).carrier ≠ some l) →
              p'.log = (p.log.take .laneDown (some l) none 0x0100 p.timeCounter).take .sideLost (some l) none
                (match p.lastLoss l.sibling with
                  | some t => BitVec.ofNat 16 (min ((p.now - t) / 1000) 65535)
                  | none => 0xFFFF) p.timeCounter)) ∧
          ((p'.side l.side).state ≠ .lost ∨ (p.side l.side).state = .lost →
            (p'.side l.side).lostSince = (p.side l.side).lostSince ∧ ((∀ n, (p.stream n).carrier ≠ some l) →
              (p'.side l.side).state = .impaired → (p.side l.side).state ≠ .lost →
              p'.log = p.log.take .laneDown (some l) none 0x0100 p.timeCounter))))

/-- A lane that loses its line in service takes every stream it carries into failover: each opens a new epoch on
another lane, or stalls where none is eligible, with its entries queued again and its held requests kept; no other
stream changes but for its return timer (R66, R114, R115, R125, R141). -/
def Obligations.LinkLossFailsOver : Prop :=
  ∀ (p : Machine.Part) (w : List Instr) (l : Lane), (p.lane l).state = .active ∨ (p.lane l).state = .degraded →
    ∃ p', exec (.linkLoss l) ⟨p, w⟩ = .next ⟨p', w⟩ ∧
      (∀ n, (p.stream n).carrier = some l →
        ((p'.stream n).state = .binding ∧ (∃ m, m ≠ l ∧ (p'.stream n).carrier = some m ∧
            ((p.lane m).state = .active ∨ (p.lane m).state = .degraded) ∧ (p.lane m).pin ≠ .out ∧
            (p.lane m).partnerLeaving = false ∧ (p.lane m).restartPending = false) ∨
         (p'.stream n).state = .stalled ∧ (p'.stream n).carrier = none ∧ (p'.stream n).stallDeadline ≠ none) ∧
        (p'.stream n).epoch = (p.stream n).epoch + 1 ∧ (p'.stream n).nextSeq = (p.stream n).nextSeq ∧
        (p'.stream n).mark = (p.stream n).mark ∧ (p'.stream n).hold = (p.stream n).hold ∧
        (p'.stream n).inflight =
          (p.stream n).inflight.map (fun x => { x with phase := .queued, deadline := none })) ∧
      (∀ n, (p.stream n).carrier ≠ some l →
        { p'.stream n with returnTimer := none } = { p.stream n with returnTimer := none })

/-! ### Timers and reports (chapters 4 and 5) -/

/-- The beat timer places one BEAT with the partner state announced, the probe timer a PROBE and restarts at 100 ms,
the pause ends, the storm period starts afresh with a count of 0, a suspect mark goes, and the page timer sends the
current page again up to eight times before training ends in QUIET. A silence expiry restarts the timer and weighs 128
in ACTIVE and DEGRADED, where the thresholds judge it, or takes QUALIFY and HELD to DOWN; the held timer starts a new
burst in QUALIFY; the hold-down ends in QUIET with a PROBE (R69, R70, R71, R74, R76, R78, R81, R82, R94, R105). The
time an expiry reaches is the model's choice (log entry 3: DESIGN CHOICE). That a BEAT's partner state is fixed as it
is placed in the queue is its inference (log entry 39: DEDUCED), as is that a page sent again carries toggle and own
ack whichever its kind (log entry 22: DEDUCED). -/
def Obligations.LaneTimersAct : Prop :=
  ∀ (p : Machine.Part) (w : List Instr) (l : Lane) (t : Nat),
    ((p.lane l).timers.beat = some t → ∃ p' f, exec (.beatTimerExpiry l) ⟨p, w⟩ = .next ⟨p', w⟩ ∧
      p'.lane l = { p.lane l with queue := (p.lane l).queue ++ [f],
                                  timers := { (p.lane l).timers with beat := none } } ∧ f.kind = .beat ∧
      f.header.partner = (if (p.lane l).pin = .out ∨ (p.lane l).restartPending = true then .offline else .ok) ∧
      (∀ m, m ≠ l → p'.lane m = p.lane m) ∧ p'.engine = p.engine ∧ p'.log = p.log ∧ p'.now = max p.now t) ∧
    ((p.lane l).timers.probe = some t → ∃ p' f, exec (.probeTimerExpiry l) ⟨p, w⟩ = .next ⟨p', w⟩ ∧
      p'.lane l = { p.lane l with queue := (p.lane l).queue ++ [f],
                                  timers := { (p.lane l).timers with probe := some (max p.now t + 100000) } } ∧
      f.kind = .probe ∧ f.payload = [] ∧ (∀ m, m ≠ l → p'.lane m = p.lane m) ∧ p'.engine = p.engine ∧
      p'.log = p.log) ∧
    ((p.lane l).timers.pause = some t → ∃ p', exec (.pauseExpiry l) ⟨p, w⟩ = .next ⟨p', w⟩ ∧
      p'.lane l = { p.lane l with timers := { (p.lane l).timers with pause := none } } ∧
      (∀ m, m ≠ l → p'.lane m = p.lane m) ∧ p'.engine = p.engine ∧ p'.log = p.log) ∧
    ((p.lane l).timers.storm = some t → ∃ p', exec (.stormPeriodExpiry l) ⟨p, w⟩ = .next ⟨p', w⟩ ∧
      p'.lane l = { p.lane l with storm := 0,
                                  timers := { (p.lane l).timers with storm := some (max p.now t + 100000) } } ∧
      (∀ m, m ≠ l → p'.lane m = p.lane m) ∧ p'.engine = p.engine ∧ p'.log = p.log) ∧
    ((p.lane l).timers.page = some t →
      ∃ p' f, exec (.pageTimerExpiry l) ⟨p, w⟩ = .next ⟨p', w⟩ ∧ p'.completions = p.completions ∧
        ((p.lane l).training.resends < 8 → p'.lane l = { p.lane l with
            queue := (p.lane l).queue ++ [f],
            training := { (p.lane l).training with resends := (p.lane l).training.resends + 1 },
            timers := { (p.lane l).timers with page := some (max p.now t + 10000) } } ∧
          f.kind = .page ∧ f.header.pageKind = (if (p.lane l).training.next then 1 else 0) ∧
          f.header.toggle = (p.lane l).training.toggle ∧ f.header.ack = (p.lane l).training.ownAck ∧
          (∀ m, m ≠ l → p'.lane m = p.lane m) ∧ p'.engine = p.engine ∧ p'.log = p.log) ∧
        (8 ≤ (p.lane l).training.resends → (p'.lane l).state = .quiet ∧ (p'.lane l).queue = [f] ∧
          f.kind = .probe ∧
          (p'.lane l).timers = { Timers.stopped with probe := some (max p.now t + 100000) })) ∧
    (∀ d, (p.side d).suspectUntil = some t → ∃ p', exec (.suspectExpiry d) ⟨p, w⟩ = .next ⟨p', w⟩ ∧
      p'.side d = { p.side d with suspectUntil := none } ∧ (∀ e, e ≠ d → p'.side e = p.side e) ∧
      p'.lanes = p.lanes ∧ p'.engine = p.engine ∧ p'.log = p.log) ∧
    ((p.lane l).timers.silence = some t → ∃ p', exec (.silenceTimerExpiry l) ⟨p, w⟩ = .next ⟨p', w⟩ ∧
      p'.counter (.lane l .silenceExpiries) = p.counter (.lane l .silenceExpiries) + 1 ∧
      p'.completions = p.completions ∧
      ((p.lane l).state = .qualify ∨ (p.lane l).state = .held → (p'.lane l).state = .down) ∧
      ((p.lane l).state = .active → p.params.ordered → (p.lane l).figure + 128 < p.params.warnLevel →
        p'.lane l = { p.lane l with
          figure := (p.lane l).figure + 128,
          timers := { (p.lane l).timers with
            silence := some (max p.now t + 2 * (p.params.beatInterval * 250)) } } ∧
        p'.engine = p.engine ∧ ∀ m, m ≠ l → p'.lane m = p.lane m) ∧
      ((p.lane l).state = .active ∨ (p.lane l).state = .degraded → (p.lane l).figure < 1023 →
        (p'.lane l).figure = min 1023 ((p.lane l).figure + 128) ∧
        ((p.lane l).pin ≠ .keep → (p'.lane l).state =
          thresholdState p.params (p.lane l).state (min 1023 ((p.lane l).figure + 128))))) ∧
    ((p.lane l).timers.held = some t → (p.lane l).state = .held →
      ∃ p' burst, exec (.heldTimerExpiry l) ⟨p, w⟩ = .next ⟨p', w⟩ ∧ (p'.lane l).state = .qualify ∧
        (p'.lane l).timers.held = none ∧ (p'.lane l).timers.silence = (p.lane l).timers.silence ∧
        (p'.lane l).timers.beat = (p.lane l).timers.beat ∧ (p'.lane l).errorBytes = 0 ∧
        (p'.lane l).checker = some ⟨.qualify, 256, 0, 0⟩ ∧ (p'.lane l).requalify = (p.lane l).requalify ∧
        (p'.lane l).queue = (p.lane l).queue ++ burst ∧ burst.map Frame.payload = burstPayloads 256) ∧
    ((p.lane l).timers.holdDown = some t → (p.lane l).state = .down →
      ∃ p' f, exec (.holdDownExpiry l) ⟨p, w⟩ = .next ⟨p', w⟩ ∧ (p'.lane l).state = .quiet ∧
        (p'.lane l).queue = [f] ∧ f.kind = .probe ∧ (p'.lane l).partnerLeaving = false ∧
        (p'.lane l).requalify = (p.lane l).requalify ∧ (p'.lane l).figure = (p.lane l).figure ∧
        (p'.lane l).timers = { Timers.stopped with probe := some (max p.now t + 100000) })

/-- The qualify timer's expiry adds 64 error bytes for each frame not compared and ends the burst: a
qualification is judged, and a diagnostic burst forms the DGPT response (R77, R164, R165). -/
def Obligations.QualifyTimerEnds : Prop :=
  ∀ (p : Machine.Part) (w : List Instr) (l : Lane) (t err : Nat) (b : Burst),
    (p.lane l).timers.qualify = some t → (p.lane l).checker = some b →
    err = min 255 ((p.lane l).errorBytes + 64 * (b.length - b.compared)) →
    ∃ p', exec (.qualifyTimerExpiry l) ⟨p, w⟩ = .next ⟨p', w⟩ ∧ (p'.lane l).checker = none ∧
      (p'.lane l).errorBytes = err ∧ (p'.lane l).timers.qualify = none ∧ p'.completions = p.completions ∧
      (b.owner = .qualify → (p.lane l).state = .qualify →
        (p.lane l).afterBurst p.params.qualTolerance err (p'.lane l)) ∧
      (b.owner = .diagnostic → p'.port.burst = none ∧ p'.port.status = 0#8 ∧
        p'.port.data = [BitVec.ofNat 8 err, BitVec.ofNat 8 (b.length / 256), BitVec.ofNat 8 b.length,
          BitVec.ofNat 8 (b.compared / 256), BitVec.ofNat 8 b.compared] ∧
        (p'.lane l).state = (p.lane l).state ∧ (p'.lane l).figure = (p.lane l).figure ∧ p'.log = p.log ∧
        p'.engine = p.engine)

/-- Each leak tick lowers every lane's figure by LEAK, not below 0, in every state, and a lowered figure is judged by
the thresholds: under KEEP only a DEGRADED lane's return to ACTIVE is left of them; the tick restarts at once (R86,
R93, R94). The lane order and the time the tick reaches are the model's choices (log entries 9 and 3: DESIGN
CHOICE). -/
def Obligations.LeakTickLowers : Prop :=
  ∀ (p : Machine.Part) (w : List Instr), ∃ p', exec .leakTick ⟨p, w⟩ = .next ⟨p', w⟩ ∧
    p'.leakAt = p.leakAt + 1000 ∧ p'.now = max p.now p.leakAt ∧ p'.completions = p.completions ∧
    ∀ l, (p'.lane l).figure = (p.lane l).figure - p.params.leak ∧
      ((p.lane l).figure = 0 ∨ p.params.leak = 0 → (p'.lane l).state = (p.lane l).state) ∧
      ((p.lane l).figure ≠ 0 → p.params.leak ≠ 0 → (p.lane l).pin ≠ .keep →
        (p'.lane l).state =
          thresholdState p.params (p.lane l).state ((p.lane l).figure - p.params.leak)) ∧
      ((p.lane l).figure ≠ 0 → p.params.leak ≠ 0 → (p.lane l).pin = .keep →
        (p'.lane l).state =
          if (p.lane l).state = .degraded ∧ (p.lane l).figure - p.params.leak < p.params.downLevel ∧
              (p.lane l).figure - p.params.leak ≤ p.params.clearLevel then .active
          else (p.lane l).state)

/-- A weight raises the figure of a lane in service, saturating at 1023, and the thresholds judge it at once;
under KEEP the move called for is suppressed and logged once; out of service the weight is discarded (R86, R90,
R91, R94). -/
def Obligations.ThresholdsDecide : Prop :=
  ∀ (p : Machine.Part) (w : List Instr) (l : Lane) (cause : ReportCause) (weight : Nat),
    weight = (match cause with | .sequenceBreak => 32 | .resumeTimeout => 64 | .deadlineMiss => 96) →
    ∃ p', exec (.distressWeight l cause) ⟨p, w⟩ = .next ⟨p', w⟩ ∧ p'.completions = p.completions ∧
      ((p.lane l).state ≠ .active → (p.lane l).state ≠ .degraded →
        p'.lanes = p.lanes ∧ p'.engine = p.engine ∧ p'.log = p.log) ∧
      ((p.lane l).figure = 1023 → p'.lanes = p.lanes ∧ p'.engine = p.engine ∧ p'.log = p.log) ∧
      ((p.lane l).state = .active ∨ (p.lane l).state = .degraded → (p.lane l).figure < 1023 →
        (p'.lane l).figure = min 1023 ((p.lane l).figure + weight) ∧
        ((p.lane l).pin ≠ .keep → (p'.lane l).state =
          thresholdState p.params (p.lane l).state (min 1023 ((p.lane l).figure + weight))) ∧
        ((p.lane l).pin = .keep →
          (p.params.downLevel ≤ min 1023 ((p.lane l).figure + weight) ∨
            (p.lane l).state = .active ∧ p.params.warnLevel ≤ min 1023 ((p.lane l).figure + weight)) →
          (p'.lane l).state = (p.lane l).state ∧ (p'.lane l).suppressed = true ∧ p'.engine = p.engine ∧
          p'.log = if (p.lane l).suppressed then p.log else
            p.log.take .pinSuppressed (some l) none
              (if p.params.downLevel ≤ min 1023 ((p.lane l).figure + weight) then 2 else 1) p.timeCounter))

/-- A storm report taken in service raises the storm rewind count; at STORM_REWINDS the lane enters HELD for
500 ms; in any other state it is discarded (R81). -/
def Obligations.StormReportsHold : Prop :=
  ∀ (p : Machine.Part) (w : List Instr) (l : Lane), p.unwatched →
    ∃ p', exec (.stormReport l) ⟨p, w⟩ = .next ⟨p', w⟩ ∧ p'.completions = p.completions ∧
      ((p.lane l).state ≠ .active → (p.lane l).state ≠ .degraded →
        p'.lanes = p.lanes ∧ p'.engine = p.engine ∧ p'.log = p.log) ∧
      ((p.lane l).state = .active ∨ (p.lane l).state = .degraded →
        (p'.lane l).storm = (p.lane l).storm + 1 ∧
        p'.counter (.lane l .stormReports) = p.counter (.lane l .stormReports) + 1 ∧
        ((p.lane l).storm + 1 < p.params.stormRewinds →
          p'.lane l = { p.lane l with storm := (p.lane l).storm + 1 } ∧ p'.engine = p.engine ∧ p'.log = p.log ∧
          ∀ m, m ≠ l → p'.lane m = p.lane m) ∧
        (p.params.stormRewinds ≤ (p.lane l).storm + 1 →
          (p'.lane l).state = .held ∧ (p'.lane l).timers.held = some (p.now + 500000) ∧
          (p'.lane l).timers.storm = none ∧ (p'.lane l).queue = [] ∧
          ∀ n, (p'.stream n).carrier ≠ some l))

/-- The smoothed latency moves by an eighth of the difference, truncated toward zero, stays between its old value
and the sample, does not move within 7 µs, and falls from 100 to 7 and no lower under samples of 0 (R99). -/
def Obligations.SmoothedLatency : Prop :=
  (∀ (p : Machine.Part) (w : List Instr) (l : Lane) (us : BitVec 16),
    (p.lane l).state = .active ∨ (p.lane l).state = .degraded →
    ∃ p', exec (.latencySample l us) ⟨p, w⟩ = .next ⟨p', w⟩ ∧
      ((p'.lane l).latency : Int) =
        ((p.lane l).latency : Int) + Int.tdiv ((us.toNat : Int) - ((p.lane l).latency : Int)) 8 ∧
      min (p.lane l).latency us.toNat ≤ (p'.lane l).latency ∧
      (p'.lane l).latency ≤ max (p.lane l).latency us.toNat ∧
      ((p.lane l).latency ≤ 65535 → (p'.lane l).latency ≤ 65535) ∧
      (us.toNat ≤ (p.lane l).latency + 7 → (p.lane l).latency ≤ us.toNat + 7 →
        (p'.lane l).latency = (p.lane l).latency) ∧
      p'.lane l = { p.lane l with latency := (p'.lane l).latency } ∧
      (∀ m, m ≠ l → p'.lane m = p.lane m) ∧ p'.engine = p.engine) ∧
  (∃ k, (fun s => smooth s 0)^[k] 100 = 7) ∧ ∀ k, 7 ≤ (fun s => smooth s 0)^[k] 100

/-! ### Streams (chapters 7 and 8) -/

/-- An ASK attempt expiry hands RESUME_TIMEOUT to the carrier; below three attempts the ASK goes out again on the same
lane and epoch; at the third the lane joins the tried set and the stream chooses again with the lanes of the binding
it replaces, but in the final binding of a MANUAL move with the move's target distinguished (R108, R110, R116, R138).
That a choice made again which itself makes the binding the final one still takes the lanes of the binding it replaces
is the model's inference (log entry 41: DEDUCED). -/
def Obligations.AskAttempts : Prop :=
  ∀ (p : Machine.Part) (w : List Instr) (n : StreamId) (l : Lane) (t : Nat), p.settled →
    (p.stream n).askTimer = some t → (p.stream n).carrier = some l →
    ∃ p', exec (.askAttemptExpiry n) ⟨p, w⟩ = .next ⟨p', w⟩ ∧ (p'.stream n).askTimer = none ∧
      p'.reports = p.reports ++ [.weight l .resumeTimeout] ∧ p'.completions = p.completions ∧
      (p'.stream n).hold = (p.stream n).hold ∧ (p'.stream n).mark = (p.stream n).mark ∧
      (∀ m, m ≠ n → p'.stream m = p.stream m) ∧
      ((p.stream n).askAttempts < 3 → ∃ f,
        (p'.stream n).askAttempts = (p.stream n).askAttempts + 1 ∧ (p'.stream n).carrier = some l ∧
        (p'.stream n).epoch = (p.stream n).epoch ∧ (p'.stream n).state = (p.stream n).state ∧
        (p'.lane l).queue = (p.lane l).queue ++ [f] ∧ f.kind = .ask ∧
        f.header.epoch = (p.stream n).epoch ∧ f.header.seq = (p.stream n).nextSeq) ∧
      (3 ≤ (p.stream n).askAttempts →
        (p'.stream n).tried.has l = true ∧ (p'.stream n).epoch = (p.stream n).epoch + 1 ∧
        ((p'.stream n).state = .binding ∧ (p'.stream n).askAttempts = 1 ∧
            (∃ m, m ≠ l ∧ (p'.stream n).carrier = some m) ∨
          (p'.stream n).state = .stalled ∧ (p'.stream n).askAttempts = 0 ∧ (p'.stream n).carrier = none) ∧
        ((∀ m, (p.stream n).move = some m → m.cause ≠ .manual ∨ m.drain ≠ .absent) →
          (p'.stream n).carrier =
            p.choose (p.stream n).preferred ((p.stream n).tried.add l) (p.stream n).binding) ∧
        ∀ m, (p.stream n).move = some m → m.cause = .manual → m.drain = .absent →
          (p'.stream n).carrier = p.choose (p.stream n).preferred ((p.stream n).tried.add l)
            ⟨m.target, (p.stream n).binding.excluded⟩ ∧
          ∀ g, m.target = some g → g ≠ l →
            p.eligible (p.stream n).tried (p.stream n).binding.excluded g = true →
            (p'.stream n).state = .binding ∧ (p'.stream n).carrier = some g ∧ (p'.stream n).move = some m)

/-- A stall deadline's expiry gives up what the stream holds, in order, empties it and leaves it IDLE with its
epoch, next sequence and write rejections seen kept. It logs OUTCOME_UNKNOWN for each SWAP that had left, one
WRITE_FATE_UNKNOWN with the number of WRITEs that had, one WRITES_DROPPED with that of the others, and then
STREAM_PATH_LOST with the number of completions handed over (R127, R128). The time an expiry reaches, with which these
entries are stamped, is the model's choice (log entry 3: DESIGN CHOICE). -/
def Obligations.StallExpires : Prop :=
  ∀ (p : Machine.Part) (w : List Instr) (n : StreamId) (t : Nat), (p.stream n).stallDeadline = some t →
    ∃ p', exec (.stallDeadlineExpiry n) ⟨p, w⟩ = .next ⟨p', w⟩ ∧
      p'.completions = p.completions ++ (p.stream n).givenUp ∧ (p'.stream n).state = .idle ∧
      (p'.stream n).inflight = [] ∧ (p'.stream n).hold = [] ∧ (p'.stream n).carrier = none ∧
      (p'.stream n).mark = none ∧ (p'.stream n).recallDepth = none ∧ (p'.stream n).swapLimit = 16 ∧
      (p'.stream n).askAttempts = 0 ∧ (∀ l, (p'.stream n).tried.has l = false) ∧
      (p'.stream n).stallDeadline = none ∧ (p'.stream n).move = none ∧
      (p'.stream n).epoch = (p.stream n).epoch ∧ (p'.stream n).nextSeq = (p.stream n).nextSeq ∧
      (p'.stream n).rejections = (p.stream n).rejections ∧
      (∀ l, ∀ f ∈ (p'.lane l).queue, f.isOf n = false) ∧
      (p.unwatched → p.settled → ∀ time, time = BitVec.ofNat 32 (max p.now t) →
        p'.log = ((p.stream n).disposalLog n none time p.log).take .streamPathLost none (some n)
          (BitVec.ofNat 16 (min (p.stream n).givenUp.length 65535)) time)

/-- Planned moves. The return timer's expiry starts a RETURN move to the preferred lane: a stream with entries in
flight drains; one with none binds at once, there when that lane is eligible, and otherwise on another lane or in
STALLED. A drain that runs out: a MANUAL or RETURN move is abandoned, the stream is BOUND again on its carrier and
epoch, dispatches what it held in order as far as it can, and its return timer runs at its full length exactly when
R141's conditions hold; a LEAVING move is forced, and the stream binds elsewhere or stalls with its entries queued
again (R27, R131, R132, R135, R136, R137, R138, R141, R142). The time an expiry reaches is the model's choice (log
entry 3: DESIGN CHOICE). -/
def Obligations.PlannedMovesRun : Prop :=
  (∀ (p : Machine.Part) (w : List Instr) (n : StreamId) (l : Lane) (t : Nat),
    p.settled → (p.stream n).returnTimer = some t → (p.stream n).carrier = some l →
    ∃ p', exec (.returnTimerExpiry n) ⟨p, w⟩ = .next ⟨p', w⟩ ∧ (p'.stream n).returnTimer = none ∧
      (p'.stream n).hold = (p.stream n).hold ∧ (∀ k, k ≠ n → p'.stream k = p.stream k) ∧
      p'.completions = p.completions ∧
      ((p.stream n).inflight ≠ [] → (p'.stream n).state = .draining ∧ (p'.stream n).carrier = some l ∧
        (p'.stream n).epoch = (p.stream n).epoch ∧ (p'.stream n).inflight = (p.stream n).inflight ∧
        (p'.stream n).move = some ⟨some (p.stream n).preferred, .returning,
          .running (max p.now t + p.params.drainLimit * 1000), l⟩ ∧ p'.lanes = p.lanes) ∧
      ((p.stream n).inflight = [] → (p'.stream n).epoch = (p.stream n).epoch + 1 ∧
        (p.eligible (p.stream n).tried none (p.stream n).preferred = true →
          (p'.stream n).state = .binding ∧ (p'.stream n).carrier = some (p.stream n).preferred ∧
          (p'.stream n).askAttempts = 1) ∧
        (p.eligible (p.stream n).tried none (p.stream n).preferred = false →
          (p'.stream n).state = .binding ∧ (∃ g, g ≠ (p.stream n).preferred ∧ (p'.stream n).carrier = some g) ∨
          (p'.stream n).state = .stalled ∧ (p'.stream n).carrier = none ∧ (p'.stream n).move = none))) ∧
  ∀ (p : Machine.Part) (w : List Instr) (n : StreamId) (l : Lane) (m : Move) (t : Nat),
    p.settled → (p.stream n).state = .draining → (p.stream n).carrier = some l →
    (p.stream n).move = some m → m.drain = .running t →
    (m.cause ≠ .leaving → (p.lane l).leaving = false → ∃ p',
      exec (.moveAbandoned n) ⟨p, w⟩ = .next ⟨p', w⟩ ∧ (p'.stream n).state = .bound ∧
      (p'.stream n).move = none ∧ (p'.stream n).carrier = some l ∧
      (p'.stream n).epoch = (p.stream n).epoch ∧ (p'.stream n).mark = (p.stream n).mark ∧
      (p.stream n).dispatchedTo (p'.stream n) ∧
      ((p.stream n).hold.length ≤ 64 → p'.dispatchStops n) ∧
      (p.unwatched ∨ p.noneHeld → p'.log = p.log.take .moveAbandoned (some l) (some n)
        (bytePair (match m.target with | some g => g.code | none => 255) l.code)
        (BitVec.ofNat 32 (max p.now t))) ∧
      (p'.stream n).returnTimer =
        (if (p.stream n).policy = .returning ∧ l ≠ (p.stream n).preferred ∧
            (p.lane (p.stream n).preferred).state = .active ∧
            (p.lane (p.stream n).preferred).leaving = false then
          some ((p.stream n).returnTimer.getD (max p.now t + p.params.returnDelay * 1000000))
        else none) ∧
      (∀ k, (p'.lane k).state = (p.lane k).state) ∧ p'.completions = p.completions ∧
      (p.noneHeld → p'.lanes = p.lanes ∧ ∀ k, k ≠ n → p'.stream k = p.stream k)) ∧
    (m.cause = .leaving → ∃ p', exec (.moveForced n) ⟨p, w⟩ = .next ⟨p', w⟩ ∧
      ((p'.stream n).state = .binding ∧ (∃ g, g ≠ m.left ∧ (p'.stream n).carrier = some g) ∧
          (p'.stream n).move = some { m with drain := .absent } ∨
        (p'.stream n).state = .stalled ∧ (p'.stream n).carrier = none ∧ (p'.stream n).move = none) ∧
      (p'.stream n).epoch = (p.stream n).epoch + 1 ∧ (p'.stream n).hold = (p.stream n).hold ∧
      (p'.stream n).inflight =
        (p.stream n).inflight.map (fun x => { x with phase := .queued, deadline := none }) ∧
      p'.completions = p.completions ∧ ∀ k, k ≠ n → p'.stream k = p.stream k)

/-- The choice of carrier lane: the distinguished lane when it is eligible, and otherwise the eligible lane that
stands first in the ranking; none exactly when no lane is eligible (R109, R111). -/
def Obligations.CarrierChoiceRanks : Prop :=
  ∀ (p : Machine.Part) (preferred : Lane) (tried : LaneSet) (d excluded : Option Lane),
    (∀ m, p.eligible tried excluded m = true ↔
      (((p.lane m).state = .active ∨ (p.lane m).state = .degraded) ∧ (p.lane m).pin ≠ .out ∧
        (p.lane m).partnerLeaving = false ∧ (p.lane m).restartPending = false ∧ tried.has m = false ∧
        excluded ≠ some m)) ∧
    match p.choose preferred tried ⟨d, excluded⟩ with
    | none => ∀ m, p.eligible tried excluded m = false
    | some l => p.eligible tried excluded l = true ∧
      (d = some l ∨ ((∀ g, d = some g → p.eligible tried excluded g = false) ∧
        ∀ m, p.eligible tried excluded m = true →
          p.carrierRank preferred l ≤ p.carrierRank preferred m)) ∧
      ∀ g, d = some g → p.eligible tried excluded g = true → l = g

/-! ### Integrity patrol (chapter 11) -/

/-- What a checked read does, by the patrol or in ordinary use: nothing is checked in INIT; the patrol's own read is
marked in its pass, and that is all a clean one does; corrected is counted; an uncorrectable block in use keeps the
bytes as read and poisons its owner, a free one is rewritten with zeros; an uncorrectable stream record or OTT entry
faults its stream, gives up what it holds, logs the fates and restricts the part, and a record keeps the epoch, next
sequence and write rejections as read (R128, R129, R166, R167, R168, R170, R172). That the failure is noted for the
pass whichever read found it is the model's choice (log entry 63: DESIGN CHOICE), as is the carrier that
STREAM_FAULTED names when the record has failed (log entry 54: DESIGN CHOICE). That a patrol read is marked item by
item is the model's choice (log entry 15: DESIGN CHOICE), as is that a finding in ordinary use is an event of its own,
which marks no item (log entry 6: DESIGN CHOICE), and that the node is kept is its inference (log entry 36: DEDUCED).
-/
def Obligations.PatrolChecks : Prop :=
  (∀ (p : Machine.Part) (w : List Instr) (read : PatrolRead), p.intake.service = .init →
    exec (.patrolCheck read) ⟨p, w⟩ = .next ⟨p, w⟩) ∧
  ∀ (p : Machine.Part) (w : List Instr) (by_ : Reader), p.unwatched → p.intake.service = .running →
    (∀ check item, ((∃ n, check = .record n .clean ∧ item = n.val) ∨
        (∃ i, check = .entry i .clean ∧ item = 64 + i.val) ∨ (∃ b, check = .block b .clean ∧ item = 320 + b.val)) →
      ∃ p', exec (.patrolCheck ⟨by_, check⟩) ⟨p, w⟩ = .next ⟨p', w⟩ ∧
        p' = { p with patrol := { p.patrol with read := p'.patrol.read } } ∧
        ∀ k, p'.patrol.read.getLsbD k = (p.patrol.read.getLsbD k || (by_ == .patrol && k == item))) ∧
    (∀ check, (∃ n, check = .record n .corrected) ∨ (∃ i, check = .entry i .corrected) ∨
        (∃ b, check = .block b .corrected) → ∃ p', exec (.patrolCheck ⟨by_, check⟩) ⟨p, w⟩ = .next ⟨p', w⟩ ∧
      p'.counter (.part .correctedChecks) = p.counter (.part .correctedChecks) + 1 ∧ p'.engine = p.engine ∧
      p'.lanes = p.lanes ∧ p'.log = p.log ∧ p'.intake = p.intake) ∧
    (∀ n epoch nextSeq rejections, (p.stream n).state ≠ .faulted → ∃ p',
      exec (.patrolCheck ⟨by_, .record n (.uncorrectable epoch nextSeq rejections)⟩) ⟨p, w⟩ = .next ⟨p', w⟩ ∧
      (p'.stream n).state = .faulted ∧ (p'.stream n).epoch = epoch ∧ (p'.stream n).nextSeq = nextSeq ∧
      (p'.stream n).rejections = rejections ∧ (p'.stream n).inflight = [] ∧ (p'.stream n).hold = [] ∧
      (p'.stream n).node = (p.stream n).node ∧ p'.completions = p.completions ++ (p.stream n).givenUp ∧
      p'.intake.service = .restricted ∧ p'.patrol.failed = true ∧
      (p.intake.tally = none → p.settled → p'.log =
        ((p.stream n).disposalLog n none p.timeCounter (p.log.take .streamFaulted (p.stream n).carrier (some n) 5
          p.timeCounter)).take .restrictedEntered none (some n) 0x0100 p.timeCounter)) ∧
    (∀ i e n, p.findEntry i = some e → n = e.fate.stream → (p.stream n).state ≠ .faulted → ∃ p',
      exec (.patrolCheck ⟨by_, .entry i .uncorrectable⟩) ⟨p, w⟩ = .next ⟨p', w⟩ ∧
      (p'.stream n).state = .faulted ∧ (p'.stream n).inflight = [] ∧ (p'.stream n).hold = [] ∧
      p'.intake.service = .restricted ∧ p'.patrol.failed = true ∧
      ((∀ x ∈ (p.stream n).inflight, x.agrees n) → p'.completions = p.completions ++ (p.stream n).givenUp ∧
        (p.intake.tally = none → p.settled → p'.log =
          ((p.stream n).disposalLog n (some i) p.timeCounter (p.log.take .streamFaulted (p.stream n).carrier (some n) 5
            p.timeCounter)).take .restrictedEntered none (some n) (bytePair 2 i.val) p.timeCounter))) ∧
    (∀ b asRead, ∃ p', exec (.patrolCheck ⟨by_, .block b (.uncorrectable asRead)⟩) ⟨p, w⟩ = .next ⟨p', w⟩ ∧
      p'.intake = p.intake ∧ p'.lanes = p.lanes ∧ p'.completions = p.completions ∧
      (p.engine.buffer.wf = true → ∀ c, c ≠ b → p'.engine.buffer.block c = p.engine.buffer.block c) ∧
      (p.engine.buffer.wf = true → asRead.length = 64 → p'.engine.buffer.block b =
        if p.engine.owners.get b = none then List.replicate 64 0#8 else asRead) ∧
      (p.engine.owners.get b = none → p'.log = p.log ∧ ∀ n, p'.stream n = p.stream n) ∧
      (∀ i e, p.engine.owners.get b = some (.entry i) → p.findEntry i = some e → e.poisoned = false →
        (p'.stream e.stream).inflight = (p.stream e.stream).inflight.map (fun x =>
          if x.index = i then { x with poisoned := true } else x) ∧
        p'.log = p.log.take .poisoned none (some e.stream) (e.seq.setWidth 16) p.timeCounter) ∧
      ∀ i h, p.engine.owners.get b = some (.slot i) → p.findHeld i = some h → h.work.poisoned = false →
        (p'.stream h.stream).hold = (p.stream h.stream).hold.map (fun x =>
          if x.slot = i then { x with work := { x.work with poisoned := true } } else x) ∧
        p'.log = p.log.take .poisoned none (some h.stream) 0xFFFF p.timeCounter)

/-! ### Management commands (chapter 12) -/

/-- The commands that only read answer OK with the data of their format and change nothing else: IDNT, STAT's counts,
RTRD's route, the lengths of LNRD and SMRD, PMRD's value, EVPK's oldest entry (R151, R176 to R181). SMRD's read is a
checked one: a corrected record is counted and returned, and an uncorrectable one takes the control-state failure and
returns the record as that rewrites it (R166, R170, R178). -/
def Obligations.ReadsAnswer : Prop :=
  ∀ (p : Machine.Part) (w : List Instr), p.port.burst = none →
    (∀ c data, (c = .idnt ∧ data = [0x7A#8, 0x4E#8, 0x0F#8, 0x24#8, 0x03#8, 0x04#8] ∨
        (∃ id held width low high, c = .pmrd id ∧ 1 ≤ id.toNat ∧
          p.params.table[id.toNat - 1]? = some (held, width, low, high) ∧ data = toBigEndian width held) ∨
        (∃ (b : Byte) (i : RouteIx) (r : Route), c = .rtrd b ∧ b.toNat = i.val ∧ p.intake.routes.get i = r ∧
          data = if r.valid then
              [0x01#8] ++ toBigEndian 6 r.base.toNat ++ toBigEndian 5 r.units ++ toBigEndian 6 r.target.toNat
                ++ toBigEndian 2 r.node.toNat ++ [BitVec.ofNat 8 r.stream.val, BitVec.ofNat 8 r.preferred.code,
                  (if r.policy = .returning then 0x01#8 else 0x00#8),
                  (if r.access = .readOnly then 0x01#8 else 0x00#8)]
            else List.replicate 24 0#8) ∨
        (c = .evpk ∧ p.log.entries = [] ∧ data = [0x00#8, p.logFlags]) ∨
        (∃ e rest, c = .evpk ∧ p.log.entries = e :: rest ∧ data =
          [0x01#8, p.logFlags] ++ toBigEndian 2 e.number.toNat
            ++ [BitVec.ofNat 8 e.kind.code, (match e.lane with | some l => BitVec.ofNat 8 l.code | none => 0xFF#8),
              (match e.stream with | some n => BitVec.ofNat 8 n.val | none => 0xFF#8)]
            ++ toBigEndian 2 e.detail.toNat ++ [BitVec.ofNat 8 e.repeats] ++ toBigEndian 4 e.time.toNat)) →
      ∃ p', exec c ⟨p, w⟩ = .next ⟨p', w⟩ ∧ p.sameButResponse p' ∧ p'.port.status = 0#8 ∧ p'.port.data = data) ∧
    (∃ p', exec .stat ⟨p, w⟩ = .next ⟨p', w⟩ ∧ p.sameButResponse p' ∧ p'.port.status = 0#8 ∧
      p'.port.data.length = 20 ∧
      p'.port.data.getD 0 0 = (match p.intake.service with
        | .init => 0#8 | .running => 1#8 | .quiescing => 2#8 | .quiesced => 3#8 | .restricted => 4#8) ∧
      p'.port.data.getD 1 0 = p.logFlags ∧ p'.port.data.getD 2 0 = BitVec.ofNat 8 p.log.overflow ∧
      p'.port.data.getD 5 0 = BitVec.ofNat 8 p.intake.queue.length ∧
      (p'.port.data.drop 6).take 2 =
        toBigEndian 2 (allStreams.map (fun n => (p.stream n).inflight.length)).sum ∧
      p'.port.data.getD 8 0 = BitVec.ofNat 8 (allStreams.map (fun n => (p.stream n).hold.length)).sum ∧
      (p'.port.data.drop 12).take 4 = toBigEndian 4 (p.now % 2 ^ 32)) ∧
    (∀ l : Lane, ∃ p', exec (.lnrd (BitVec.ofNat 8 l.code)) ⟨p, w⟩ = .next ⟨p', w⟩ ∧ p.sameButResponse p' ∧
      p'.port.status = 0#8 ∧ p'.port.data.length = 22 ∧ p'.port.data.getD 0 0 = BitVec.ofNat 8 l.code ∧
      p'.port.data.getD 1 0 = BitVec.ofNat 8 (p.lane l).state.code ∧
      (p'.port.data.drop 5).take 4 = toBigEndian 2 (p.lane l).figure ++ toBigEndian 2 (p.lane l).latency) ∧
    ∀ n : StreamId,
      (∃ p', exec (.smrd (BitVec.ofNat 8 n.val) .clean) ⟨p, w⟩ = .next ⟨p', w⟩ ∧ p.sameButResponse p' ∧
        p'.port.status = 0#8 ∧ p'.port.data.length = 27 ∧ p'.port.data.getD 0 0 = BitVec.ofNat 8 n.val ∧
        p'.port.data.getD 1 0 = BitVec.ofNat 8 (p.stream n).state.code ∧
        (p'.port.data.drop 7).take 3 =
          [BitVec.ofNat 8 (p.stream n).epoch.toNat] ++ toBigEndian 2 (p.stream n).nextSeq.toNat) ∧
      (p.intake.service ≠ .init → ∃ p', exec (.smrd (BitVec.ofNat 8 n.val) .corrected) ⟨p, w⟩ = .next ⟨p', w⟩ ∧
        p'.counter (.part .correctedChecks) = p.counter (.part .correctedChecks) + 1 ∧ p'.engine = p.engine ∧
        p'.lanes = p.lanes ∧ p'.intake = p.intake ∧ p'.port.status = 0#8 ∧
        p'.port.data = (p.stream n).bytes n p.now) ∧
      ∀ epoch nextSeq rejections, p.intake.service = .running → (p.stream n).state ≠ .faulted → ∃ p',
        exec (.smrd (BitVec.ofNat 8 n.val) (.uncorrectable epoch nextSeq rejections)) ⟨p, w⟩ = .next ⟨p', w⟩ ∧
        (p'.stream n).state = .faulted ∧ (p'.stream n).epoch = epoch ∧ (p'.stream n).nextSeq = nextSeq ∧
        (p'.stream n).rejections = rejections ∧ (p'.stream n).inflight = [] ∧ (p'.stream n).hold = [] ∧
        p'.completions = p.completions ++ (p.stream n).givenUp ∧ p'.intake.service = .restricted ∧
        p'.port.status = 0#8 ∧ p'.port.data.length = 27 ∧ p'.port.data.getD 1 0 = 0x06#8 ∧
        (p'.port.data.drop 7).take 3 = [BitVec.ofNat 8 epoch.toNat] ++ toBigEndian 2 nextSeq.toNat

/-- RTWR and RTCL: the operands of R12's table, then INIT, a busy stream, a conflict, and otherwise the entry is
written, field by field from its operands, or cleared. A stream that its last route leaves BOUND and empty goes to IDLE
with carrier, mark and recall depth absent, as does a BOUND and empty one whose node the write changes; every other
keeps its state and these fields (R12, R13, R14). -/
def Obligations.RouteCommandsJudged : Prop :=
  (∀ (p : Machine.Part) (w : List Instr) (index : Byte), p.port.burst = none → 32 ≤ index.toNat →
    ∀ c, (c = .rtcl index ∨ c = .rtrd index ∨ ∃ b u t n s l o a, c = .rtwr index b u t n s l o a) →
      ∃ p', exec c ⟨p, w⟩ = .next ⟨p', w⟩ ∧ p'.port.status = 0x11#8 ∧ p'.port.data = [] ∧ p.sameButResponse p') ∧
  ∀ (p : Machine.Part) (w : List Instr) (index : Byte) (ix : RouteIx), p.port.burst = none →
    ix.val = index.toNat →
    (∀ (base : BitVec 48) (units : BitVec 40) (target : BitVec 48) (node : BitVec 16)
      (stream preferred policy access : Byte), ∃ p',
      exec (.rtwr index base units target node stream preferred policy access) ⟨p, w⟩ = .next ⟨p', w⟩ ∧
      p'.port.data = [] ∧ p'.lanes = p.lanes ∧ p'.log = p.log ∧
      if ¬(stream.toNat < 64 ∧ preferred.toNat < 4 ∧ policy.toNat < 2 ∧ access.toNat < 2 ∧
          base.toNat % 4096 = 0 ∧ target.toNat % 4096 = 0 ∧ 1 ≤ units.toNat ∧ units.toNat ≤ 2 ^ 36 ∧
          node.toNat ≤ 4095 ∧ base.toNat + units.toNat * 4096 ≤ 2 ^ 48 ∧
          target.toNat + units.toNat * 4096 ≤ 2 ^ 48) then p'.port.status = 0x11#8 ∧ p.sameButResponse p'
      else ∀ r : Route, r.valid = true → r.base = base → r.units = units.toNat → r.target = target →
          r.node.toNat = node.toNat → r.stream.val = stream.toNat → r.preferred.code = preferred.toNat →
          r.policy = (if policy = 1 then .returning else .sticky) →
          r.access = (if access = 1 then .readOnly else .readWrite) →
        let old := p.intake.routes.get ix
        if p.intake.service = .init then p'.port.status = 0x14#8 ∧ p.sameButResponse p'
        else if old.valid = true ∧ (p.stream old.stream).busy = true ∧ old ≠ r then
          p'.port.status = 0x12#8 ∧ p.sameButResponse p'
        else if ∃ k, k ≠ ix ∧ (p.intake.routes.get k).valid = true ∧ (p.intake.routes.get k).stream = r.stream ∧
            ((p.intake.routes.get k).node ≠ r.node ∨ (p.intake.routes.get k).preferred ≠ r.preferred ∨
              (p.intake.routes.get k).policy ≠ r.policy) then
          p'.port.status = 0x13#8 ∧ p.sameButResponse p'
        else p'.port.status = 0x00#8 ∧ p'.intake.routes.get ix = r ∧
          (∀ k, k ≠ ix → p'.intake.routes.get k = p.intake.routes.get k) ∧
          (old = r → p.sameButResponse p') ∧
          (old ≠ r → (p'.stream r.stream).node = r.node ∧ (p'.stream r.stream).preferred = r.preferred ∧
            (p'.stream r.stream).policy = r.policy ∧
            (∀ n, n ≠ r.stream → (p'.stream n).node = (p.stream n).node ∧
              (p'.stream n).preferred = (p.stream n).preferred ∧ (p'.stream n).policy = (p.stream n).policy) ∧
            ∀ n, (p'.stream n).epoch = (p.stream n).epoch ∧ (p'.stream n).nextSeq = (p.stream n).nextSeq ∧
              (p'.stream n).rejections = (p.stream n).rejections ∧ (p'.stream n).inflight = (p.stream n).inflight ∧
              (p'.stream n).hold = (p.stream n).hold ∧
              if (p.stream n).state = .bound ∧ (p.stream n).inflight = [] ∧ (p.stream n).hold = [] ∧
                  (n = r.stream ∧ (p.stream n).node ≠ r.node ∨
                    n ≠ r.stream ∧ old.valid = true ∧ old.stream = n ∧ ∀ k, k ≠ ix →
                      (p.intake.routes.get k).valid = true → (p.intake.routes.get k).stream ≠ n) then
                (p'.stream n).state = .idle ∧ (p'.stream n).carrier = none ∧ (p'.stream n).mark = none ∧
                  (p'.stream n).recallDepth = none
              else (p'.stream n).state = (p.stream n).state ∧ (p'.stream n).carrier = (p.stream n).carrier ∧
                (p'.stream n).mark = (p.stream n).mark ∧
                (p'.stream n).recallDepth = (p.stream n).recallDepth)) ∧
    ∃ p', exec (.rtcl index) ⟨p, w⟩ = .next ⟨p', w⟩ ∧
      let old := p.intake.routes.get ix
      if p.intake.service = .init then p'.port.status = 0x14#8 ∧ p.sameButResponse p'
      else if old.valid = false then p'.port.status = 0x00#8 ∧ p.sameButResponse p'
      else if (p.stream old.stream).busy = true then p'.port.status = 0x12#8 ∧ p.sameButResponse p'
      else p'.port.status = 0x00#8 ∧ p'.intake.routes.get ix = Route.empty ∧
        (∀ k, k ≠ ix → p'.intake.routes.get k = p.intake.routes.get k) ∧
        (∀ n, n ≠ old.stream → p'.stream n = p.stream n) ∧
        ((p.stream old.stream).state = .bound →
          (∀ k, k ≠ ix → (p.intake.routes.get k).valid = true → (p.intake.routes.get k).stream ≠ old.stream) →
          (p'.stream old.stream).state = .idle ∧ (p'.stream old.stream).carrier = none ∧
          (p'.stream old.stream).mark = none ∧ (p'.stream old.stream).recallDepth = none)

/-- SRST takes a FAULTED stream to IDLE with its other fields kept, is OK in IDLE, and NOT_NOW in every other state,
and a stream outside its encoding is BAD_OPERAND; nothing else changes (R130, R174). -/
def Obligations.StreamResetJudged : Prop :=
  ∀ (p : Machine.Part) (w : List Instr) (stream : Byte), p.port.burst = none →
    ∃ p', exec (.srst stream) ⟨p, w⟩ = .next ⟨p', w⟩ ∧ p'.port.data = [] ∧
      match streamOfByte stream with
      | none => p'.port.status = 0x11#8 ∧ p.sameButResponse p'
      | some n => (∀ m, m ≠ n → p'.stream m = p.stream m) ∧ p'.lanes = p.lanes ∧ p'.log = p.log ∧
        p'.completions = p.completions ∧ p'.intake = p.intake ∧
        match (p.stream n).state with
        | .faulted => p'.port.status = 0x00#8 ∧ p'.stream n = { p.stream n with state := .idle }
        | .idle => p'.port.status = 0x00#8 ∧ p.sameButResponse p'
        | _ => p'.port.status = 0x14#8 ∧ p.sameButResponse p'

/-- SMOV is refused in R133's order; accepted, it starts a MANUAL move: with entries in flight the stream drains,
with none it binds to the target at once (R131, R132, R133, R135). -/
def Obligations.StreamMoveJudged : Prop :=
  ∀ (p : Machine.Part) (w : List Instr) (stream target : Byte) (n : StreamId) (l : Lane), p.port.burst = none →
    streamOfByte stream = some n → laneOfByte target = some l →
    ∃ p', exec (.smov stream target) ⟨p, w⟩ = .next ⟨p', w⟩ ∧ p'.port.data = [] ∧
      p'.completions = p.completions ∧
      if (p.stream n).carrier = some l then p'.port.status = 0x11#8 ∧ p.sameButResponse p'
      else if (p.stream n).move ≠ none then p'.port.status = 0x12#8 ∧ p.sameButResponse p'
      else if (p.stream n).state ≠ .bound then p'.port.status = 0x14#8 ∧ p.sameButResponse p'
      else if (p.lane l).state ≠ .active ∨ (p.lane l).pin = .out ∨ (p.lane l).partnerLeaving = true ∨
          (p.lane l).restartPending = true then p'.port.status = 0x14#8 ∧ p.sameButResponse p'
      else p'.port.status = 0x02#8 ∧ ∀ l0, (p.stream n).carrier = some l0 →
        ((p.stream n).inflight ≠ [] → (p'.stream n).state = .draining ∧ (p'.stream n).carrier = some l0 ∧
          (p'.stream n).epoch = (p.stream n).epoch ∧ (p'.stream n).inflight = (p.stream n).inflight ∧
          (p'.stream n).move =
            some ⟨some l, .manual, .running (p.now + p.params.drainLimit * 1000), l0⟩) ∧
        ((p.stream n).inflight = [] → (p.stream n).tried.has l = false →
          (p'.stream n).state = .binding ∧ (p'.stream n).carrier = some l ∧
          (p'.stream n).epoch = (p.stream n).epoch + 1)

/-- LNCT ENABLE, DISABLE and RESTART by the lane's state; a lane byte above 03h is refused (R83, R84, R87, R174). -/
def Obligations.LaneCommands : Prop :=
  ∀ (p : Machine.Part) (w : List Instr) (b : Byte), p.port.burst = none →
    (laneOfByte b = none → ∀ c, c ∈ [Instr.enable b, .disable b, .restart b, .pinOut b, .pinKeep b, .unpin b, .lnrd b] →
      ∃ p', exec c ⟨p, w⟩ = .next ⟨p', w⟩ ∧ p'.port.status = 0x11#8 ∧ p'.port.data = [] ∧
        p.sameButResponse p') ∧
    ∀ l, laneOfByte b = some l →
      (∃ p', exec (.enable b) ⟨p, w⟩ = .next ⟨p', w⟩ ∧ p'.port.status = 0x00#8 ∧
        ((p.lane l).state ≠ .off → p.sameButResponse p') ∧
        ((p.lane l).state = .off → ∃ f, (p'.lane l).state = .quiet ∧ (p'.lane l).offReason = none ∧
          (p'.lane l).requalify = 0 ∧ (p'.lane l).loopback = false ∧ (p'.lane l).pin = (p.lane l).pin ∧
          (p'.lane l).queue = [f] ∧ f.kind = .probe ∧
          (p'.lane l).timers = { Timers.stopped with probe := some (p.now + 100000) })) ∧
      (∃ p', exec (.disable b) ⟨p, w⟩ = .next ⟨p', w⟩ ∧ p'.port.status = 0x00#8 ∧
        ((p.lane l).state = .off → p'.lane l = { p.lane l with offReason := some .disabled } ∧
          (∀ m, m ≠ l → p'.lane m = p.lane m) ∧ p'.engine = p.engine ∧ p'.log = p.log) ∧
        ((p.lane l).state ≠ .off → (p'.lane l).state = .off ∧ (p'.lane l).offReason = some .disabled ∧
          (p'.lane l).queue = [] ∧ (p'.lane l).timers = Timers.stopped ∧ (p'.lane l).pin = (p.lane l).pin ∧
          ∀ n, (p'.stream n).carrier ≠ some l ∨ (p.lane l).state.inService = false)) ∧
      ∃ p', exec (.restart b) ⟨p, w⟩ = .next ⟨p', w⟩ ∧
        ((p.lane l).state = .off → p'.port.status = 0x14#8 ∧ p.sameButResponse p') ∧
        ((p.lane l).state ≠ .off → (p.lane l).restartPending = true →
          p'.port.status = 0x00#8 ∧ p.sameButResponse p') ∧
        ((p.lane l).state ≠ .off → (p.lane l).restartPending = false →
          (∀ n, (p.stream n).carrier ≠ some l) → p'.port.status = 0x00#8 ∧ (p'.lane l).state = .quiet ∧
          (p'.lane l).restartPending = false) ∧
        ((p.lane l).state ≠ .off → (p.lane l).restartPending = false →
          (∃ n, (p.stream n).carrier = some l ∧ (p.stream n).inflight ≠ []) → p'.port.status = 0x02#8 ∧
          (p'.lane l).state = (p.lane l).state ∧ (p'.lane l).restartPending = true)

/-- LNCT PIN_OUT starts a LEAVING move of every BOUND stream on the lane with entries in flight and no move pending,
PIN_KEEP changes the pin alone, and
UNPIN from KEEP clears the suppressed flag and judges the figure at once (R85, R86, R134). -/
def Obligations.PinCommands : Prop :=
  ∀ (p : Machine.Part) (w : List Instr) (b : Byte) (l : Lane), p.port.burst = none → p.settled →
    laneOfByte b = some l →
    (∃ p', exec (.pinOut b) ⟨p, w⟩ = .next ⟨p', w⟩ ∧ p'.port.status = 0x00#8 ∧ (p'.lane l).pin = .out ∧
      ((p.lane l).pin = .out → p.sameButResponse p') ∧
      ((p.lane l).pin = .unpinned → (p.lane l).partnerLeaving = false →
        (p'.lane l).state = (p.lane l).state ∧
        ∀ n, (p.stream n).carrier = some l → (p.stream n).state = .bound → (p.stream n).move = none →
          (p.stream n).inflight ≠ [] → (p'.stream n).state = .draining ∧ (p'.stream n).carrier = some l ∧
            ∃ m, (p'.stream n).move = some m ∧ m.cause = .leaving ∧ m.left = l ∧
              m.drain = .running (p.now + p.params.drainLimit * 1000))) ∧
    (∃ p', exec (.pinKeep b) ⟨p, w⟩ = .next ⟨p', w⟩ ∧ p'.port.status = 0x00#8 ∧
      p'.lane l = { p.lane l with pin := .keep } ∧ (∀ m, m ≠ l → p'.lane m = p.lane m) ∧ p'.log = p.log) ∧
    ∃ p', exec (.unpin b) ⟨p, w⟩ = .next ⟨p', w⟩ ∧ p'.port.status = 0x00#8 ∧
      (p'.lane l).pin = .unpinned ∧ (p'.lane l).figure = (p.lane l).figure ∧
      ((p.lane l).pin ≠ .keep → p'.lane l = { p.lane l with pin := .unpinned } ∧ p'.log = p.log) ∧
      ((p.lane l).pin = .keep → (p'.lane l).suppressed = false ∧
        (p'.lane l).state = thresholdState p.params (p.lane l).state (p.lane l).figure)

/-- DGLP turns the near loopback on in OFF with reason DISABLED alone, and off in every state; a lane looped back
delivers only the oldest frame of its path, come back, and hands a TEST with REFLECT clear to the checker and every
other to UNEXPECTED_FRAMES; DGPT needs 1 to 256 frames and the loopback on, and the last frame compared ends its
burst: the checker is idle, the qualify timer stops, and the response is OK with the error bytes, the length and the
frames compared. While its burst runs the port acknowledges neither a write nor a read, and otherwise it answers at
its own address alone, with FFh beyond the response frame (R163, R164, R165, R173). That a management command given
then leaves the part as it is, is the model's inference (log entry 11: DEDUCED), as are the command that stands for a
frame's delivery from the path, whose payload bytes alone may differ from those sent (log entry 26: DEDUCED), and the
count for a payload that is not 64 bytes long (log entry 51: DEDUCED). That frames in the path stay there when the
loopback is turned off is its choice (log entry 53: DESIGN CHOICE). -/
def Obligations.DiagnosticCommands : Prop :=
  ∀ (p : Machine.Part) (w : List Instr) (b : Byte) (l : Lane), laneOfByte b = some l →
    (p.port.burst = none →
      (∃ p', exec (.dglp b 1) ⟨p, w⟩ = .next ⟨p', w⟩ ∧ p'.log = p.log ∧
        ((p.lane l).state = .off ∧ (p.lane l).offReason = some .disabled → p'.port.status = 0x00#8 ∧
          p'.lane l = { p.lane l with loopback := true } ∧ (∀ m, m ≠ l → p'.lane m = p.lane m)) ∧
        (¬((p.lane l).state = .off ∧ (p.lane l).offReason = some .disabled) →
          p'.port.status = 0x14#8 ∧ p.sameButResponse p')) ∧
      (∃ p', exec (.dglp b 0) ⟨p, w⟩ = .next ⟨p', w⟩ ∧ p'.port.status = 0x00#8 ∧
        p'.lane l = { p.lane l with loopback := false } ∧ ∀ m, m ≠ l → p'.lane m = p.lane m) ∧
      (∀ s : Byte, 2 ≤ s.toNat → ∃ p', exec (.dglp b s) ⟨p, w⟩ = .next ⟨p', w⟩ ∧ p'.port.status = 0x11#8 ∧
        p.sameButResponse p') ∧
      ∀ frames : BitVec 16, ∃ p', exec (.dgpt b frames) ⟨p, w⟩ = .next ⟨p', w⟩ ∧
        if frames.toNat < 1 ∨ 256 < frames.toNat then p'.port.status = 0x11#8 ∧ p.sameButResponse p'
        else if (p.lane l).loopback = false then p'.port.status = 0x14#8 ∧ p.sameButResponse p'
        else ∃ burst, p'.port.burst = some l ∧ burst.map Frame.payload = burstPayloads frames.toNat ∧
          (∀ f ∈ burst, f.kind = .test ∧ f.header.reflect = false) ∧
          p'.lane l = { p.lane l with errorBytes := 0, checker := some ⟨.diagnostic, frames.toNat, 0, 0⟩,
                                      queue := (p.lane l).queue ++ burst } ∧
          (∀ m, m ≠ l → p'.lane m = p.lane m) ∧ p'.engine = p.engine ∧ p'.log = p.log) ∧
    ((p.lane l).state = .off → (p.lane l).loopback = true →
      ((p.lane l).loopPath = [] → ∀ (f : Frame) (v : Bool), ∀ c, c ∈ [Instr.frameInOff l f v, .badFrame l v,
          .receiveTestReturn l f.header f.payload v, .receiveAnswer l f.header f.payload v] →
        exec c ⟨p, w⟩ = .next ⟨p, w⟩) ∧
      ∀ g path, (p.lane l).loopPath = g :: path → ∀ f : Frame,
        (∀ v, exec (.receiveTestReturn l f.header f.payload v) ⟨p, w⟩ =
          exec (.frameInOff l ⟨.test, { f.header with reflect := false }, f.payload⟩ v) ⟨p, w⟩) ∧
        (¬(f.kind = g.kind ∧ f.header = g.header ∧ f.payload.length = g.payload.length) → ∀ v,
          exec (.frameInOff l f v) ⟨p, w⟩ = .next ⟨p, w⟩) ∧
        (f.kind = g.kind → f.header = g.header → f.payload.length = g.payload.length →
          ∃ p', exec (.frameInOff l f false) ⟨p, w⟩ = .next ⟨p', w⟩ ∧ (p'.lane l).loopPath = path ∧
          p'.counter (.lane l .framesReceived) = p.counter (.lane l .framesReceived) + 1 ∧
          ((p.lane l).checker = none ∨ ¬(f.kind = .test ∧ f.header.reflect = false) →
            p'.lane l = { p.lane l with loopPath := path } ∧ p'.engine = p.engine ∧
            p'.counter (.lane l .unexpectedFrames) = p.counter (.lane l .unexpectedFrames) + 1) ∧
          ∀ k err, (p.lane l).checker = some k → f.kind = .test → f.header.reflect = false →
            err = min 255 ((p.lane l).errorBytes + differing f.payload (burstPayload k.compared)) →
            (k.compared + 1 < k.length →
              (p'.lane l).checker = some { k with compared := k.compared + 1 } ∧ (p'.lane l).errorBytes = err) ∧
            (k.length ≤ k.compared + 1 → k.owner = .diagnostic →
              p'.lane l = { p.lane l with loopPath := path, checker := none, errorBytes := err,
                                          timers := { (p.lane l).timers with qualify := none } } ∧
              p'.port.burst = none ∧ p'.port.status = 0#8 ∧ p'.port.data =
                [BitVec.ofNat 8 err, BitVec.ofNat 8 (k.length / 256), BitVec.ofNat 8 k.length,
                  BitVec.ofNat 8 ((k.compared + 1) / 256), BitVec.ofNat 8 (k.compared + 1)] ∧
              p'.engine = p.engine ∧ (∀ m, m ≠ l → p'.lane m = p.lane m) ∧ (p.unwatched → p'.log = p.log))) ∧
        ∃ p', exec (.badFrame l false) ⟨p, w⟩ = .next ⟨p', w⟩ ∧
          p'.lane l = { p.lane l with loopPath := path } ∧
          p'.counter (.lane l .badFrames) = p.counter (.lane l .badFrames) + 1) ∧
    (∀ (a : BitVec 7) (i : Nat), p.port.readByte a i =
      if p.port.burst = none ∧ a.toNat = 0x48 + p.port.pins.toNat then
        some (([p.port.status, BitVec.ofNat 8 p.port.data.length] ++ p.port.data).getD i 0xFF#8) else none) ∧
    (∀ (a : BitVec 7) (bytes : List Byte), p.port.burst ≠ none ∨ a.toNat ≠ 0x48 + p.port.pins.toNat →
      p.port.write a bytes = .nothing) ∧
    (p.port.burst ≠ none → ∀ c, c ∈ [Instr.idnt, .stat, .dglp b 0, .dgpt b 1, .enable b, .disable b, .restart b,
        .evpp, .evcl, .qsce, .rlse, .lvrs, .svrs] → exec c ⟨p, w⟩ = .next ⟨p, w⟩)

/-- PMWR stores the written value clamped into the parameter's range of R180's table and answers OK or OK_CLAMPED, and
no other parameter changes; an unknown id, a wrong width or an undefined member is BAD_OPERAND, and SOURCE_NODE in use
is BUSY. A threshold write that changes the value held judges every lane's figure as it stands, and one that does not
changes no lane. A STREAM_WINDOW write has the arbiter serve the waiting hold-list heads, the first ready stream after
the last one served first, until no entry is free or no head is ready (R27, R28, R29, R86, R96, R97, R180). How
WARN_LEVEL is clamped is the model's inference (log entry 34: DEDUCED). -/
def Obligations.ParameterWrite : Prop :=
  ∀ (p : Machine.Part) (w : List Instr) (id : Byte) (value : List Byte), p.port.burst = none →
    ∃ p', exec (.pmwr id value) ⟨p, w⟩ = .next ⟨p', w⟩ ∧ p'.port.data = [] ∧
      p'.completions = p.completions ∧
      (id.toNat < 1 ∨ 20 < id.toNat → p'.port.status = 0x11#8 ∧ p.sameButResponse p') ∧
      ∀ held width low high, 1 ≤ id.toNat → p.params.table[id.toNat - 1]? = some (held, width, low, high) →
        if value.length ≠ width ∨
            (id = 0x13#8 ∧ ∃ k : Fin 64, (bigEndian value).testBit k = true ∧ ¬(1 ≤ k.val ∧ k.val ≤ 0x21)) ∨
            (id = 0x14#8 ∧ ∃ k : Fin 96, (bigEndian value).testBit k = true ∧
              ¬(64 + 1 ≤ k.val ∧ k.val ≤ 64 + 7 ∨ 32 + 1 ≤ k.val ∧ k.val ≤ 32 + 0xE ∨
                32 + 0x10 ≤ k.val ∧ k.val ≤ 32 + 0x14 ∨
                1 ≤ k.val ∧ k.val ≤ 0xA)) then
          p'.port.status = 0x11#8 ∧ p.sameButResponse p'
        else if id = 0x11#8 ∧ ¬∀ n, ((p.stream n).state = .idle ∨ (p.stream n).state = .faulted) ∧
            (p.stream n).inflight = [] then p'.port.status = 0x12#8 ∧ p.sameButResponse p'
        else ∃ v, v = max low (min high (bigEndian value)) ∧
          p'.params.table.map Prod.fst = (p.params.table.map Prod.fst).set (id.toNat - 1) v ∧
          p'.port.status = (if v = bigEndian value then 0x00#8 else 0x01#8) ∧
          p'.intake = p.intake ∧
          (id ∉ [0x03#8, 0x04#8, 0x05#8] → ∀ l, (p'.lane l).state = (p.lane l).state) ∧
          (id ∉ [0x03#8, 0x04#8, 0x05#8, 0x0B#8] →
            p'.engine = p.engine ∧ p'.lanes = p.lanes ∧ p'.log = p.log) ∧
          (id ∈ [0x03#8, 0x04#8, 0x05#8] → v = held →
            p'.engine = p.engine ∧ p'.lanes = p.lanes ∧ p'.log = p.log ∧ p'.sides = p.sides) ∧
          (id ∈ [0x03#8, 0x04#8, 0x05#8] → v ≠ held →
            ∀ l, (p'.lane l).figure = (p.lane l).figure ∧
              ((p.lane l).pin ≠ .keep → (p'.lane l).state =
                thresholdState p'.params (p.lane l).state (p.lane l).figure) ∧
              ((p.lane l).pin = .keep → (p'.lane l).state =
                if (p.lane l).state = .degraded ∧ (p.lane l).figure < p'.params.downLevel ∧
                    (p.lane l).figure ≤ p'.params.clearLevel then .active else (p.lane l).state)) ∧
          (id = 0x0B#8 →
            (∀ n, (p.stream n).dispatchedTo (p'.stream n)) ∧
            ((allStreams.map (fun n => (p.stream n).hold.length)).sum ≤ 64 →
              p'.engine.freeEntries = [] ∨ ∀ n, p'.headReady n = false) ∧
            (p.engine.freeEntries = [] ∨ (∀ n, { p with params := p'.params }.headReady n = false) →
              p'.engine = p.engine) ∧
            ∀ (i : EntryIx) (n : StreamId) (j : Fin 64) (h : Held) (hs : List Held),
              p.engine.freeEntries = [i] → n = p.engine.lastServed + 1 + j → (p.stream n).hold = h :: hs →
              { p with params := p'.params }.headReady n = true →
              (∀ k < j, { p with params := p'.params }.headReady (p.engine.lastServed + 1 + k) = false) →
              ∃ e, h.becomes e ∧ e.index = i ∧ e.seq = (p.stream n).nextSeq ∧
                (p'.stream n).inflight = (p.stream n).inflight ++ [e] ∧ (p'.stream n).hold = hs ∧
                p'.engine.lastServed = n ∧ p'.engine.freeEntries = [] ∧ ∀ m, m ≠ n → p'.stream m = p.stream m)

/-- What the log does with an event: an event equal to the newest entry in kind, lane and stream raises its repeat
count; any other is appended, and a full log first loses its oldest entry (R146, R147). -/
def Obligations.LogTakesEvent : Prop :=
  ∀ (log : EventLog) (kind : EventKind) (lane : Option Lane) (stream : Option StreamId) (detail : BitVec 16)
    (time : BitVec 32), log.entries.length ≤ 32 → ∃ log', log.take kind lane stream detail time = log' ∧
    log'.entries.length ≤ 32 ∧
    (∀ old e, log.entries = old ++ [e] → e.kind = kind → e.lane = lane → e.stream = stream →
      log' = { log with entries := old ++ [{ e with repeats := min 255 (e.repeats + 1) }] }) ∧
    ((∀ old e, log.entries = old ++ [e] → ¬(e.kind = kind ∧ e.lane = lane ∧ e.stream = stream)) →
      ∃ new, new = LogEntry.mk log.next kind lane stream detail 1 time ∧ log'.next = log.next + 1 ∧
        log'.ever = true ∧
        (log.entries.length < 32 → log'.entries = log.entries ++ [new] ∧
          log'.overflowed = log.overflowed ∧ log'.overflow = log.overflow) ∧
        (∀ head rest, log.entries = head :: rest → log.entries.length = 32 →
          log'.entries = rest ++ [new] ∧ log'.entries.length = 32 ∧ log'.overflowed = true ∧
          log'.overflow = min 255 (log.overflow + 1)))

/-- EVPP returns and removes the oldest entry, and leaves EVER, OVERFLOWED, the overflow count and the next event
number; EVCL empties the log and keeps the next event number alone. The attention line is asserted exactly while the
log holds an entry of a kind in ATTENTION_SET: after EVPP by the entries left, after a write of the set by the new
one, and from any event of a kind in the set on (R149, R151, R152, R181). -/
def Obligations.LogCommands : Prop :=
  (∀ (p : Machine.Part) (w : List Instr),
    (p.attention = true ↔ ∃ e ∈ p.log.entries, p.params.attentionSet.getLsbD e.kind.code = true) ∧
    (p.port.burst = none → ∃ p', exec .evpp ⟨p, w⟩ = .next ⟨p', w⟩ ∧
      (p'.attention = true ↔ ∃ e ∈ p.log.entries.tail, p.params.attentionSet.getLsbD e.kind.code = true)) ∧
    (∀ value : List Byte, p.port.burst = none → value.length = 8 →
      (∀ k, (bigEndian value).testBit k = true → 1 ≤ k ∧ k ≤ 0x21) →
      ∃ p', exec (.pmwr 0x13 value) ⟨p, w⟩ = .next ⟨p', w⟩ ∧ p'.log = p.log ∧ p'.port.status = 0x00#8 ∧
        (p'.attention = true ↔ ∃ e ∈ p.log.entries, (bigEndian value).testBit e.kind.code = true)) ∧
    ∀ kind lane stream detail, p.params.attentionSet.getLsbD kind.code = true →
      (p.event kind lane stream detail).attention = true) ∧
  ∀ (p : Machine.Part) (w : List Instr), p.port.burst = none →
    (∃ p', exec .evpp ⟨p, w⟩ = .next ⟨p', w⟩ ∧ p'.port.status = 0x00#8 ∧
      p'.log = { p.log with entries := p.log.entries.tail } ∧ p'.engine = p.engine ∧ p'.lanes = p.lanes ∧
      (p.log.entries = [] → p'.port.data = [0, p'.logFlags]) ∧
      ∀ e rest, p.log.entries = e :: rest → p'.port.data = [1, p'.logFlags] ++ e.bytes) ∧
    ∃ p', exec .evcl ⟨p, w⟩ = .next ⟨p', w⟩ ∧ p'.port.status = 0x00#8 ∧ p'.port.data = [] ∧
      p'.log = ⟨[], p.log.next, false, false, 0⟩ ∧ p'.attention = false ∧ p'.engine = p.engine ∧
      p'.lanes = p.lanes

/-- CTRD returns 1 to 8 counters in id order, four bytes each, and with the clear flag sets each of them to 0 and no
other; a range that names no counter, or runs past FFh, is BAD_OPERAND (R160). -/
def Obligations.CounterRead : Prop :=
  ∀ (p : Machine.Part) (w : List Instr) (first : BitVec 16) (number clear : Byte), p.port.burst = none →
    ∃ p', exec (.ctrd first number clear) ⟨p, w⟩ = .next ⟨p', w⟩ ∧ p'.log = p.log ∧ p'.engine = p.engine ∧
      p'.lanes = p.lanes ∧
      ((number.toNat < 1 ∨ 8 < number.toNat ∨ 2 ≤ clear.toNat ∨ 256 < first.toNat % 256 + number.toNat ∨
          (∃ k, k < number.toNat ∧ counterOfId (first.toNat + k) = none)) →
        p'.port.status = 0x11#8 ∧ p'.port.data = [] ∧ p.sameButResponse p') ∧
      ∀ cs : List CounterId, 1 ≤ number.toNat → number.toNat ≤ 8 → clear.toNat < 2 →
        first.toNat % 256 + number.toNat ≤ 256 →
        (List.range number.toNat).map (fun k => counterOfId (first.toNat + k)) = cs.map some →
        p'.port.status = 0x00#8 ∧ p'.port.data = cs.flatMap (fun c => toBigEndian 4 (p.counter c).toNat) ∧
        (∀ c, c ∈ cs → p'.counter c = if clear = 1 then 0 else p.counter c) ∧
        ∀ c, c ∉ cs → p'.counter c = p.counter c

/-- A watched counter that a raise takes from 7FFFFFFFh to 80000000h logs COUNTER_HALF in the event of the raise, with
its lane or stream and its full id; at any other value, and unwatched, a raise logs nothing. So for REQUESTS_ARRIVED at
an arriving request, LINK_LOSSES at a link loss in OFF, QUIET and DOWN, and STALE at a stale TELL (R155, R161). -/
def Obligations.CounterHalfRaised : Prop :=
  ∀ (p : Machine.Part) (w : List Instr),
    (∀ q, p.intake.credits ≠ 0 → ∃ p', exec (.hostRequest q) ⟨p, w⟩ = .next ⟨p', w⟩ ∧
      p'.counter (.part .requestsArrived) = p.counter (.part .requestsArrived) + 1 ∧
      p'.log = if p.params.halfPart.getLsbD 1 = true ∧ p.counter (.part .requestsArrived) = 0x7FFFFFFF#32 then
          p.log.take .counterHalf none none 0x0001#16 p.timeCounter
        else p.log) ∧
    (∀ l, (p.lane l).state ∈ [LaneState.off, .quiet, .down] → ∃ p', exec (.linkLoss l) ⟨p, w⟩ = .next ⟨p', w⟩ ∧
      p'.counter (.lane l .linkLosses) = p.counter (.lane l .linkLosses) + 1 ∧
      p'.log = if p.params.halfLane.getLsbD 8 = true ∧ p.counter (.lane l .linkLosses) = 0x7FFFFFFF#32 then
          p.log.take .counterHalf (some l) none (bytePair (0x10 + l.code) 0x08) p.timeCounter
        else p.log) ∧
    ∀ (l : Lane) (h : Header) (n : StreamId), h.stream = n → p.params.halfLane = 0 → (p.lane l).state ≠ .off →
      h.destination = p.params.sourceNode → h.epoch ≠ (p.stream n).epoch →
      ∃ p', exec (.receiveTell l h [] false) ⟨p, w⟩ = .next ⟨p', w⟩ ∧
        p'.counter (.stream n .stale) = p.counter (.stream n .stale) + 1 ∧
        p'.log = if p.params.halfStream.getLsbD 4 = true ∧ p.counter (.stream n .stale) = 0x7FFFFFFF#32 then
            p.log.take .counterHalf none (some n) (bytePair (0x40 + n.val) 0x04) p.timeCounter
          else p.log

/-- The service commands: QSCE starts a quiesce, or completes it at once; RLSE returns to RUNNING and credit is
offered; LVRS starts a pass only with everything empty, and an LVRS pass that found no failure ends RESTRICTED; no
pass ends in INIT (R15, R143, R144, R167, R172). That a failure found by any read while the pass runs counts as found
by it is the model's choice (log entry 63: DESIGN CHOICE). That the pass reads the items left, clean, at its end is
the model's choice (log entry 15: DESIGN CHOICE). -/
def Obligations.ServiceCommands : Prop :=
  ∀ (p : Machine.Part) (w : List Instr), p.port.burst = none →
    (∃ p', exec .qsce ⟨p, w⟩ = .next ⟨p', w⟩ ∧
      (p.intake.service = .init ∨ p.intake.service = .restricted →
        p'.port.status = 0x14#8 ∧ p.sameButResponse p') ∧
      (p.intake.service = .quiescing ∨ p.intake.service = .quiesced →
        p'.port.status = 0x00#8 ∧ p.sameButResponse p') ∧
      (p.intake.service = .running → p'.port.status = 0x00#8 ∧ p'.intake.credits = p.intake.credits ∧
        p'.intake.queue = p.intake.queue ∧ p'.engine = p.engine ∧
        (p.quiesceHolds = false → p'.intake.service = .quiescing ∧ p'.intake.quiesceAt = p.now) ∧
        (p.quiesceHolds = true → p'.intake.service = .quiesced ∧
          (p.intake.tally = none → p'.log = p.log.take .quiesced none none 0 p.timeCounter)))) ∧
    (∃ p', exec .rlse ⟨p, w⟩ = .next ⟨p', w⟩ ∧
      (p.intake.service = .init ∨ p.intake.service = .restricted →
        p'.port.status = 0x14#8 ∧ p.sameButResponse p') ∧
      (p.intake.service = .running → p'.port.status = 0x00#8 ∧ p.sameButResponse p') ∧
      (p.intake.service = .quiescing ∨ p.intake.service = .quiesced → p'.port.status = 0x00#8 ∧
        p'.intake.service = .running ∧ p'.intake.queue = p.intake.queue ∧ p'.engine = p.engine ∧
        p'.intake.credits = if p.intake.linkUp then max p.intake.credits (32 - p.intake.queue.length)
          else p.intake.credits)) ∧
    (∃ p', exec .lvrs ⟨p, w⟩ = .next ⟨p', w⟩ ∧ p'.intake = p.intake ∧
      (p.intake.service = .restricted ∧ p.quiesceHolds = true →
        p'.port.status = 0x02#8 ∧ p'.patrol = ⟨0, .leave, false⟩ ∧ p'.engine = p.engine) ∧
      (¬(p.intake.service = .restricted ∧ p.quiesceHolds = true) →
        p'.port.status = 0x14#8 ∧ p.sameButResponse p')) ∧
    (p.intake.service = .init → exec .patrolPassEnd ⟨p, w⟩ = .next ⟨p, w⟩) ∧
    (p.intake.service ≠ .init → ∃ p', exec .patrolPassEnd ⟨p, w⟩ = .next ⟨p', w⟩ ∧
      p'.patrol = ⟨0, .routine, false⟩ ∧ p'.engine = p.engine ∧
      p'.intake.service =
        (if p.patrol.pass = .leave ∧ p.patrol.failed = false ∧ p.intake.service = .restricted then .running
         else p.intake.service))

/-- A warm restart answers every queued, in-flight and held READ and SWAP as RESTARTED in order, logs the WRITEs of
the queue and then of each stream by their fates, leaves every stream IDLE and empty with its epoch and next sequence
kept, closes every tag, keeps the routes and the parameters, and leaves no REQUEST or ASK in a queue (R17, R39, R40,
R88, R182). That a queued record of unknown kind is answered RESTARTED with the READs and SWAPs is the model's
inference (log entry 18: DEDUCED); that the queue's WRITEs are logged first is its choice (log entry 56: DESIGN
CHOICE), and so is that its completions come before the streams' (log entry 64: DESIGN CHOICE). -/
def Obligations.WarmRestartEmpties : Prop :=
  ∀ (p : Machine.Part) (w : List Instr), p.port.burst = none →
    ∃ p', exec .svrs ⟨p, w⟩ = .next ⟨p', w⟩ ∧ p'.port.status = 0x00#8 ∧ p'.port.data = [] ∧
      p'.completions = p.completions
        ++ p.intake.queue.filterMap (fun q => if q.kind = 0x02#8 then none else some ⟨q.tag, .restarted, []⟩)
        ++ allStreams.flatMap (fun n =>
            (p.stream n).inflight.filterMap (fun e =>
              if e.kind = .write then none else e.tag.map (fun t => ⟨t, .restarted, []⟩))
            ++ (p.stream n).hold.filterMap (fun h =>
              if h.work.kind = .write then none else some ⟨h.work.tag, .restarted, []⟩)) ∧
      p'.intake.queue = [] ∧ (∀ t, p'.intake.tagOpen t = false) ∧ p'.intake.routes = p.intake.routes ∧
      p'.intake.service = (if p.intake.service = .init then .init else .running) ∧ p'.params = p.params ∧
      p'.engine.lastServed = 63 ∧ p'.patrol = ⟨0, .restart, false⟩ ∧
      (p.unwatched → p.intake.tally = none → (∀ l, (p.lane l).restartPending = false) →
        p'.log = allStreams.foldl (fun log n => (p.stream n).writesLog n p.timeCounter log)
          (p.log.counted .writesDropped none (p.intake.queue.countP (fun q => q.kind == 0x02#8)) p.timeCounter)) ∧
      (∀ n, (p'.stream n).state = .idle ∧ (p'.stream n).inflight = [] ∧ (p'.stream n).hold = [] ∧
        (p'.stream n).carrier = none ∧ (p'.stream n).mark = none ∧ (p'.stream n).recallDepth = none ∧
        (p'.stream n).swapLimit = 16 ∧ (p'.stream n).epoch = (p.stream n).epoch ∧
        (p'.stream n).nextSeq = (p.stream n).nextSeq ∧ (p'.stream n).rejections = (p.stream n).rejections ∧
        (p'.stream n).node = (p.stream n).node) ∧
      ∀ l, (∀ f ∈ (p'.lane l).queue, f.kind ≠ .request ∧ f.kind ≠ .ask) ∧
        ((p.lane l).restartPending = false → (p'.lane l).state = (p.lane l).state ∧
          (p'.lane l).figure = (p.lane l).figure ∧ (p'.lane l).latency = (p.lane l).latency) ∧
        ((p.lane l).restartPending = true → (p'.lane l).state = .quiet)

/-- A management frame is judged in R174's order: an unknown code is BAD_COMMAND; a missing, too great or wrong
operand count, an operand number that is not the command's, an undefined LNCT action, and a PMWR with no operands, an
unknown parameter or another width is BAD_OPERAND; SVRS is carried out whatever follows; a refused frame changes only
the response, and a write that carries nothing changes nothing (R173, R174, R175, R179, R180). -/
def Obligations.CommandFramesJudged : Prop :=
  (∀ (p : Machine.Part) (w : List Instr) (code : Byte) (rest : List Byte), p.port.burst = none →
    code ≠ 0x6F#8 →
    (code ∉ [0x01, 0x02, 0x10, 0x11, 0x12, 0x20, 0x21, 0x22, 0x30, 0x31, 0x38, 0x39, 0x40, 0x41, 0x50, 0x51, 0x52,
        0x58, 0x60, 0x61, 0x62].map (BitVec.ofNat 8) →
      ∃ p', exec (.badCommand (code :: rest)) ⟨p, w⟩ = .next ⟨p', w⟩ ∧ p'.port.status = 0x10#8 ∧
        p'.port.data = [] ∧ p.sameButResponse p') ∧
    (code ∈ [0x01, 0x02, 0x10, 0x11, 0x12, 0x20, 0x21, 0x22, 0x30, 0x31, 0x38, 0x39, 0x40, 0x41, 0x50, 0x51, 0x52,
        0x58, 0x60, 0x61, 0x62].map (BitVec.ofNat 8) →
      (rest = [] ∨ ∃ count operands, rest = count :: operands ∧
        (32 < count.toNat ∨ count.toNat ≠ operands.length ∨
          (code ∈ [0x01#8, 0x02#8, 0x50#8, 0x51#8, 0x52#8, 0x60#8, 0x61#8, 0x62#8] ∧ operands ≠ []) ∨
          (code ∈ [0x11#8, 0x12#8, 0x20#8, 0x22#8, 0x30#8, 0x41#8] ∧ operands.length ≠ 1) ∨
          (code ∈ [0x21#8, 0x31#8, 0x38#8] ∧ operands.length ≠ 2) ∨
          (code = 0x39#8 ∧ operands.length ≠ 3) ∨ (code = 0x58#8 ∧ operands.length ≠ 4) ∨
          (code = 0x10#8 ∧ operands.length ≠ 24) ∨
          (code = 0x31#8 ∧ ∃ l a, operands = [l, a] ∧ (a.toNat < 1 ∨ 6 < a.toNat)) ∨
          (code = 0x40#8 ∧ (operands = [] ∨ ∃ id value, operands = id :: value ∧
            ∀ k, Param.ofId id = some k → value.length ≠ k.width)))) →
      ∃ p', exec (.badCommand (code :: rest)) ⟨p, w⟩ = .next ⟨p', w⟩ ∧ p'.port.status = 0x11#8 ∧
        p'.port.data = [] ∧ p.sameButResponse p')) ∧
  (∀ (p : Machine.Part) (w : List Instr), exec (.badCommand []) ⟨p, w⟩ = .next ⟨p, w⟩) ∧
  ∀ rest : List Byte, judgeFrame (0x6F#8 :: rest) = .command .svrs

/-! ### Encodings and invariants -/

/-- A frame's bytes read back as the frame: header, payload and check, for every frame a receiver can pass on (R42,
R43, R44, R184). -/
def Obligations.FrameRoundTrip : Prop :=
  ∀ f : Frame, f.wellFormed = true → Frame.ofBytes (Frame.bytes f) = some f

/-- The part at reset has a sound log, its lane numbers in range, ordered thresholds, a canonical buffer, the side
states its lanes give, carriers that hold, all its pools free, and no sequence in flight. -/
def Obligations.ResetIsSound : Prop :=
  State.reset.part.log.sound ∧ State.reset.part.laneRanges ∧ State.reset.part.params.ordered ∧
  State.reset.part.params.stormRewinds ≤ 63 ∧ State.reset.part.engine.buffer.wf = true ∧
  State.reset.part.sidesHold ∧ State.reset.part.carriersHold ∧ State.reset.part.poolsHold ∧
  State.reset.part.seqsHold ∧ State.reset.pending = []

/-- Every step keeps the event log sound: at most 32 entries, repeat counts of 1 to 255, event numbers that run on by
1, EVER with any entry, and OVERFLOWED exactly with a count (R145, R146, R147, R149, R151). -/
def Obligations.StepKeepsLog : Prop :=
  ∀ s s' : State, s.part.log.sound → step s = .next s' → s'.part.log.sound

/-- Every step keeps the lane numbers in range, requalify failures at 0 to 3 and the storm rewind count at 0 to 63
among them, the thresholds ordered, every side in the state that its two lanes give it (R65, R77, R81, R89, R96, R98,
R103), and the data buffer in its canonical form (the model's form of R23's memory). -/
def Obligations.StepKeepsRanges : Prop :=
  ∀ s s' : State, s.part.laneRanges ∧ s.part.params.ordered ∧ s.part.params.stormRewinds ≤ 63 ∧ s.part.sidesHold ∧
      s.part.engine.buffer.wf = true → step s = .next s' →
    s'.part.laneRanges ∧ s'.part.params.ordered ∧ s'.part.params.stormRewinds ≤ 63 ∧ s'.part.sidesHold ∧
      s'.part.engine.buffer.wf = true

/-- Every step keeps this: a stream has a carrier exactly in BINDING, REPLAYING, BOUND and DRAINING, and every
carrier is a lane in ACTIVE or DEGRADED (R19, R66, R109). -/
def Obligations.StepKeepsCarriers : Prop :=
  ∀ s s' : State, s.part.carriersHold → step s = .next s' → s'.part.carriersHold

/-- Every step keeps the pools: free and used OTT entries are the 256, hold slots the 64 and data blocks the 1,024,
with no repeats; owner marks and fate copies agree with what they stand beside, and a stream in IDLE or FAULTED holds
nothing. So no in-flight list has more than 256 entries; and while the sequences in flight are within serial range of
the next sequence, every in-flight list runs in sequence order, and no sequence stands on it twice (R18, R20, R21,
R23, R24, R39, R129, R166). -/
def Obligations.StepKeepsPools : Prop :=
  ∀ s s' : State, s.part.poolsHold → step s = .next s' → s'.part.poolsHold ∧
    (∀ n, (s'.part.stream n).inflight.length ≤ 256) ∧
    (s.part.seqsNear → s.part.seqsHold → s'.part.seqsHold ∧
      ∀ n, ((s'.part.stream n).inflight.map OttEntry.seq).Nodup)
end

