-- ==== Sys2Proof/Laws/State.lean ====
section
/-! SUPPORT. One lemma per field per update of the part and of the state, true by unfolding, so that no later
proof unfolds a record update. -/

namespace Sys2Proof.Machine

/-! ### The state -/

@[simp] theorem State.withPending_part (s : State) (q : List Instr) : (s.withPending q).part = s.part := rfl
@[simp] theorem State.withPending_pending (s : State) (q : List Instr) : (s.withPending q).pending = q := rfl
@[simp] theorem State.act_eq (s : State) (f : Part → Part) : s.act f = .next { s with part := f s.part } := rfl

/-! ### The part -/

@[simp] theorem Part.modLane_now (p : Part) (l : Lane) (f : LaneRec → LaneRec) : (p.modLane l f).now = p.now := rfl
@[simp] theorem Part.modLane_leakAt (p : Part) (l : Lane) (f : LaneRec → LaneRec) : (p.modLane l f).leakAt = p.leakAt := rfl
@[simp] theorem Part.modLane_params (p : Part) (l : Lane) (f : LaneRec → LaneRec) : (p.modLane l f).params = p.params := rfl
@[simp] theorem Part.modLane_intake (p : Part) (l : Lane) (f : LaneRec → LaneRec) : (p.modLane l f).intake = p.intake := rfl
@[simp] theorem Part.modLane_completions (p : Part) (l : Lane) (f : LaneRec → LaneRec) : (p.modLane l f).completions = p.completions := rfl
@[simp] theorem Part.modLane_engine (p : Part) (l : Lane) (f : LaneRec → LaneRec) : (p.modLane l f).engine = p.engine := rfl
@[simp] theorem Part.modLane_sides (p : Part) (l : Lane) (f : LaneRec → LaneRec) : (p.modLane l f).sides = p.sides := rfl
@[simp] theorem Part.modLane_log (p : Part) (l : Lane) (f : LaneRec → LaneRec) : (p.modLane l f).log = p.log := rfl
@[simp] theorem Part.modLane_counters (p : Part) (l : Lane) (f : LaneRec → LaneRec) : (p.modLane l f).counters = p.counters := rfl
@[simp] theorem Part.modLane_patrol (p : Part) (l : Lane) (f : LaneRec → LaneRec) : (p.modLane l f).patrol = p.patrol := rfl
@[simp] theorem Part.modLane_port (p : Part) (l : Lane) (f : LaneRec → LaneRec) : (p.modLane l f).port = p.port := rfl
@[simp] theorem Part.modLane_reports (p : Part) (l : Lane) (f : LaneRec → LaneRec) : (p.modLane l f).reports = p.reports := rfl
@[simp] theorem Part.modLanes_now (p : Part) (f : LaneRec → LaneRec) : (p.modLanes f).now = p.now := rfl
@[simp] theorem Part.modLanes_leakAt (p : Part) (f : LaneRec → LaneRec) : (p.modLanes f).leakAt = p.leakAt := rfl
@[simp] theorem Part.modLanes_params (p : Part) (f : LaneRec → LaneRec) : (p.modLanes f).params = p.params := rfl
@[simp] theorem Part.modLanes_intake (p : Part) (f : LaneRec → LaneRec) : (p.modLanes f).intake = p.intake := rfl
@[simp] theorem Part.modLanes_completions (p : Part) (f : LaneRec → LaneRec) : (p.modLanes f).completions = p.completions := rfl
@[simp] theorem Part.modLanes_engine (p : Part) (f : LaneRec → LaneRec) : (p.modLanes f).engine = p.engine := rfl
@[simp] theorem Part.modLanes_sides (p : Part) (f : LaneRec → LaneRec) : (p.modLanes f).sides = p.sides := rfl
@[simp] theorem Part.modLanes_log (p : Part) (f : LaneRec → LaneRec) : (p.modLanes f).log = p.log := rfl
@[simp] theorem Part.modLanes_counters (p : Part) (f : LaneRec → LaneRec) : (p.modLanes f).counters = p.counters := rfl
@[simp] theorem Part.modLanes_patrol (p : Part) (f : LaneRec → LaneRec) : (p.modLanes f).patrol = p.patrol := rfl
@[simp] theorem Part.modLanes_port (p : Part) (f : LaneRec → LaneRec) : (p.modLanes f).port = p.port := rfl
@[simp] theorem Part.modLanes_reports (p : Part) (f : LaneRec → LaneRec) : (p.modLanes f).reports = p.reports := rfl
@[simp] theorem Part.modStream_now (p : Part) (n : StreamId) (f : StreamRec → StreamRec) : (p.modStream n f).now = p.now := rfl
@[simp] theorem Part.modStream_leakAt (p : Part) (n : StreamId) (f : StreamRec → StreamRec) : (p.modStream n f).leakAt = p.leakAt := rfl
@[simp] theorem Part.modStream_params (p : Part) (n : StreamId) (f : StreamRec → StreamRec) : (p.modStream n f).params = p.params := rfl
@[simp] theorem Part.modStream_intake (p : Part) (n : StreamId) (f : StreamRec → StreamRec) : (p.modStream n f).intake = p.intake := rfl
@[simp] theorem Part.modStream_completions (p : Part) (n : StreamId) (f : StreamRec → StreamRec) : (p.modStream n f).completions = p.completions := rfl
@[simp] theorem Part.modStream_lanes (p : Part) (n : StreamId) (f : StreamRec → StreamRec) : (p.modStream n f).lanes = p.lanes := rfl
@[simp] theorem Part.modStream_sides (p : Part) (n : StreamId) (f : StreamRec → StreamRec) : (p.modStream n f).sides = p.sides := rfl
@[simp] theorem Part.modStream_log (p : Part) (n : StreamId) (f : StreamRec → StreamRec) : (p.modStream n f).log = p.log := rfl
@[simp] theorem Part.modStream_counters (p : Part) (n : StreamId) (f : StreamRec → StreamRec) : (p.modStream n f).counters = p.counters := rfl
@[simp] theorem Part.modStream_patrol (p : Part) (n : StreamId) (f : StreamRec → StreamRec) : (p.modStream n f).patrol = p.patrol := rfl
@[simp] theorem Part.modStream_port (p : Part) (n : StreamId) (f : StreamRec → StreamRec) : (p.modStream n f).port = p.port := rfl
@[simp] theorem Part.modStream_reports (p : Part) (n : StreamId) (f : StreamRec → StreamRec) : (p.modStream n f).reports = p.reports := rfl
@[simp] theorem Part.modEngine_now (p : Part) (f : Engine → Engine) : (p.modEngine f).now = p.now := rfl
@[simp] theorem Part.modEngine_leakAt (p : Part) (f : Engine → Engine) : (p.modEngine f).leakAt = p.leakAt := rfl
@[simp] theorem Part.modEngine_params (p : Part) (f : Engine → Engine) : (p.modEngine f).params = p.params := rfl
@[simp] theorem Part.modEngine_intake (p : Part) (f : Engine → Engine) : (p.modEngine f).intake = p.intake := rfl
@[simp] theorem Part.modEngine_completions (p : Part) (f : Engine → Engine) : (p.modEngine f).completions = p.completions := rfl
@[simp] theorem Part.modEngine_lanes (p : Part) (f : Engine → Engine) : (p.modEngine f).lanes = p.lanes := rfl
@[simp] theorem Part.modEngine_sides (p : Part) (f : Engine → Engine) : (p.modEngine f).sides = p.sides := rfl
@[simp] theorem Part.modEngine_log (p : Part) (f : Engine → Engine) : (p.modEngine f).log = p.log := rfl
@[simp] theorem Part.modEngine_counters (p : Part) (f : Engine → Engine) : (p.modEngine f).counters = p.counters := rfl
@[simp] theorem Part.modEngine_patrol (p : Part) (f : Engine → Engine) : (p.modEngine f).patrol = p.patrol := rfl
@[simp] theorem Part.modEngine_port (p : Part) (f : Engine → Engine) : (p.modEngine f).port = p.port := rfl
@[simp] theorem Part.modEngine_reports (p : Part) (f : Engine → Engine) : (p.modEngine f).reports = p.reports := rfl
@[simp] theorem Part.modIntake_now (p : Part) (f : Intake → Intake) : (p.modIntake f).now = p.now := rfl
@[simp] theorem Part.modIntake_leakAt (p : Part) (f : Intake → Intake) : (p.modIntake f).leakAt = p.leakAt := rfl
@[simp] theorem Part.modIntake_params (p : Part) (f : Intake → Intake) : (p.modIntake f).params = p.params := rfl
@[simp] theorem Part.modIntake_completions (p : Part) (f : Intake → Intake) : (p.modIntake f).completions = p.completions := rfl
@[simp] theorem Part.modIntake_engine (p : Part) (f : Intake → Intake) : (p.modIntake f).engine = p.engine := rfl
@[simp] theorem Part.modIntake_lanes (p : Part) (f : Intake → Intake) : (p.modIntake f).lanes = p.lanes := rfl
@[simp] theorem Part.modIntake_sides (p : Part) (f : Intake → Intake) : (p.modIntake f).sides = p.sides := rfl
@[simp] theorem Part.modIntake_log (p : Part) (f : Intake → Intake) : (p.modIntake f).log = p.log := rfl
@[simp] theorem Part.modIntake_counters (p : Part) (f : Intake → Intake) : (p.modIntake f).counters = p.counters := rfl
@[simp] theorem Part.modIntake_patrol (p : Part) (f : Intake → Intake) : (p.modIntake f).patrol = p.patrol := rfl
@[simp] theorem Part.modIntake_port (p : Part) (f : Intake → Intake) : (p.modIntake f).port = p.port := rfl
@[simp] theorem Part.modIntake_reports (p : Part) (f : Intake → Intake) : (p.modIntake f).reports = p.reports := rfl
@[simp] theorem Part.modPatrol_now (p : Part) (f : Patrol → Patrol) : (p.modPatrol f).now = p.now := rfl
@[simp] theorem Part.modPatrol_leakAt (p : Part) (f : Patrol → Patrol) : (p.modPatrol f).leakAt = p.leakAt := rfl
@[simp] theorem Part.modPatrol_params (p : Part) (f : Patrol → Patrol) : (p.modPatrol f).params = p.params := rfl
@[simp] theorem Part.modPatrol_intake (p : Part) (f : Patrol → Patrol) : (p.modPatrol f).intake = p.intake := rfl
@[simp] theorem Part.modPatrol_completions (p : Part) (f : Patrol → Patrol) : (p.modPatrol f).completions = p.completions := rfl
@[simp] theorem Part.modPatrol_engine (p : Part) (f : Patrol → Patrol) : (p.modPatrol f).engine = p.engine := rfl
@[simp] theorem Part.modPatrol_lanes (p : Part) (f : Patrol → Patrol) : (p.modPatrol f).lanes = p.lanes := rfl
@[simp] theorem Part.modPatrol_sides (p : Part) (f : Patrol → Patrol) : (p.modPatrol f).sides = p.sides := rfl
@[simp] theorem Part.modPatrol_log (p : Part) (f : Patrol → Patrol) : (p.modPatrol f).log = p.log := rfl
@[simp] theorem Part.modPatrol_counters (p : Part) (f : Patrol → Patrol) : (p.modPatrol f).counters = p.counters := rfl
@[simp] theorem Part.modPatrol_port (p : Part) (f : Patrol → Patrol) : (p.modPatrol f).port = p.port := rfl
@[simp] theorem Part.modPatrol_reports (p : Part) (f : Patrol → Patrol) : (p.modPatrol f).reports = p.reports := rfl
@[simp] theorem Part.setTag_now (p : Part) (t : HostTag) (b : Bool) : (p.setTag t b).now = p.now := rfl
@[simp] theorem Part.setTag_leakAt (p : Part) (t : HostTag) (b : Bool) : (p.setTag t b).leakAt = p.leakAt := rfl
@[simp] theorem Part.setTag_params (p : Part) (t : HostTag) (b : Bool) : (p.setTag t b).params = p.params := rfl
@[simp] theorem Part.setTag_completions (p : Part) (t : HostTag) (b : Bool) : (p.setTag t b).completions = p.completions := rfl
@[simp] theorem Part.setTag_engine (p : Part) (t : HostTag) (b : Bool) : (p.setTag t b).engine = p.engine := rfl
@[simp] theorem Part.setTag_lanes (p : Part) (t : HostTag) (b : Bool) : (p.setTag t b).lanes = p.lanes := rfl
@[simp] theorem Part.setTag_sides (p : Part) (t : HostTag) (b : Bool) : (p.setTag t b).sides = p.sides := rfl
@[simp] theorem Part.setTag_log (p : Part) (t : HostTag) (b : Bool) : (p.setTag t b).log = p.log := rfl
@[simp] theorem Part.setTag_counters (p : Part) (t : HostTag) (b : Bool) : (p.setTag t b).counters = p.counters := rfl
@[simp] theorem Part.setTag_patrol (p : Part) (t : HostTag) (b : Bool) : (p.setTag t b).patrol = p.patrol := rfl
@[simp] theorem Part.setTag_port (p : Part) (t : HostTag) (b : Bool) : (p.setTag t b).port = p.port := rfl
@[simp] theorem Part.setTag_reports (p : Part) (t : HostTag) (b : Bool) : (p.setTag t b).reports = p.reports := rfl
@[simp] theorem Part.setCounter_now (p : Part) (c : CounterId) (v : BitVec 32) : (p.setCounter c v).now = p.now := rfl
@[simp] theorem Part.setCounter_leakAt (p : Part) (c : CounterId) (v : BitVec 32) : (p.setCounter c v).leakAt = p.leakAt := rfl
@[simp] theorem Part.setCounter_params (p : Part) (c : CounterId) (v : BitVec 32) : (p.setCounter c v).params = p.params := rfl
@[simp] theorem Part.setCounter_intake (p : Part) (c : CounterId) (v : BitVec 32) : (p.setCounter c v).intake = p.intake := rfl
@[simp] theorem Part.setCounter_completions (p : Part) (c : CounterId) (v : BitVec 32) : (p.setCounter c v).completions = p.completions := rfl
@[simp] theorem Part.setCounter_engine (p : Part) (c : CounterId) (v : BitVec 32) : (p.setCounter c v).engine = p.engine := rfl
@[simp] theorem Part.setCounter_lanes (p : Part) (c : CounterId) (v : BitVec 32) : (p.setCounter c v).lanes = p.lanes := rfl
@[simp] theorem Part.setCounter_sides (p : Part) (c : CounterId) (v : BitVec 32) : (p.setCounter c v).sides = p.sides := rfl
@[simp] theorem Part.setCounter_log (p : Part) (c : CounterId) (v : BitVec 32) : (p.setCounter c v).log = p.log := rfl
@[simp] theorem Part.setCounter_patrol (p : Part) (c : CounterId) (v : BitVec 32) : (p.setCounter c v).patrol = p.patrol := rfl
@[simp] theorem Part.setCounter_port (p : Part) (c : CounterId) (v : BitVec 32) : (p.setCounter c v).port = p.port := rfl
@[simp] theorem Part.setCounter_reports (p : Part) (c : CounterId) (v : BitVec 32) : (p.setCounter c v).reports = p.reports := rfl
@[simp] theorem Part.event_now (p : Part) (k : EventKind) (l : Option Lane) (n : Option StreamId) (d : BitVec 16) : (p.event k l n d).now = p.now := rfl
@[simp] theorem Part.event_leakAt (p : Part) (k : EventKind) (l : Option Lane) (n : Option StreamId) (d : BitVec 16) : (p.event k l n d).leakAt = p.leakAt := rfl
@[simp] theorem Part.event_params (p : Part) (k : EventKind) (l : Option Lane) (n : Option StreamId) (d : BitVec 16) : (p.event k l n d).params = p.params := rfl
@[simp] theorem Part.event_intake (p : Part) (k : EventKind) (l : Option Lane) (n : Option StreamId) (d : BitVec 16) : (p.event k l n d).intake = p.intake := rfl
@[simp] theorem Part.event_completions (p : Part) (k : EventKind) (l : Option Lane) (n : Option StreamId) (d : BitVec 16) : (p.event k l n d).completions = p.completions := rfl
@[simp] theorem Part.event_engine (p : Part) (k : EventKind) (l : Option Lane) (n : Option StreamId) (d : BitVec 16) : (p.event k l n d).engine = p.engine := rfl
@[simp] theorem Part.event_lanes (p : Part) (k : EventKind) (l : Option Lane) (n : Option StreamId) (d : BitVec 16) : (p.event k l n d).lanes = p.lanes := rfl
@[simp] theorem Part.event_sides (p : Part) (k : EventKind) (l : Option Lane) (n : Option StreamId) (d : BitVec 16) : (p.event k l n d).sides = p.sides := rfl
@[simp] theorem Part.event_counters (p : Part) (k : EventKind) (l : Option Lane) (n : Option StreamId) (d : BitVec 16) : (p.event k l n d).counters = p.counters := rfl
@[simp] theorem Part.event_patrol (p : Part) (k : EventKind) (l : Option Lane) (n : Option StreamId) (d : BitVec 16) : (p.event k l n d).patrol = p.patrol := rfl
@[simp] theorem Part.event_port (p : Part) (k : EventKind) (l : Option Lane) (n : Option StreamId) (d : BitVec 16) : (p.event k l n d).port = p.port := rfl
@[simp] theorem Part.event_reports (p : Part) (k : EventKind) (l : Option Lane) (n : Option StreamId) (d : BitVec 16) : (p.event k l n d).reports = p.reports := rfl
@[simp] theorem Part.respond_now (p : Part) (st : Byte) (data : List Byte) : (p.respond st data).now = p.now := rfl
@[simp] theorem Part.respond_leakAt (p : Part) (st : Byte) (data : List Byte) : (p.respond st data).leakAt = p.leakAt := rfl
@[simp] theorem Part.respond_params (p : Part) (st : Byte) (data : List Byte) : (p.respond st data).params = p.params := rfl
@[simp] theorem Part.respond_intake (p : Part) (st : Byte) (data : List Byte) : (p.respond st data).intake = p.intake := rfl
@[simp] theorem Part.respond_completions (p : Part) (st : Byte) (data : List Byte) : (p.respond st data).completions = p.completions := rfl
@[simp] theorem Part.respond_engine (p : Part) (st : Byte) (data : List Byte) : (p.respond st data).engine = p.engine := rfl
@[simp] theorem Part.respond_lanes (p : Part) (st : Byte) (data : List Byte) : (p.respond st data).lanes = p.lanes := rfl
@[simp] theorem Part.respond_sides (p : Part) (st : Byte) (data : List Byte) : (p.respond st data).sides = p.sides := rfl
@[simp] theorem Part.respond_log (p : Part) (st : Byte) (data : List Byte) : (p.respond st data).log = p.log := rfl
@[simp] theorem Part.respond_counters (p : Part) (st : Byte) (data : List Byte) : (p.respond st data).counters = p.counters := rfl
@[simp] theorem Part.respond_patrol (p : Part) (st : Byte) (data : List Byte) : (p.respond st data).patrol = p.patrol := rfl
@[simp] theorem Part.respond_reports (p : Part) (st : Byte) (data : List Byte) : (p.respond st data).reports = p.reports := rfl
@[simp] theorem Part.report_now (p : Part) (r : Report) : (p.report r).now = p.now := rfl
@[simp] theorem Part.report_leakAt (p : Part) (r : Report) : (p.report r).leakAt = p.leakAt := rfl
@[simp] theorem Part.report_params (p : Part) (r : Report) : (p.report r).params = p.params := rfl
@[simp] theorem Part.report_intake (p : Part) (r : Report) : (p.report r).intake = p.intake := rfl
@[simp] theorem Part.report_completions (p : Part) (r : Report) : (p.report r).completions = p.completions := rfl
@[simp] theorem Part.report_engine (p : Part) (r : Report) : (p.report r).engine = p.engine := rfl
@[simp] theorem Part.report_lanes (p : Part) (r : Report) : (p.report r).lanes = p.lanes := rfl
@[simp] theorem Part.report_sides (p : Part) (r : Report) : (p.report r).sides = p.sides := rfl
@[simp] theorem Part.report_log (p : Part) (r : Report) : (p.report r).log = p.log := rfl
@[simp] theorem Part.report_counters (p : Part) (r : Report) : (p.report r).counters = p.counters := rfl
@[simp] theorem Part.report_patrol (p : Part) (r : Report) : (p.report r).patrol = p.patrol := rfl
@[simp] theorem Part.report_port (p : Part) (r : Report) : (p.report r).port = p.port := rfl
@[simp] theorem Part.takeReport_now (p : Part) (r : Report) : (p.takeReport r).now = p.now := rfl
@[simp] theorem Part.takeReport_leakAt (p : Part) (r : Report) : (p.takeReport r).leakAt = p.leakAt := rfl
@[simp] theorem Part.takeReport_params (p : Part) (r : Report) : (p.takeReport r).params = p.params := rfl
@[simp] theorem Part.takeReport_intake (p : Part) (r : Report) : (p.takeReport r).intake = p.intake := rfl
@[simp] theorem Part.takeReport_completions (p : Part) (r : Report) : (p.takeReport r).completions = p.completions := rfl
@[simp] theorem Part.takeReport_engine (p : Part) (r : Report) : (p.takeReport r).engine = p.engine := rfl
@[simp] theorem Part.takeReport_lanes (p : Part) (r : Report) : (p.takeReport r).lanes = p.lanes := rfl
@[simp] theorem Part.takeReport_sides (p : Part) (r : Report) : (p.takeReport r).sides = p.sides := rfl
@[simp] theorem Part.takeReport_log (p : Part) (r : Report) : (p.takeReport r).log = p.log := rfl
@[simp] theorem Part.takeReport_counters (p : Part) (r : Report) : (p.takeReport r).counters = p.counters := rfl
@[simp] theorem Part.takeReport_patrol (p : Part) (r : Report) : (p.takeReport r).patrol = p.patrol := rfl
@[simp] theorem Part.takeReport_port (p : Part) (r : Report) : (p.takeReport r).port = p.port := rfl
@[simp] theorem Part.reach_leakAt (p : Part) (t : Micros) : (p.reach t).leakAt = p.leakAt := rfl
@[simp] theorem Part.reach_params (p : Part) (t : Micros) : (p.reach t).params = p.params := rfl
@[simp] theorem Part.reach_intake (p : Part) (t : Micros) : (p.reach t).intake = p.intake := rfl
@[simp] theorem Part.reach_completions (p : Part) (t : Micros) : (p.reach t).completions = p.completions := rfl
@[simp] theorem Part.reach_engine (p : Part) (t : Micros) : (p.reach t).engine = p.engine := rfl
@[simp] theorem Part.reach_lanes (p : Part) (t : Micros) : (p.reach t).lanes = p.lanes := rfl
@[simp] theorem Part.reach_sides (p : Part) (t : Micros) : (p.reach t).sides = p.sides := rfl
@[simp] theorem Part.reach_log (p : Part) (t : Micros) : (p.reach t).log = p.log := rfl
@[simp] theorem Part.reach_counters (p : Part) (t : Micros) : (p.reach t).counters = p.counters := rfl
@[simp] theorem Part.reach_patrol (p : Part) (t : Micros) : (p.reach t).patrol = p.patrol := rfl
@[simp] theorem Part.reach_port (p : Part) (t : Micros) : (p.reach t).port = p.port := rfl
@[simp] theorem Part.reach_reports (p : Part) (t : Micros) : (p.reach t).reports = p.reports := rfl
@[simp] theorem Part.tick_leakAt (p : Part) : (p.tick).leakAt = p.leakAt := rfl
@[simp] theorem Part.tick_params (p : Part) : (p.tick).params = p.params := rfl
@[simp] theorem Part.tick_intake (p : Part) : (p.tick).intake = p.intake := rfl
@[simp] theorem Part.tick_completions (p : Part) : (p.tick).completions = p.completions := rfl
@[simp] theorem Part.tick_engine (p : Part) : (p.tick).engine = p.engine := rfl
@[simp] theorem Part.tick_lanes (p : Part) : (p.tick).lanes = p.lanes := rfl
@[simp] theorem Part.tick_sides (p : Part) : (p.tick).sides = p.sides := rfl
@[simp] theorem Part.tick_log (p : Part) : (p.tick).log = p.log := rfl
@[simp] theorem Part.tick_counters (p : Part) : (p.tick).counters = p.counters := rfl
@[simp] theorem Part.tick_patrol (p : Part) : (p.tick).patrol = p.patrol := rfl
@[simp] theorem Part.tick_port (p : Part) : (p.tick).port = p.port := rfl
@[simp] theorem Part.tick_reports (p : Part) : (p.tick).reports = p.reports := rfl

@[simp] theorem Part.event_log (p : Part) (k : EventKind) (l : Option Lane) (n : Option StreamId)
    (d : BitVec 16) : (p.event k l n d).log = p.log.take k l n d p.timeCounter := rfl
@[simp] theorem Part.respond_port (p : Part) (st : Byte) (data : List Byte) :
    (p.respond st data).port = { p.port with status := st, data := data } := rfl
@[simp] theorem Part.report_reports (p : Part) (r : Report) : (p.report r).reports = p.reports ++ [r] := rfl
@[simp] theorem Part.modIntake_intake (p : Part) (f : Intake → Intake) : (p.modIntake f).intake = f p.intake := rfl
@[simp] theorem Part.modEngine_engine (p : Part) (f : Engine → Engine) : (p.modEngine f).engine = f p.engine := rfl
@[simp] theorem Part.modPatrol_patrol (p : Part) (f : Patrol → Patrol) : (p.modPatrol f).patrol = f p.patrol := rfl
@[simp] theorem Part.reach_now (p : Part) (t : Micros) : (p.reach t).now = max p.now t := rfl

/-! ### One lane -/

@[simp] theorem Lanes.get_set_self (ls : Lanes) (l : Lane) (r : LaneRec) : (ls.set l r).get l = r := by
  cases l <;> rfl
theorem Lanes.get_set_of_ne (ls : Lanes) {l m : Lane} (h : m ≠ l) (r : LaneRec) :
    (ls.set l r).get m = ls.get m := by
  cases l <;> cases m <;> first | rfl | exact absurd rfl h
@[simp] theorem Part.modLane_lane_self (p : Part) (l : Lane) (f : LaneRec → LaneRec) :
    (p.modLane l f).lane l = f (p.lane l) := by simp [Part.lane, Part.modLane]
theorem Part.modLane_lane_of_ne (p : Part) {l m : Lane} (h : m ≠ l) (f : LaneRec → LaneRec) :
    (p.modLane l f).lane m = p.lane m := Lanes.get_set_of_ne p.lanes h _
@[simp] theorem Part.modLanes_lane (p : Part) (f : LaneRec → LaneRec) (l : Lane) :
    (p.modLanes f).lane l = f (p.lane l) := by cases l <;> rfl

/-! ### One stream -/

@[simp] theorem Part.modStream_stream_self (p : Part) (n : StreamId) (f : StreamRec → StreamRec) :
    (p.modStream n f).stream n = f (p.stream n) := by
  simp [Part.stream, Part.modStream, Vector.get_eq_getElem]
theorem Part.modStream_stream_of_ne (p : Part) {n m : StreamId} (h : m ≠ n) (f : StreamRec → StreamRec) :
    (p.modStream n f).stream m = p.stream m := by
  have h' : n.val ≠ m.val := fun e => h (Fin.ext e.symm)
  simp [Part.stream, Part.modStream, Vector.get_eq_getElem, h']

/-! ### Reads that other updates leave alone -/

@[simp] theorem Part.modLane_stream (p : Part) (l : Lane) (f : LaneRec → LaneRec) (m : StreamId) : (p.modLane l f).stream m = p.stream m := rfl
@[simp] theorem Part.modLane_side (p : Part) (l : Lane) (f : LaneRec → LaneRec) (x : Side) : (p.modLane l f).side x = p.side x := by cases x <;> rfl
@[simp] theorem Part.modLane_counter (p : Part) (l : Lane) (f : LaneRec → LaneRec) (c : CounterId) : (p.modLane l f).counter c = p.counter c := rfl
@[simp] theorem Part.modLanes_stream (p : Part) (f : LaneRec → LaneRec) (m : StreamId) : (p.modLanes f).stream m = p.stream m := rfl
@[simp] theorem Part.modLanes_side (p : Part) (f : LaneRec → LaneRec) (x : Side) : (p.modLanes f).side x = p.side x := by cases x <;> rfl
@[simp] theorem Part.modLanes_counter (p : Part) (f : LaneRec → LaneRec) (c : CounterId) : (p.modLanes f).counter c = p.counter c := rfl
@[simp] theorem Part.modStream_lane (p : Part) (n : StreamId) (f : StreamRec → StreamRec) (m : Lane) : (p.modStream n f).lane m = p.lane m := rfl
@[simp] theorem Part.modStream_side (p : Part) (n : StreamId) (f : StreamRec → StreamRec) (x : Side) : (p.modStream n f).side x = p.side x := by cases x <;> rfl
@[simp] theorem Part.modStream_counter (p : Part) (n : StreamId) (f : StreamRec → StreamRec) (c : CounterId) : (p.modStream n f).counter c = p.counter c := rfl
@[simp] theorem Part.modEngine_lane (p : Part) (f : Engine → Engine) (m : Lane) : (p.modEngine f).lane m = p.lane m := rfl
@[simp] theorem Part.modEngine_side (p : Part) (f : Engine → Engine) (x : Side) : (p.modEngine f).side x = p.side x := by cases x <;> rfl
@[simp] theorem Part.modEngine_counter (p : Part) (f : Engine → Engine) (c : CounterId) : (p.modEngine f).counter c = p.counter c := rfl
@[simp] theorem Part.modIntake_lane (p : Part) (f : Intake → Intake) (m : Lane) : (p.modIntake f).lane m = p.lane m := rfl
@[simp] theorem Part.modIntake_stream (p : Part) (f : Intake → Intake) (m : StreamId) : (p.modIntake f).stream m = p.stream m := rfl
@[simp] theorem Part.modIntake_side (p : Part) (f : Intake → Intake) (x : Side) : (p.modIntake f).side x = p.side x := by cases x <;> rfl
@[simp] theorem Part.modIntake_counter (p : Part) (f : Intake → Intake) (c : CounterId) : (p.modIntake f).counter c = p.counter c := rfl
@[simp] theorem Part.modPatrol_lane (p : Part) (f : Patrol → Patrol) (m : Lane) : (p.modPatrol f).lane m = p.lane m := rfl
@[simp] theorem Part.modPatrol_stream (p : Part) (f : Patrol → Patrol) (m : StreamId) : (p.modPatrol f).stream m = p.stream m := rfl
@[simp] theorem Part.modPatrol_side (p : Part) (f : Patrol → Patrol) (x : Side) : (p.modPatrol f).side x = p.side x := by cases x <;> rfl
@[simp] theorem Part.modPatrol_counter (p : Part) (f : Patrol → Patrol) (c : CounterId) : (p.modPatrol f).counter c = p.counter c := rfl
@[simp] theorem Part.setTag_lane (p : Part) (t : HostTag) (b : Bool) (m : Lane) : (p.setTag t b).lane m = p.lane m := rfl
@[simp] theorem Part.setTag_stream (p : Part) (t : HostTag) (b : Bool) (m : StreamId) : (p.setTag t b).stream m = p.stream m := rfl
@[simp] theorem Part.setTag_side (p : Part) (t : HostTag) (b : Bool) (x : Side) : (p.setTag t b).side x = p.side x := by cases x <;> rfl
@[simp] theorem Part.setTag_counter (p : Part) (t : HostTag) (b : Bool) (c : CounterId) : (p.setTag t b).counter c = p.counter c := rfl
@[simp] theorem Part.setCounter_lane (p : Part) (c : CounterId) (v : BitVec 32) (m : Lane) : (p.setCounter c v).lane m = p.lane m := rfl
@[simp] theorem Part.setCounter_stream (p : Part) (c : CounterId) (v : BitVec 32) (m : StreamId) : (p.setCounter c v).stream m = p.stream m := rfl
@[simp] theorem Part.setCounter_side (p : Part) (c : CounterId) (v : BitVec 32) (x : Side) : (p.setCounter c v).side x = p.side x := by cases x <;> rfl
@[simp] theorem Part.event_lane (p : Part) (k : EventKind) (l : Option Lane) (n : Option StreamId) (d : BitVec 16) (m : Lane) : (p.event k l n d).lane m = p.lane m := rfl
@[simp] theorem Part.event_stream (p : Part) (k : EventKind) (l : Option Lane) (n : Option StreamId) (d : BitVec 16) (m : StreamId) : (p.event k l n d).stream m = p.stream m := rfl
@[simp] theorem Part.event_side (p : Part) (k : EventKind) (l : Option Lane) (n : Option StreamId) (d : BitVec 16) (x : Side) : (p.event k l n d).side x = p.side x := by cases x <;> rfl
@[simp] theorem Part.event_counter (p : Part) (k : EventKind) (l : Option Lane) (n : Option StreamId) (d : BitVec 16) (c : CounterId) : (p.event k l n d).counter c = p.counter c := rfl
@[simp] theorem Part.respond_lane (p : Part) (st : Byte) (data : List Byte) (m : Lane) : (p.respond st data).lane m = p.lane m := rfl
@[simp] theorem Part.respond_stream (p : Part) (st : Byte) (data : List Byte) (m : StreamId) : (p.respond st data).stream m = p.stream m := rfl
@[simp] theorem Part.respond_side (p : Part) (st : Byte) (data : List Byte) (x : Side) : (p.respond st data).side x = p.side x := by cases x <;> rfl
@[simp] theorem Part.respond_counter (p : Part) (st : Byte) (data : List Byte) (c : CounterId) : (p.respond st data).counter c = p.counter c := rfl
@[simp] theorem Part.report_lane (p : Part) (r : Report) (m : Lane) : (p.report r).lane m = p.lane m := rfl
@[simp] theorem Part.report_stream (p : Part) (r : Report) (m : StreamId) : (p.report r).stream m = p.stream m := rfl
@[simp] theorem Part.report_side (p : Part) (r : Report) (x : Side) : (p.report r).side x = p.side x := by cases x <;> rfl
@[simp] theorem Part.report_counter (p : Part) (r : Report) (c : CounterId) : (p.report r).counter c = p.counter c := rfl
@[simp] theorem Part.takeReport_lane (p : Part) (r : Report) (m : Lane) : (p.takeReport r).lane m = p.lane m := rfl
@[simp] theorem Part.takeReport_stream (p : Part) (r : Report) (m : StreamId) : (p.takeReport r).stream m = p.stream m := rfl
@[simp] theorem Part.takeReport_side (p : Part) (r : Report) (x : Side) : (p.takeReport r).side x = p.side x := by cases x <;> rfl
@[simp] theorem Part.takeReport_counter (p : Part) (r : Report) (c : CounterId) : (p.takeReport r).counter c = p.counter c := rfl
@[simp] theorem Part.reach_lane (p : Part) (t : Micros) (m : Lane) : (p.reach t).lane m = p.lane m := rfl
@[simp] theorem Part.reach_stream (p : Part) (t : Micros) (m : StreamId) : (p.reach t).stream m = p.stream m := rfl
@[simp] theorem Part.reach_side (p : Part) (t : Micros) (x : Side) : (p.reach t).side x = p.side x := by cases x <;> rfl
@[simp] theorem Part.reach_counter (p : Part) (t : Micros) (c : CounterId) : (p.reach t).counter c = p.counter c := rfl
@[simp] theorem Part.tick_lane (p : Part) (m : Lane) : (p.tick).lane m = p.lane m := rfl
@[simp] theorem Part.tick_stream (p : Part) (m : StreamId) : (p.tick).stream m = p.stream m := rfl
@[simp] theorem Part.tick_side (p : Part) (x : Side) : (p.tick).side x = p.side x := by cases x <;> rfl
@[simp] theorem Part.tick_counter (p : Part) (c : CounterId) : (p.tick).counter c = p.counter c := rfl
@[simp] theorem Part.modSide_now (p : Part) (d : Side) (f : SideRec → SideRec) : (p.modSide d f).now = p.now := by cases d <;> rfl
@[simp] theorem Part.modSide_leakAt (p : Part) (d : Side) (f : SideRec → SideRec) : (p.modSide d f).leakAt = p.leakAt := by cases d <;> rfl
@[simp] theorem Part.modSide_params (p : Part) (d : Side) (f : SideRec → SideRec) : (p.modSide d f).params = p.params := by cases d <;> rfl
@[simp] theorem Part.modSide_intake (p : Part) (d : Side) (f : SideRec → SideRec) : (p.modSide d f).intake = p.intake := by cases d <;> rfl
@[simp] theorem Part.modSide_completions (p : Part) (d : Side) (f : SideRec → SideRec) : (p.modSide d f).completions = p.completions := by cases d <;> rfl
@[simp] theorem Part.modSide_engine (p : Part) (d : Side) (f : SideRec → SideRec) : (p.modSide d f).engine = p.engine := by cases d <;> rfl
@[simp] theorem Part.modSide_lanes (p : Part) (d : Side) (f : SideRec → SideRec) : (p.modSide d f).lanes = p.lanes := by cases d <;> rfl
@[simp] theorem Part.modSide_log (p : Part) (d : Side) (f : SideRec → SideRec) : (p.modSide d f).log = p.log := by cases d <;> rfl
@[simp] theorem Part.modSide_counters (p : Part) (d : Side) (f : SideRec → SideRec) : (p.modSide d f).counters = p.counters := by cases d <;> rfl
@[simp] theorem Part.modSide_patrol (p : Part) (d : Side) (f : SideRec → SideRec) : (p.modSide d f).patrol = p.patrol := by cases d <;> rfl
@[simp] theorem Part.modSide_port (p : Part) (d : Side) (f : SideRec → SideRec) : (p.modSide d f).port = p.port := by cases d <;> rfl
@[simp] theorem Part.modSide_reports (p : Part) (d : Side) (f : SideRec → SideRec) : (p.modSide d f).reports = p.reports := by cases d <;> rfl
@[simp] theorem Part.modSide_lane (p : Part) (d : Side) (f : SideRec → SideRec) (m : Lane) :
    (p.modSide d f).lane m = p.lane m := by cases d <;> rfl
@[simp] theorem Part.modSide_stream (p : Part) (d : Side) (f : SideRec → SideRec) (m : StreamId) :
    (p.modSide d f).stream m = p.stream m := by cases d <;> rfl
@[simp] theorem Part.modSide_side_self (p : Part) (d : Side) (f : SideRec → SideRec) :
    (p.modSide d f).side d = f (p.side d) := by cases d <;> rfl
theorem Part.modSide_side_of_ne (p : Part) {d e : Side} (h : e ≠ d) (f : SideRec → SideRec) :
    (p.modSide d f).side e = p.side e := by cases d <;> cases e <;> first | rfl | exact absurd rfl h

end Sys2Proof.Machine
end

