-- ==== Sys2Proof/Laws/Buffer.lean ====
section
/-! SUPPORT. The data buffer: every write keeps the canonical form, and a read gives what was last written. -/

namespace Sys2Proof.Machine

/-- The canonical form as two statements. -/
theorem Memory.wf_iff (m : Memory) :
    m.wf = true ↔ m.Pairwise (fun x y => x.1 < y.1) ∧ ∀ c ∈ m, c.2 ≠ 0 := by
  simp [Memory.wf]

/-- A write adds no address but its own. -/
theorem Memory.mem_write {m : Memory} {a : Nat} {b : Byte} {c : Host.Cell} (h : c ∈ Memory.write m a b) :
    c ∈ m ∨ (c = (a, b) ∧ b ≠ 0) := by
  induction m with
  | nil =>
    unfold Memory.write at h
    split at h <;> simp_all
  | cons x rest ih =>
    obtain ⟨k, v⟩ := x
    unfold Memory.write at h
    split at h
    · split at h
      · exact .inl h
      · simp only [List.mem_cons] at h ⊢
        rcases h with h | h
        · exact .inr ⟨h, by assumption⟩
        · exact .inl h
    · split at h
      · split at h
        · exact .inl (List.mem_cons_of_mem _ h)
        · simp only [List.mem_cons] at h ⊢
          rcases h with h | h
          · exact .inr ⟨h, by assumption⟩
          · exact .inl (.inr h)
      · simp only [List.mem_cons] at h ⊢
        rcases h with h | h
        · exact .inl (.inl h)
        · rcases ih h with h | h
          · exact .inl (.inr h)
          · exact .inr h

/-- A write keeps the canonical form. -/
theorem Memory.write_wf {m : Memory} (h : m.wf = true) (a : Nat) (b : Byte) : (m.write a b).wf = true := by
  rw [Memory.wf_iff] at h ⊢
  refine ⟨?_, fun c hc => ?_⟩
  · obtain ⟨hp, -⟩ := h
    induction m with
    | nil => unfold Memory.write; split <;> simp
    | cons x rest ih =>
      obtain ⟨k, v⟩ := x
      have hr := List.pairwise_cons.mp hp
      unfold Memory.write
      split
      · rename_i hak
        split
        · exact hp
        · refine List.pairwise_cons.mpr ⟨fun c hc => ?_, hp⟩
          rcases List.mem_cons.mp hc with rfl | hc
          · exact hak
          · exact Nat.lt_trans hak (hr.1 c hc)
      · split
        · rename_i hak
          subst hak
          split
          · exact hr.2
          · exact List.pairwise_cons.mpr ⟨fun c hc => hr.1 c hc, hr.2⟩
        · rename_i h1 h2
          refine List.pairwise_cons.mpr ⟨fun c hc => ?_, ih hr.2⟩
          rcases Memory.mem_write hc with hc | ⟨rfl, -⟩
          · exact hr.1 c hc
          · exact Nat.lt_of_le_of_ne (Nat.le_of_not_lt h1) (fun e => h2 e.symm)
  · rcases Memory.mem_write hc with hc | ⟨rfl, hb⟩
    · exact h.2 c hc
    · exact hb

/-- Below every listed address a byte reads as 0. -/
theorem Memory.read_eq_zero {m : Memory} {a : Nat} (h : ∀ c ∈ m, c.1 ≠ a) : m.read a = 0 := by
  induction m with
  | nil => rfl
  | cons x rest ih =>
    obtain ⟨k, v⟩ := x
    have hk : k ≠ a := h (k, v) (List.mem_cons_self ..)
    simp only [Memory.read, if_neg hk]
    exact ih (fun c hc => h c (List.mem_cons_of_mem _ hc))

/-- A read after a write: the byte written at its address, and every other byte as before. -/
theorem Memory.read_write {m : Memory} (h : m.wf = true) (a : Nat) (b : Byte) (a' : Nat) :
    (m.write a b).read a' = if a' = a then b else m.read a' := by
  rw [Memory.wf_iff] at h
  obtain ⟨hp, -⟩ := h
  induction m with
  | nil =>
    unfold Memory.write
    by_cases e : a' = a
    · subst e
      split
      · rename_i hb
        rw [if_pos rfl, hb]
        rfl
      · simp [Memory.read]
    · rw [if_neg e]
      split
      · rfl
      · exact if_neg (fun (x : a = a') => e x.symm)
  | cons x rest ih =>
    obtain ⟨k, v⟩ := x
    have hr := List.pairwise_cons.mp hp
    unfold Memory.write
    split
    · rename_i hak
      split
      · rename_i hb
        by_cases e : a' = a
        · subst e
          rw [if_pos rfl, hb]
          refine Memory.read_eq_zero (fun c hc => ?_)
          rcases List.mem_cons.mp hc with rfl | hc
          · exact Nat.ne_of_gt hak
          · exact Nat.ne_of_gt (Nat.lt_trans hak (hr.1 c hc))
        · rw [if_neg e]
      · by_cases e : a' = a
        · simp [Memory.read, e]
        · rw [if_neg e, Memory.read, if_neg (fun x => e x.symm)]
    · split
      · rename_i hak
        subst hak
        split
        · rename_i hb
          by_cases e : a' = a
          · subst e
            rw [if_pos rfl, hb]
            exact Memory.read_eq_zero (fun c hc => Nat.ne_of_gt (hr.1 c hc))
          · rw [if_neg e, Memory.read, if_neg (fun x => e x.symm)]
        · by_cases e : a' = a
          · simp [Memory.read, e]
          · rw [if_neg e, Memory.read, Memory.read, if_neg (fun x => e x.symm), if_neg (fun x => e x.symm)]
      · rename_i h1 h2
        by_cases ek : k = a'
        · subst ek
          have : k ≠ a := fun x => h2 x.symm
          simp [Memory.read, this]
        · simp only [Memory.read, if_neg ek]
          exact ih hr.2

/-- Writing a run of bytes keeps the canonical form. -/
theorem Memory.writeAll_wf {m : Memory} (h : m.wf = true) (a : Nat) (bs : List Byte) :
    (m.writeAll a bs).wf = true := by
  induction bs generalizing m a with
  | nil => exact h
  | cons b rest ih => exact ih (Memory.write_wf h a b) (a + 1)

/-- Writing a block keeps the canonical form. -/
theorem Memory.setBlock_wf {m : Memory} (h : m.wf = true) (b : BlockIx) (bytes : List Byte) :
    (m.setBlock b bytes).wf = true := Memory.writeAll_wf h _ _

/-- Writing data into blocks keeps the canonical form. -/
theorem Memory.store_wf {m : Memory} (h : m.wf = true) (bs : List BlockIx) (bytes : List Byte) :
    (m.store bs bytes).wf = true := by
  induction bs generalizing m bytes with
  | nil => exact h
  | cons b rest ih => exact ih (Memory.setBlock_wf h b bytes) _

/-- The buffer at reset has the canonical form. -/
theorem State.reset_buffer_wf : (State.reset.part.engine.buffer).wf = true := rfl

end Sys2Proof.Machine
end

