-- ==== Sys2Proof/Laws/Ops.lean ====
section
/-! SUPPORT. What each shared operation can do, said once: raising a counter, the log, the data buffer, the
placing and dropping of frames, the choice of a carrier, the delivery of a frame, the patrol's marks, the dispatch of
held requests, the choice made again, what a disposal hands over and logs. -/

namespace Sys2Proof.Machine

/-! ### The event log -/

/-- Taking an event either adds a repeat to the newest entry or appends (R146). -/
theorem EventLog.take_cases (log : EventLog) (k : EventKind) (l : Option Lane) (n : Option StreamId)
    (d : BitVec 16) (t : BitVec 32) :
    (∃ es e, log.entries = es ++ [e] ∧ e.kind = k ∧ e.lane = l ∧ e.stream = n ∧
      log.take k l n d t =
        { log with entries := es ++ [{ e with repeats := min 255 (e.repeats + 1) }] }) ∨
    ((∀ e, log.entries.getLast? = some e → ¬(e.kind = k ∧ e.lane = l ∧ e.stream = n)) ∧
      log.take k l n d t = log.append k l n d t) := by
  unfold EventLog.take
  split
  · rename_i e he
    split
    · rename_i hk
      refine .inl ⟨log.entries.dropLast, e, ?_, hk.1, hk.2.1, hk.2.2, rfl⟩
      obtain ⟨ys, hys⟩ := List.getLast?_eq_some_iff.mp he
      simp [hys]
    · rename_i hk
      refine .inr ⟨fun x hx => ?_, rfl⟩
      rw [he] at hx
      cases hx
      exact hk
  · rename_i he
    exact .inr ⟨fun x hx => by simp [he] at hx, rfl⟩

/-! ### Counters -/

/-- A raise changes the counters and, for a watched counter, the log (R155, R161). -/
theorem Part.raise_cases (p : Part) (c : CounterId) :
    p.raise c = p.setCounter c (p.counter c + 1) ∨
    (p.params.halfWatched c = true ∧
      p.raise c = (p.setCounter c (p.counter c + 1)).event .counterHalf c.lane? c.stream? c.code) := by
  by_cases h : p.counter c = 0x7FFFFFFF#32 ∧ p.params.halfWatched c = true
  · exact .inr ⟨h.2, if_pos h⟩
  · exact .inl (if_neg h)

@[simp] theorem Part.raise_now (p : Part) (c : CounterId) : (p.raise c).now = p.now := by
  rcases p.raise_cases c with h | ⟨-, h⟩ <;> simp [h]
@[simp] theorem Part.raise_params (p : Part) (c : CounterId) : (p.raise c).params = p.params := by
  rcases p.raise_cases c with h | ⟨-, h⟩ <;> simp [h]
@[simp] theorem Part.raise_intake (p : Part) (c : CounterId) : (p.raise c).intake = p.intake := by
  rcases p.raise_cases c with h | ⟨-, h⟩ <;> simp [h]
@[simp] theorem Part.raise_engine (p : Part) (c : CounterId) : (p.raise c).engine = p.engine := by
  rcases p.raise_cases c with h | ⟨-, h⟩ <;> simp [h]
@[simp] theorem Part.raise_lanes (p : Part) (c : CounterId) : (p.raise c).lanes = p.lanes := by
  rcases p.raise_cases c with h | ⟨-, h⟩ <;> simp [h]
@[simp] theorem Part.raise_sides (p : Part) (c : CounterId) : (p.raise c).sides = p.sides := by
  rcases p.raise_cases c with h | ⟨-, h⟩ <;> simp [h]
@[simp] theorem Part.raise_completions (p : Part) (c : CounterId) : (p.raise c).completions = p.completions := by
  rcases p.raise_cases c with h | ⟨-, h⟩ <;> simp [h]
@[simp] theorem Part.raise_port (p : Part) (c : CounterId) : (p.raise c).port = p.port := by
  rcases p.raise_cases c with h | ⟨-, h⟩ <;> simp [h]
@[simp] theorem Part.raise_patrol (p : Part) (c : CounterId) : (p.raise c).patrol = p.patrol := by
  rcases p.raise_cases c with h | ⟨-, h⟩ <;> simp [h]
@[simp] theorem Part.raise_reports (p : Part) (c : CounterId) : (p.raise c).reports = p.reports := by
  rcases p.raise_cases c with h | ⟨-, h⟩ <;> simp [h]
@[simp] theorem Part.raise_leakAt (p : Part) (c : CounterId) : (p.raise c).leakAt = p.leakAt := by
  rcases p.raise_cases c with h | ⟨-, h⟩ <;> simp [h]
@[simp] theorem Part.raise_stream (p : Part) (c : CounterId) (n : StreamId) :
    (p.raise c).stream n = p.stream n := by simp [Part.stream]
@[simp] theorem Part.raise_lane (p : Part) (c : CounterId) (l : Lane) : (p.raise c).lane l = p.lane l := by
  simp [Part.lane]

/-- An unwatched counter logs nothing (R161). -/
theorem Part.raise_log (p : Part) (c : CounterId) (h : p.params.halfWatched c = false) :
    (p.raise c).log = p.log := by
  rcases p.raise_cases c with h' | ⟨hw, -⟩
  · simp [h']
  · simp [h] at hw

/-- With no counter kind watched, no counter is watched. -/
theorem Part.unwatched_raise {p : Part} (h : p.unwatched) (c : CounterId) : (p.raise c).log = p.log := by
  refine p.raise_log c ?_
  obtain ⟨h1, h2, h3⟩ := h
  cases c <;> simp [Params.halfWatched, h1, h2, h3]

/-! ### Completions -/

/-- A completion handed to the port is the last one (R2). -/
@[simp] theorem Part.answerHost_completions (p : Part) (t : HostTag) (st : CompletionStatus) (d : List Byte) :
    (p.answerHost t st d).completions = p.completions ++ [⟨t, st, d⟩] := by simp [Part.answerHost]

/-- A completion of the stream engine is handed over exactly when its tag is present (R34). -/
theorem Part.complete_completions (p : Part) (n : StreamId) (t : Option HostTag) (st : CompletionStatus)
    (d : List Byte) :
    (p.complete n t st d).completions = p.completions ++ (t.map (fun x => Completion.mk x st d)).toList := by
  cases t <;> simp [Part.complete]

/-! ### The choice of carrier -/

/-- The ranking finds only a lane of the list that passes the test (R111). -/
theorem Part.ranked_spec (p : Part) (ok : Lane → Bool) (list : List Lane) (l : Lane)
    (h : p.ranked ok list = some l) : ok l = true ∧ l ∈ list := by
  unfold Part.ranked at h
  simp only at h
  split at h
  · rename_i m hm
    cases h
    have h1 := List.find?_some hm
    simp only [Bool.and_eq_true] at h1
    exact ⟨h1.1.1, List.mem_of_find?_eq_some hm⟩
  · split at h
    · rename_i m hm
      cases h
      have h1 := List.find?_some hm
      simp only [Bool.and_eq_true] at h1
      exact ⟨h1.1, List.mem_of_find?_eq_some hm⟩
    · exact ⟨List.find?_some h, List.mem_of_find?_eq_some h⟩

/-- The lane chosen is eligible (R109, R111). -/
theorem Part.choose_eligible (p : Part) (preferred : Lane) (tried : LaneSet) (k : BindingKind) (l : Lane)
    (h : p.choose preferred tried k = some l) : p.eligible tried k.excluded l = true := by
  unfold Part.choose at h
  simp only at h
  split at h
  · split at h
    · rename_i d _ hd
      cases h
      exact hd
    · exact (p.ranked_spec _ _ _ h).1
  · exact (p.ranked_spec _ _ _ h).1

/-! ### The delivery of a frame (R163) -/

@[simp] theorem LaneRec.unloop_state (r : LaneRec) : r.unloop.state = r.state := by unfold LaneRec.unloop; split <;> rfl
@[simp] theorem LaneRec.unloop_timers (r : LaneRec) : r.unloop.timers = r.timers := by
  unfold LaneRec.unloop; split <;> rfl
@[simp] theorem LaneRec.unloop_queue (r : LaneRec) : r.unloop.queue = r.queue := by unfold LaneRec.unloop; split <;> rfl
@[simp] theorem LaneRec.unloop_figure (r : LaneRec) : r.unloop.figure = r.figure := by
  unfold LaneRec.unloop; split <;> rfl
@[simp] theorem LaneRec.unloop_checker (r : LaneRec) : r.unloop.checker = r.checker := by
  unfold LaneRec.unloop; split <;> rfl
theorem LaneRec.unloop_of_not_looped {r : LaneRec} (h : r.looped = false) : r.unloop = r := by
  simp [LaneRec.unloop, h]

/-- A lane record replaced by itself leaves the part as it is. -/
theorem Part.modLane_self (p : Part) (l : Lane) (f : LaneRec → LaneRec) (h : f (p.lane l) = p.lane l) :
    p.modLane l f = p := by
  unfold Part.lane at h
  unfold Part.modLane
  rw [h]
  cases l <;> rfl

/-- A lane that is not looped back receives every frame that arrives. -/
theorem Part.arrive_of_not_looped {p : Part} {l : Lane} (h : (p.lane l).looped = false) (f : Frame) (v : Bool) :
    p.arrive l f v = p.receive l f v := by
  have hd : (p.lane l).delivers f = true := by simp [LaneRec.delivers, h]
  rw [Part.arrive, if_pos hd, p.modLane_self l _ (LaneRec.unloop_of_not_looped h)]

/-- A lane looped back with an empty path receives nothing. -/
theorem Part.arrive_of_empty_path {p : Part} {l : Lane} (h : (p.lane l).looped = true)
    (hp : (p.lane l).loopPath = []) (f : Frame) (v : Bool) : p.arrive l f v = p := by
  simp [Part.arrive, LaneRec.delivers, h, hp]

/-- A lane looped back receives no good frame but the oldest of its path, come back. -/
theorem Part.arrive_of_stranger {p : Part} {l : Lane} {sent : Frame} {path : List Frame} {f : Frame}
    (h : (p.lane l).looped = true) (hp : (p.lane l).loopPath = sent :: path) (hf : Frame.returns sent f = false)
    (v : Bool) : p.arrive l f v = p := by
  simp [Part.arrive, LaneRec.delivers, h, hp, hf]

/-- A lane looped back receives the oldest frame of its path, and the path loses it. -/
theorem Part.arrive_of_returns {p : Part} {l : Lane} {sent : Frame} {path : List Frame} {f : Frame}
    (hp : (p.lane l).loopPath = sent :: path) (hf : Frame.returns sent f = true) (v : Bool) :
    p.arrive l f v = (p.modLane l LaneRec.unloop).receive l f v := by
  simp [Part.arrive, LaneRec.delivers, hp, hf]

/-- A frame comes back as itself. -/
@[simp] theorem Frame.returns_self (f : Frame) : Frame.returns f f = true := by simp [Frame.returns]

theorem Part.arriveBad_of_not_looped {p : Part} {l : Lane} (h : (p.lane l).looped = false) (v : Bool) :
    p.arriveBad l v = p.receiveBad l v := by
  have hd : (p.lane l).deliversBad = true := by simp [LaneRec.deliversBad, h]
  rw [Part.arriveBad, if_pos hd, p.modLane_self l _ (LaneRec.unloop_of_not_looped h)]

/-! ### The patrol's marks (R167) -/

@[simp] theorem Patrol.mark_pass (t : Patrol) (k : Nat) : (t.mark k).pass = t.pass := rfl
@[simp] theorem Patrol.mark_failed (t : Patrol) (k : Nat) : (t.mark k).failed = t.failed := rfl

/-- A mark sets its own item's flag and no other. -/
theorem Patrol.mark_read (t : Patrol) (item k : Nat) (h : item < passItems) :
    (t.mark item).read.getLsbD k = (t.read.getLsbD k || k == item) := by
  rw [Patrol.mark, BitVec.getLsbD_or, BitVec.getLsbD_twoPow, decide_eq_true h, Bool.true_and]
  congr 1
  rw [Bool.eq_iff_iff, decide_eq_true_iff, beq_iff_eq]
  exact eq_comm

/-- Noting a read touches the patrol alone. -/
theorem Part.noteRead_eq (p : Part) (read : PatrolRead) : p.noteRead read = { p with patrol := (p.noteRead read).patrol } := by
  cases read with | mk reader check => cases reader <;> rfl

/-! ### Dispatch of held requests (R27) -/

/-- Dispatching nothing is no change. -/
theorem StreamRec.dispatchedTo_refl (r : StreamRec) : r.dispatchedTo r :=
  ⟨[], [], rfl, (List.append_nil _).symm, .nil, rfl, by simp⟩

/-! ### Choices made again, and what a disposal hands over and logs -/

/-- A choice made again keeps the excluded lane of the binding it replaces (R116). -/
@[simp] theorem StreamRec.kindAgain_excluded (r : StreamRec) : r.kindAgain.excluded = r.binding.excluded := by
  unfold StreamRec.kindAgain; split
  · split <;> rfl
  · rfl

/-- Outside the final binding of a MANUAL move a choice made again keeps the kind of the binding it replaces (R116). -/
theorem StreamRec.kindAgain_eq_binding (r : StreamRec)
    (h : ∀ m, r.move = some m → m.cause ≠ .manual ∨ m.drain ≠ .absent) : r.kindAgain = r.binding := by
  unfold StreamRec.kindAgain; split
  · rename_i m hm
    rw [if_neg (fun c => (h m hm).elim (· c.1) (· c.2))]
  · rfl

/-- In the final binding of a MANUAL move the target is distinguished (R138). -/
theorem StreamRec.kindAgain_final (r : StreamRec) {m : Move} (hm : r.move = some m) (hc : m.cause = .manual)
    (hd : m.drain = .absent) : r.kindAgain = { r.binding with distinguished := m.target } := by
  simp [StreamRec.kindAgain, hm, hc, hd]

/-- The completions a disposal counts as handed over are those it gives to the host (R34, R127). -/
theorem StreamRec.handed_eq_length_givenUp (r : StreamRec) : r.handed = r.givenUp.length := by
  unfold StreamRec.handed StreamRec.givenUp
  rw [List.length_append, List.length_filterMap_eq_countP, List.length_filterMap_eq_countP]
  congr 1 <;> refine List.countP_congr fun x _ => ?_
  · rcases x with ⟨_, _, _, k, t, _, _, _, _, _, _, _, _, _⟩
    cases k <;> cases t <;> simp [OttEntry.givenUp]
  · rcases x with ⟨_, _, ⟨_, k, _, _, _, _⟩⟩
    cases k <;> simp [Held.givenUp]

/-- A count of 0 logs nothing (R40, R128). -/
@[simp] theorem EventLog.counted_zero (log : EventLog) (kind : EventKind) (stream : Option StreamId)
    (time : BitVec 32) : log.counted kind stream 0 time = log := rfl

/-- A stream that holds nothing logs nothing when it is disposed of (R128). -/
@[simp] theorem StreamRec.disposalLog_of_empty (r : StreamRec) (n : StreamId) (failed : Option EntryIx)
    (time : BitVec 32) (log : EventLog) (hi : r.inflight = []) (hh : r.hold = []) :
    r.disposalLog n failed time log = log := by
  simp [StreamRec.disposalLog, StreamRec.writesLog, hi, hh]

/-- The log of a part after a disposal's count (R40, R128). -/
theorem Part.logCount_log (p : Part) (kind : EventKind) (n : StreamId) (count : Nat) :
    (p.logCount kind n count).log = p.log.counted kind (some n) count p.timeCounter := by
  unfold Part.logCount EventLog.counted; split <;> rfl

/-- A stream's hold-list head meets the conditions of R26 exactly when the model finds it ready (R27). -/
theorem Part.headReady_iff (p : Part) (n : StreamId) :
    p.headReady n = true ↔ (p.stream n).headMeets p.params := by
  unfold Part.headReady StreamRec.headMeets
  cases hh : (p.stream n).hold with
  | nil => simp
  | cons h hs =>
    simp [Part.windowAllows, StreamRec.swapCount, List.countP_eq_length_filter, ← imp_iff_not_or]

/-! ### The drop tally -/

/-- An open tally is logged and closed; with none open nothing changes (R7). -/
theorem Part.flushTally_log (p : Part) :
    p.flushTally.log = match p.intake.tally with
      | none => p.log
      | some t => p.log.take .writesDropped none t.key (sat16 t.count) p.timeCounter := by
  unfold Part.flushTally; cases h : p.intake.tally <;> rfl

/-- Logging the tally closes it and changes nothing else of the intake (R7). -/
theorem Part.flushTally_intake (p : Part) : p.flushTally.intake = { p.intake with tally := none } := by
  unfold Part.flushTally; cases h : p.intake.tally
  · rcases p with ⟨_, _, _, ⟨_, _, _, _, _, _, _, _, _⟩⟩; cases h; rfl
  · rfl

/-- An event that completes no quiesce leaves the tally as it is. -/
theorem Part.flushForQuiesce_of_not (p : Part) (h : p.intake.service ≠ .quiescing) : p.flushForQuiesce = p := by
  simp [Part.flushForQuiesce, h]

end Sys2Proof.Machine
end

