-- ==== Sys2Proof/Laws/Frames.lean ====
section
/-! SUPPORT. What each shared operation can change, said once: `StreamsOnly` for the stream engine's own work,
`EngineWork` for work that also hands completions over, `LaneWork` for changes of lanes. Each lemma carries a frame
past one more operation, so that a frame of a composed operation is the chain of its parts. -/

namespace Sys2Proof.Machine

/-- What the stream engine's own work leaves as it is: everything but stream records, pools, owner marks, the
arbiter's place, transmit queues, the log, the counters and the reports. -/
structure Part.StreamsOnly (p q : Part) : Prop where
  now : q.now = p.now
  leakAt : q.leakAt = p.leakAt
  params : q.params = p.params
  intake : q.intake = p.intake
  completions : q.completions = p.completions
  sides : q.sides = p.sides
  patrol : q.patrol = p.patrol
  port : q.port = p.port
  buffer : q.engine.buffer = p.engine.buffer
  lane : ∀ l, q.lane l = { p.lane l with queue := (q.lane l).queue }

/-- What work that ends transactions leaves as it is: the same but that completions are added and tags move. -/
structure Part.EngineWork (p q : Part) : Prop where
  now : q.now = p.now
  leakAt : q.leakAt = p.leakAt
  params : q.params = p.params
  intake : q.intake = { p.intake with openTags := q.intake.openTags }
  completions : p.completions <+: q.completions
  sides : q.sides = p.sides
  patrol : q.patrol = p.patrol
  port : q.port = p.port
  buffer : q.engine.buffer = p.engine.buffer
  lane : ∀ l, q.lane l = { p.lane l with queue := (q.lane l).queue }

/-- What a change of a lane leaves as it is, with all that follows it in the side monitor and the streams. -/
structure Part.LaneWork (p q : Part) : Prop where
  now : q.now = p.now
  leakAt : q.leakAt = p.leakAt
  params : q.params = p.params
  intake : q.intake = p.intake
  completions : q.completions = p.completions
  patrol : q.patrol = p.patrol
  port : q.port = p.port
  buffer : q.engine.buffer = p.engine.buffer

variable {p q r : Part}

theorem Part.StreamsOnly.refl (p : Part) : p.StreamsOnly p := by constructor <;> simp
theorem Part.LaneWork.refl (p : Part) : p.LaneWork p := by constructor <;> rfl

theorem Part.StreamsOnly.trans (h : p.StreamsOnly q) (k : q.StreamsOnly r) : p.StreamsOnly r where
  now := k.now.trans h.now
  leakAt := k.leakAt.trans h.leakAt
  params := k.params.trans h.params
  intake := k.intake.trans h.intake
  completions := k.completions.trans h.completions
  sides := k.sides.trans h.sides
  patrol := k.patrol.trans h.patrol
  port := k.port.trans h.port
  buffer := k.buffer.trans h.buffer
  lane l := by rw [k.lane l, h.lane l]

theorem Part.EngineWork.trans (h : p.EngineWork q) (k : q.EngineWork r) : p.EngineWork r where
  now := k.now.trans h.now
  leakAt := k.leakAt.trans h.leakAt
  params := k.params.trans h.params
  intake := by rw [k.intake, h.intake]
  completions := h.completions.trans k.completions
  sides := k.sides.trans h.sides
  patrol := k.patrol.trans h.patrol
  port := k.port.trans h.port
  buffer := k.buffer.trans h.buffer
  lane l := by rw [k.lane l, h.lane l]

theorem Part.LaneWork.trans (h : p.LaneWork q) (k : q.LaneWork r) : p.LaneWork r where
  now := k.now.trans h.now
  leakAt := k.leakAt.trans h.leakAt
  params := k.params.trans h.params
  intake := k.intake.trans h.intake
  completions := k.completions.trans h.completions
  patrol := k.patrol.trans h.patrol
  port := k.port.trans h.port
  buffer := k.buffer.trans h.buffer

/-- The stream engine's own work ends no transaction. -/
theorem Part.StreamsOnly.work (h : p.StreamsOnly q) : p.EngineWork q where
  now := h.now
  leakAt := h.leakAt
  params := h.params
  intake := by rw [h.intake]
  completions := by rw [h.completions]
  sides := h.sides
  patrol := h.patrol
  port := h.port
  buffer := h.buffer
  lane := h.lane

theorem Part.StreamsOnly.lanes (h : p.StreamsOnly q) : p.LaneWork q :=
  ⟨h.now, h.leakAt, h.params, h.intake, h.completions, h.patrol, h.port, h.buffer⟩

theorem Part.EngineWork.refl (p : Part) : p.EngineWork p := (Part.StreamsOnly.refl p).work

/-! ### The simple updates -/

theorem Part.streamsOnly_event (p : Part) (k : EventKind) (l : Option Lane) (n : Option StreamId) (d : BitVec 16) :
    p.StreamsOnly (p.event k l n d) := by constructor <;> simp [Part.lane]

theorem Part.streamsOnly_raise (p : Part) (c : CounterId) : p.StreamsOnly (p.raise c) := by
  constructor <;> simp

theorem Part.streamsOnly_report (p : Part) (r : Report) : p.StreamsOnly (p.report r) := by
  constructor <;> simp [Part.lane]

theorem Part.streamsOnly_modStream (p : Part) (n : StreamId) (f : StreamRec → StreamRec) :
    p.StreamsOnly (p.modStream n f) := by constructor <;> simp [Part.lane, Part.modStream]

theorem Part.streamsOnly_modEngine (p : Part) (f : Engine → Engine) (hf : (f p.engine).buffer = p.engine.buffer) :
    p.StreamsOnly (p.modEngine f) := by constructor <;> simp [Part.lane, Part.modEngine, hf]

theorem Part.streamsOnly_place (p : Part) (l : Lane) (f : Frame) : p.StreamsOnly (p.place l f) := by
  constructor <;> try rfl
  intro m; unfold Part.place; cases l <;> cases m <;> simp [Part.lane, Part.modLane, Lanes.get, Lanes.set]

theorem Part.streamsOnly_unqueue (p : Part) (test : Frame → Bool) : p.StreamsOnly (p.unqueue test) := by
  constructor <;> try rfl
  intro m; unfold Part.unqueue; cases m <;> simp [Part.lane, Part.modLanes, Lanes.get]

theorem Part.streamsOnly_foldl {α : Type} (f : Part → α → Part) (hf : ∀ (q : Part) (x : α), q.StreamsOnly (f q x)) (xs : List α) :
    ∀ p : Part, p.StreamsOnly (xs.foldl f p) := by
  induction xs with
  | nil => exact Part.StreamsOnly.refl
  | cons x xs ih => exact fun p => (hf p x).trans (ih (f p x))

theorem Part.engineWork_foldl {α : Type} (f : Part → α → Part) (hf : ∀ (q : Part) (x : α), q.EngineWork (f q x)) (xs : List α) :
    ∀ p : Part, p.EngineWork (xs.foldl f p) := by
  induction xs with
  | nil => exact Part.EngineWork.refl
  | cons x xs ih => exact fun p => (hf p x).trans (ih (f p x))

/-! ### Tables, dispatch, the arbiter and retirement -/

theorem Part.streamsOnly_dropFrames (p : Part) (n : StreamId) : p.StreamsOnly (p.dropFrames n) :=
  p.streamsOnly_unqueue _

theorem Part.streamsOnly_own (p : Part) (bs : List BlockIx) (o : Option Owner) : p.StreamsOnly (p.own bs o) :=
  p.streamsOnly_modEngine _ rfl

theorem Part.streamsOnly_freeBlocks (p : Part) (bs : List BlockIx) : p.StreamsOnly (p.freeBlocks bs) :=
  p.streamsOnly_modEngine _ rfl

theorem Part.streamsOnly_freeEntry (p : Part) (i : EntryIx) : p.StreamsOnly (p.freeEntry i) :=
  p.streamsOnly_modEngine _ rfl

theorem Part.streamsOnly_freeSlot (p : Part) (i : SlotIx) : p.StreamsOnly (p.freeSlot i) :=
  p.streamsOnly_modEngine _ rfl

theorem Part.streamsOnly_queueRequest (p : Part) (n : StreamId) (e : OttEntry) :
    p.StreamsOnly (p.queueRequest n e) := by
  unfold Part.queueRequest; split
  · exact p.streamsOnly_place _ _
  · exact .refl p

theorem Part.streamsOnly_dispatch (p : Part) (n : StreamId) (w : Work) : p.StreamsOnly (p.dispatch n w) := by
  unfold Part.dispatch; split
  · exact .refl p
  · exact ((((p.streamsOnly_modEngine _ rfl).trans (Part.streamsOnly_own _ _ _)).trans
      (Part.streamsOnly_modStream _ _ _)).trans (Part.streamsOnly_queueRequest _ _ _)).trans
      (Part.streamsOnly_raise _ _)

theorem Part.streamsOnly_holdWork (p : Part) (n : StreamId) (w : Work) : p.StreamsOnly (p.holdWork n w) := by
  unfold Part.holdWork; split
  · exact .refl p
  · exact ((p.streamsOnly_modEngine _ rfl).trans (Part.streamsOnly_own _ _ _)).trans
      (Part.streamsOnly_modStream _ _ _)

theorem Part.streamsOnly_dispatchHead (p : Part) (n : StreamId) : p.StreamsOnly (p.dispatchHead n) := by
  unfold Part.dispatchHead; split
  · exact .refl p
  · exact ((p.streamsOnly_modStream _ _).trans (Part.streamsOnly_freeSlot _ _)).trans
      (Part.streamsOnly_dispatch _ _ _)

theorem Part.streamsOnly_dispatchHeld (n : StreamId) (k : Nat) : ∀ p : Part, p.StreamsOnly (p.dispatchHeld n k) := by
  induction k with
  | zero => exact .refl
  | succ k ih =>
    intro p; unfold Part.dispatchHeld; split
    · exact (p.streamsOnly_dispatchHead n).trans (ih _)
    · exact .refl p

theorem Part.streamsOnly_arbitrate (k : Nat) : ∀ p : Part, p.StreamsOnly (p.arbitrate k) := by
  induction k with
  | zero => exact .refl
  | succ k ih =>
    intro p; unfold Part.arbitrate; split
    · exact .refl p
    · split
      · exact .refl p
      · exact ((p.streamsOnly_dispatchHead _).trans (Part.streamsOnly_modEngine _ _ rfl)).trans (ih _)

theorem Part.streamsOnly_serve (p : Part) : p.StreamsOnly p.serve := Part.streamsOnly_arbitrate 64 p

theorem Part.streamsOnly_retire (p : Part) (n : StreamId) (e : OttEntry) : p.StreamsOnly (p.retire n e) :=
  (((p.streamsOnly_modStream _ _).trans (Part.streamsOnly_freeBlocks _ _)).trans
    (Part.streamsOnly_freeEntry _ _)).trans (Part.streamsOnly_unqueue _ _)

theorem Part.streamsOnly_retireWrites (p : Part) (n : StreamId) (mark : Seq) (own : Option Seq) :
    p.StreamsOnly (p.retireWrites n mark own) :=
  Part.streamsOnly_foldl _ (fun q e => by
    show q.StreamsOnly (q.retireWrite n own e)
    unfold Part.retireWrite
    by_cases h : own = some e.seq
    · simpa [h] using q.streamsOnly_retire n e
    · simpa [h] using (q.streamsOnly_retire n e).trans (Part.streamsOnly_raise _ _)) _ p

/-! ### Binding, stall, rewind, failover and moves -/

theorem Part.streamsOnly_landOn (p : Part) (n : StreamId) (l : Lane) : p.StreamsOnly (p.landOn n l) :=
  (p.streamsOnly_modStream _ _).trans (Part.streamsOnly_place _ _ _)

theorem Part.streamsOnly_abandonAtStall (p : Part) (n : StreamId) : p.StreamsOnly (p.abandonAtStall n) := by
  unfold Part.abandonAtStall; split
  · exact .refl p
  · exact (p.streamsOnly_modStream _ _).trans (Part.streamsOnly_event _ _ _ _ _)

theorem Part.streamsOnly_startStall (p : Part) (n : StreamId) : p.StreamsOnly (p.startStall n) := by
  unfold Part.startStall; split
  · exact .refl p
  · exact (p.streamsOnly_modStream _ _).trans (Part.streamsOnly_event _ _ _ _ _)

theorem Part.streamsOnly_stall (p : Part) (n : StreamId) : p.StreamsOnly (p.stall n) :=
  ((p.streamsOnly_abandonAtStall n).trans (Part.streamsOnly_modStream _ _ _)).trans
    (Part.streamsOnly_startStall _ _)

theorem Part.streamsOnly_openBinding (p : Part) (n : StreamId) (k : BindingKind) : p.StreamsOnly (p.openBinding n k) :=
  ((p.streamsOnly_modStream _ _).trans (Part.streamsOnly_dropFrames _ _)).trans (Part.streamsOnly_raise _ _)

theorem Part.streamsOnly_bind (p : Part) (n : StreamId) (k : BindingKind) : p.StreamsOnly (p.bind n k) := by
  refine (p.streamsOnly_openBinding n k).trans (r := p.bind n k) ?_
  unfold Part.bind Part.settleChoice; split
  · exact Part.streamsOnly_landOn _ _ _
  · exact Part.streamsOnly_stall _ _

theorem Part.streamsOnly_migrated (p : Part) (n : StreamId) (left : Lane) : p.StreamsOnly (p.migrated n left) := by
  unfold Part.migrated; split
  · split
    · exact .refl p
    · exact p.streamsOnly_event _ _ _ _
  · exact .refl p

theorem Part.streamsOnly_rewind (p : Part) (n : StreamId) (c : RewindCause) : p.StreamsOnly (p.rewind n c) := by
  unfold Part.rewind; split
  · exact ((((p.streamsOnly_report _).trans (Part.streamsOnly_event _ _ _ _ _)).trans
      (Part.streamsOnly_raise _ _)).trans (Part.streamsOnly_bind _ _ _)).trans (Part.streamsOnly_report _ _)
  · exact .refl p

theorem Part.streamsOnly_failover (p : Part) (n : StreamId) (l : Lane) : p.StreamsOnly (p.failover n l) :=
  ((p.streamsOnly_modStream _ _).trans (Part.streamsOnly_bind _ _ _)).trans (Part.streamsOnly_migrated _ _ _)

theorem Part.streamsOnly_failoverAll (p : Part) (l : Lane) : p.StreamsOnly (p.failoverAll l) :=
  Part.streamsOnly_foldl _ (fun q n => by
    by_cases h : (q.stream n).carrier = some l
    · simpa [h] using q.streamsOnly_failover n l
    · simpa [h] using Part.StreamsOnly.refl q) _ p

theorem Part.streamsOnly_releaseStalled (p : Part) : p.StreamsOnly p.releaseStalled :=
  Part.streamsOnly_foldl _ (fun q n => by
    by_cases h : (q.stream n).state = .stalled
    · simpa [h, Part.release] using (q.streamsOnly_modStream n _).trans (Part.streamsOnly_bind _ _ _)
    · simpa [h] using Part.StreamsOnly.refl q) _ p

theorem Part.streamsOnly_endDrain (p : Part) (n : StreamId) : p.StreamsOnly (p.endDrain n) := by
  unfold Part.endDrain; split
  · exact .refl p
  · exact ((p.streamsOnly_modStream _ _).trans (Part.streamsOnly_bind _ _ _)).trans
      (Part.streamsOnly_migrated _ _ _)

theorem Part.streamsOnly_judgeDrain (p : Part) (n : StreamId) : p.StreamsOnly (p.judgeDrain n) := by
  unfold Part.judgeDrain; split
  · exact p.streamsOnly_endDrain n
  · exact .refl p

theorem Part.streamsOnly_startMove (p : Part) (n : StreamId) (t : Option Lane) (c : MoveCause) :
    p.StreamsOnly (p.startMove n t c) := by
  unfold Part.startMove; split
  · exact .refl p
  · exact (p.streamsOnly_modStream _ _).trans (Part.streamsOnly_judgeDrain _ _)

theorem Part.streamsOnly_judgeLeaving (p : Part) (n : StreamId) : p.StreamsOnly (p.judgeLeaving n) := by
  unfold Part.judgeLeaving; split
  · exact .refl p
  · split
    · exact p.streamsOnly_startMove _ _ _
    · exact .refl p

theorem Part.streamsOnly_leavingMoves (p : Part) (l : Lane) : p.StreamsOnly (p.leavingMoves l) :=
  Part.streamsOnly_foldl _ (fun q n => by
    by_cases h : (q.stream n).carrier = some l
    · simpa [h] using q.streamsOnly_judgeLeaving n
    · simpa [h] using Part.StreamsOnly.refl q) _ p

theorem Part.streamsOnly_judgeReturn (p : Part) (n : StreamId) : p.StreamsOnly (p.judgeReturn n) := by
  unfold Part.judgeReturn; split
  · split
    · exact .refl p
    · exact p.streamsOnly_modStream _ _
  · exact p.streamsOnly_modStream _ _

theorem Part.streamsOnly_judgeReturns (p : Part) (l : Lane) : p.StreamsOnly (p.judgeReturns l) :=
  Part.streamsOnly_foldl _ (fun q n => by
    by_cases h : (q.stream n).preferred = l
    · simpa [h] using q.streamsOnly_judgeReturn n
    · simpa [h] using Part.StreamsOnly.refl q) _ p

theorem Part.streamsOnly_afterBound (p : Part) (n : StreamId) : p.StreamsOnly (p.afterBound n) :=
  (((p.streamsOnly_judgeLeaving n).trans (Part.streamsOnly_dispatchHeld n 64 _)).trans
    (Part.streamsOnly_serve _)).trans (Part.streamsOnly_judgeReturn _ _)

theorem Part.streamsOnly_endBinding (p : Part) (n : StreamId) : p.StreamsOnly (p.endBinding n) := by
  unfold Part.endBinding; split
  · exact (p.streamsOnly_modStream _ _).trans (Part.streamsOnly_afterBound _ _)
  · split
    · exact ((p.streamsOnly_modStream _ _).trans (Part.streamsOnly_event _ _ _ _ _)).trans
        (Part.streamsOnly_afterBound _ _)
    · exact (p.streamsOnly_modStream _ _).trans (Part.streamsOnly_judgeDrain _ _)

theorem Part.streamsOnly_judgeReplay (p : Part) (n : StreamId) : p.StreamsOnly (p.judgeReplay n) := by
  unfold Part.judgeReplay; split
  · exact .refl p
  · split
    · exact p.streamsOnly_endBinding n
    · exact .refl p

theorem Part.streamsOnly_replay (p : Part) (n : StreamId) : p.StreamsOnly (p.replay n) :=
  (p.streamsOnly_modStream _ _).trans (Part.streamsOnly_foldl _ (fun q s => by
    show q.StreamsOnly (q.replayEntry n s)
    unfold Part.replayEntry; split
    · exact .refl q
    · exact ((q.streamsOnly_modStream _ _).trans (Part.streamsOnly_queueRequest _ _ _)).trans
        (Part.streamsOnly_raise _ _)) _ _)

/-! ### Completions and disposal -/

theorem Part.engineWork_complete (p : Part) (n : StreamId) (t : Option HostTag) (st : CompletionStatus)
    (d : List Byte) : p.EngineWork (p.complete n t st d) := by
  cases t with
  | none => exact (p.streamsOnly_raise _).work
  | some t =>
    refine Part.EngineWork.trans (q := (p.setTag t false).answerHost t st d) ?_ (Part.streamsOnly_raise _ _).work
    constructor <;> simp [Part.answerHost, Part.setTag, Part.lane]

theorem Part.engineWork_giveUp (p : Part) (n : StreamId) (x : Ending) : p.EngineWork (p.giveUp n x) := by
  unfold Part.giveUp; split
  · exact p.engineWork_complete _ _ _ _
  · split
    · exact (p.engineWork_complete _ _ _ _).trans (Part.streamsOnly_event _ _ _ _ _).work
    · exact p.engineWork_complete _ _ _ _
  · exact .refl p

theorem Part.engineWork_giveUpHeld (p : Part) (n : StreamId) (st : CompletionStatus) (h : Held) :
    p.EngineWork (p.giveUpHeld n st h) := by
  unfold Part.giveUpHeld; split
  · exact .refl p
  · exact p.engineWork_complete _ _ _ _

theorem Part.streamsOnly_logCount (p : Part) (k : EventKind) (n : StreamId) (c : Nat) :
    p.StreamsOnly (p.logCount k n c) := by
  unfold Part.logCount; split
  · exact .refl p
  · exact p.streamsOnly_event _ _ _ _

theorem Part.streamsOnly_emptyStream (p : Part) (n : StreamId) (failed : Option EntryIx) :
    p.StreamsOnly (p.emptyStream n failed) := by
  unfold Part.emptyStream
  exact ((p.streamsOnly_modStream _ _).trans (Part.streamsOnly_freeBlocks _ _)).trans
    (Part.streamsOnly_modEngine _ _ rfl)

theorem Part.engineWork_dispose (p : Part) (n : StreamId) (failed : Option EntryIx) :
    p.EngineWork (p.dispose n failed) :=
  ((((Part.engineWork_foldl _ (fun q x => q.engineWork_giveUp n x) _ p).trans
    (Part.engineWork_foldl _ (fun q h => q.engineWork_giveUpHeld n _ h) _ _)).trans
    (Part.streamsOnly_logCount _ _ _ _).work).trans (Part.streamsOnly_logCount _ _ _ _).work).trans
    (Part.streamsOnly_emptyStream _ _ _).work

theorem Part.engineWork_fault (p : Part) (n : StreamId) (reason : BitVec 16) (failed : Option EntryIx) :
    p.EngineWork (p.fault n reason failed) :=
  (((((p.streamsOnly_event _ _ _ _).trans (Part.streamsOnly_dropFrames _ _)).work.trans
    (Part.engineWork_dispose _ _ _)).trans (Part.streamsOnly_modStream _ _ _).work).trans
    (Part.streamsOnly_serve _).work)

theorem Part.engineWork_expireStall (p : Part) (n : StreamId) : p.EngineWork (p.expireStall n) :=
  (((((p.streamsOnly_dropFrames n).work.trans (Part.engineWork_dispose _ _ _)).trans
    (Part.streamsOnly_event _ _ _ _ _).work).trans (Part.streamsOnly_modStream _ _ _).work).trans
    (Part.streamsOnly_serve _).work)

/-! ### Changes of lanes -/

theorem Part.laneWork_modLane (p : Part) (l : Lane) (f : LaneRec → LaneRec) : p.LaneWork (p.modLane l f) := by
  constructor <;> simp

theorem Part.laneWork_modSide (p : Part) (d : Side) (f : SideRec → SideRec) : p.LaneWork (p.modSide d f) := by
  cases d <;> (constructor <;> rfl)

theorem Part.laneWork_updateSide (p : Part) (l : Lane) : p.LaneWork (p.updateSide l) := by
  unfold Part.updateSide
  dsimp only
  split
  · exact ((p.laneWork_modSide _ _).trans (Part.laneWork_modSide _ _ _)).trans
      (Part.streamsOnly_event _ _ _ _ _).lanes
  · split
    · exact (p.laneWork_modSide _ _).trans (Part.streamsOnly_event _ _ _ _ _).lanes
    · exact p.laneWork_modSide _ _

theorem Part.laneWork_sideTakes (p : Part) (l : Lane) (old new : LaneState) : p.LaneWork (p.sideTakes l old new) := by
  unfold Part.sideTakes
  dsimp only
  refine Part.LaneWork.trans ?_ (Part.laneWork_updateSide _ l)
  have h1 : p.LaneWork (if old.inService = true ∧ new.inService = false then p.noteLoss l else p) := by
    split
    · exact p.laneWork_modSide _ _
    · exact .refl p
  split
  · exact h1.trans (Part.laneWork_modSide _ _ _)
  · exact h1

theorem Part.laneWork_streamsTake (p : Part) (l : Lane) (old new : LaneState) :
    p.LaneWork (p.streamsTake l old new) := by
  unfold Part.streamsTake
  dsimp only
  refine Part.LaneWork.trans ?_ (Part.streamsOnly_judgeReturns _ l).lanes
  have h1 : p.LaneWork (if old.inService = true ∧ new.inService = false then p.failoverAll l else p) := by
    split
    · exact (p.streamsOnly_failoverAll l).lanes
    · exact .refl p
  split
  · exact h1.trans (Part.streamsOnly_releaseStalled _).lanes
  · exact h1

/-- A change of lane state at the lane and its side, whose own event leaves as it is what a change of a lane
leaves. -/
theorem Part.laneWork_moveLane (p : Part) (l : Lane) (new : LaneState) (enter : LaneRec → LaneRec)
    (log : Part → Part) (hlog : ∀ q : Part, q.LaneWork (log q)) : p.LaneWork (p.moveLane l new enter log) :=
  ((p.laneWork_modLane _ _).trans (hlog _)).trans (Part.laneWork_sideTakes _ _ _ _)

/-- A change of lane state, whose own event leaves as it is what a change of a lane leaves. -/
theorem Part.laneWork_changeLane (p : Part) (l : Lane) (new : LaneState) (enter : LaneRec → LaneRec)
    (log : Part → Part) (hlog : ∀ q : Part, q.LaneWork (log q)) : p.LaneWork (p.changeLane l new enter log) :=
  (p.laneWork_moveLane l new enter log hlog).trans (Part.laneWork_streamsTake _ _ _ _)

theorem laneWork_laneEvent (k : EventKind) (l : Lane) (d : BitVec 16) (p : Part) : p.LaneWork (laneEvent k l d p) :=
  (p.streamsOnly_event _ _ _ _).lanes

/-- What the streams take of several lanes' changes is the stream engine's own work (R112). -/
theorem Part.streamsOnly_streamsFollow (p was : Part) : p.StreamsOnly (p.streamsFollow was) := by
  unfold Part.streamsFollow
  dsimp only
  have fail : ∀ ls : List Lane, p.StreamsOnly (ls.foldl (fun q l =>
      if (was.lane l).state.inService = true ∧ (p.lane l).state.inService = false then q.failoverAll l else q) p) :=
    fun ls => Part.streamsOnly_foldl _ (fun q l => by
      split
      · exact q.streamsOnly_failoverAll l
      · exact .refl q) ls p
  have judge : ∀ (q : Part) (ls : List Lane), q.StreamsOnly (ls.foldl (fun q l =>
      if (p.lane l).state = (was.lane l).state then q else q.judgeReturns l) q) :=
    fun q ls => Part.streamsOnly_foldl _ (fun q l => by
      split
      · exact .refl q
      · exact q.streamsOnly_judgeReturns l) ls q
  split
  · exact ((fail _).trans (Part.streamsOnly_releaseStalled _)).trans (judge _ _)
  · exact (fail _).trans (judge _ _)

theorem Part.laneWork_downLane (p : Part) (l : Lane) (c : DownCause) (low : Nat) : p.LaneWork (p.downLane l c low) :=
  p.laneWork_moveLane _ _ _ _ (fun q => (q.streamsOnly_raise _).lanes.trans (laneWork_laneEvent _ _ _ _))

theorem Part.laneWork_enterDown (p : Part) (l : Lane) (c : DownCause) (low : Nat) : p.LaneWork (p.enterDown l c low) :=
  (p.laneWork_downLane l c low).trans (Part.laneWork_streamsTake _ _ _ _)

theorem Part.laneWork_recoverLane (p : Part) (l : Lane) : p.LaneWork (p.recoverLane l) :=
  p.laneWork_moveLane _ _ _ _ (laneWork_laneEvent _ _ _)

theorem Part.laneWork_degradeLane (p : Part) (l : Lane) : p.LaneWork (p.degradeLane l) :=
  p.laneWork_moveLane _ _ _ _ (laneWork_laneEvent _ _ _)

theorem Part.laneWork_hold (p : Part) (l : Lane) : p.LaneWork (p.hold l) :=
  p.laneWork_changeLane _ _ _ _ (laneWork_laneEvent _ _ _)

theorem Part.laneWork_suppress (p : Part) (l : Lane) (d : BitVec 16) : p.LaneWork (p.suppress l d) := by
  unfold Part.suppress; split
  · exact .refl p
  · exact (p.laneWork_modLane _ _).trans (Part.streamsOnly_event _ _ _ _ _).lanes

/-- The threshold evaluation at a lane and its side (R94). -/
theorem Part.laneWork_evaluateLane (p : Part) (l : Lane) : p.LaneWork (p.evaluateLane l) := by
  have down : p.LaneWork (p.distressDown l) := by
    unfold Part.distressDown; split
    · exact p.laneWork_suppress _ _
    · exact p.laneWork_downLane _ _ _
  have degrade : p.LaneWork (p.distressDegrade l) := by
    unfold Part.distressDegrade; split
    · exact p.laneWork_suppress _ _
    · exact p.laneWork_degradeLane l
  unfold Part.evaluateLane; split
  · split
    · exact down
    · split
      · exact degrade
      · exact .refl p
  · split
    · exact down
    · split
      · exact p.laneWork_recoverLane l
      · exact .refl p
  · exact .refl p

theorem Part.laneWork_evaluate (p : Part) (l : Lane) : p.LaneWork (p.evaluate l) :=
  (p.laneWork_evaluateLane l).trans (Part.streamsOnly_streamsFollow _ _).lanes

theorem Part.laneWork_addWeight (p : Part) (l : Lane) (w : Nat) : p.LaneWork (p.addWeight l w) := by
  unfold Part.addWeight; split
  · exact (p.laneWork_modLane _ _).trans (Part.laneWork_evaluate _ _)
  · exact .refl p

theorem Part.laneWork_leak (p : Part) (l : Lane) : p.LaneWork (p.leak l) := by
  unfold Part.leak; split
  · exact .refl p
  · exact (p.laneWork_modLane _ _).trans (Part.laneWork_evaluate _ _)

theorem Part.laneWork_enterQuiet (p : Part) (l : Lane) (log : Part → Part) (hlog : ∀ q : Part, q.LaneWork (log q)) :
    p.LaneWork (p.enterQuiet l log) := by
  unfold Part.enterQuiet; exact p.laneWork_changeLane _ _ _ _ hlog

theorem Part.laneWork_enterOff (p : Part) (l : Lane) (reason : OffReason) (log : Part → Part)
    (hlog : ∀ q : Part, q.LaneWork (log q)) : p.LaneWork (p.enterOff l reason log) := by
  unfold Part.enterOff; exact p.laneWork_changeLane _ _ _ _ hlog

theorem Part.laneWork_judgeRestarts (p : Part) : p.LaneWork p.judgeRestarts := by
  have one : ∀ (q : Part) (l : Lane), q.LaneWork (q.judgeRestart l) := by
    intro q l; unfold Part.judgeRestart; split
    · exact q.laneWork_enterQuiet l _ (laneWork_laneEvent _ _ _)
    · exact .refl q
  exact (((one p .a0).trans (one _ .a1)).trans (one _ .b0)).trans (one _ .b1)

end Sys2Proof.Machine
end

