-- ==== Sys2Proof/Machine/Endpoint.lean ====
section
/-! DEFINITION. The far side's duties on which the part depends (section 3.3): the endpoint's stream context,
and what it does with an ASK and a REQUEST (R51 to R56). The part holds none of this state and its step
does not call it; it is here so that claims can speak of what the part's frames meet. -/

namespace Sys2Proof.Machine

/-- A result in the recall store: OK with the old value, or ERROR (R56). -/
inductive Recalled where
  | ok (old : List Byte)
  | error
  deriving DecidableEq, Repr

/-- An endpoint's context for one pair of source node and stream (R51). -/
structure Context where
  epoch : Epoch
  mark : Seq
  gapSent : Bool
  rejections : BitVec 8
  /-- Newest first, at most as many as the declared depth. -/
  results : List (Seq × Recalled)
  depth : BitVec 6
  deriving DecidableEq, Repr

/-- The context that the first ASK of a pair creates (R51). -/
def Context.created (epoch : Epoch) (depth : BitVec 6) : Context :=
  { epoch, mark := 4095, gapSent := false, rejections := 0, results := [], depth }

/-- The TELL of a context (R49); `fresh` when this ASK created it. -/
def Context.tell (c : Context) (ask : Header) (fresh : Bool) : Frame :=
  { kind := .tell
    header := { Header.zero with
      markValid := !fresh, fresh := fresh, epoch := ask.epoch, source := ask.destination,
      destination := ask.source, stream := ask.stream, mark := if fresh then 0 else c.mark,
      recallDepth := c.depth, rejections := c.rejections }
    payload := [] }

/-- An ASK is always adopted: its epoch becomes current, gap-sent is cleared, and results before its oldest
sequence may be dropped (R52); this endpoint drops them. -/
def Context.adopt (c : Context) (ask : Header) : Context :=
  { c with epoch := ask.epoch, gapSent := false,
           results := c.results.filter (fun x => !serialBefore x.1 ask.mark) }

/-- An ASK at the endpoint: the context after it and its TELL (R51, R52). -/
def takeAsk (c : Option Context) (depth : BitVec 6) (ask : Header) : Context × Frame :=
  match c with
  | none => (Context.created ask.epoch depth, (Context.created ask.epoch depth).tell ask true)
  | some c => (c.adopt ask, (c.adopt ask).tell ask false)

/-- The class of a REQUEST of the current epoch (R53). -/
inductive RequestClass where
  | next | duplicate | ahead
  deriving DecidableEq, Repr

/-- The class by the difference of the sequence and the applied mark (R53). -/
def Context.classify (c : Context) (s : Seq) : RequestClass :=
  let d := (s - c.mark).toNat
  if d = 1 then .next else if 2 ≤ d ∧ d ≤ 2048 then .ahead else .duplicate

/-- What carrying out an op gives: a status and the bytes of its ANSWER (R54). -/
structure Executed where
  ok : Bool
  bytes : List Byte
  memory : Memory

/-- The bytes of a memory from an address on. -/
def Memory.bytesAt (m : Memory) (a len : Nat) : List Byte := (List.range len).map (fun i => m.read (a + i))

/-- Carries out an op at the node; `able` says whether the node can (R54). -/
def execute (m : Memory) (able : Bool) (f : Frame) : Executed :=
  let a := f.header.address.toNat
  if !able || f.header.poison then ⟨false, [], m⟩
  else if f.header.op = 1#4 then ⟨true, m.bytesAt a (4 * (f.header.lengthCode.toNat + 1)), m⟩
  else if f.header.op = 2#4 then ⟨true, [], m.writeAll a f.payload⟩
  else
    let old := m.bytesAt a 8
    ⟨true, old, if old = f.payload.take 8 then m.writeAll a (f.payload.drop 8) else m⟩

/-- The recall store with the result of an applied SWAP (R56). R56 lets a store drop results older than the declared
depth; this endpoint always drops them (log entry 61: DESIGN CHOICE). -/
def Context.record (c : Context) (s : Seq) (x : Recalled) : Context :=
  { c with results := ((s, x) :: c.results.filter (fun y => y.1 != s)).take c.depth.toNat }

/-- An ANSWER of a context (R48); `st` is the status code. -/
def Context.answer (c : Context) (req : Header) (st : BitVec 4) (payload : List Byte) : Frame :=
  { kind := .answer
    header := { Header.zero with
      markValid := true, epoch := c.epoch, source := req.destination, destination := req.source, op := st,
      stream := req.stream, seq := req.seq, mark := c.mark, rejections := c.rejections }
    payload := payload }

/-- What the endpoint answers for a REQUEST: its context, its memory, and the frame sent back. -/
structure Taken where
  context : Option Context
  memory : Memory
  reply : Option Frame

/-- A REQUEST of the next class is applied: the mark rises by 1 whatever the outcome (R54). -/
def Context.apply (c : Context) (m : Memory) (able : Bool) (f : Frame) : Taken :=
  let x := execute m able f
  let c1 := { c with mark := c.mark + 1,
                     rejections := if f.header.op = 2#4 ∧ x.ok = false then c.rejections + 1 else c.rejections }
  let c2 := if f.header.op = 3#4 then c1.record f.header.seq (if x.ok then .ok x.bytes else .error) else c1
  ⟨some c2, x.memory, some (c2.answer f.header (if x.ok then 0 else 1) x.bytes)⟩

/-- A REQUEST of the duplicate class is answered without being applied (R55). -/
def Context.duplicate (c : Context) (m : Memory) (able : Bool) (f : Frame) : Taken :=
  let reply :=
    if f.header.op = 1#4 then
      let x := execute m able { f with header := { f.header with poison := false } }
      c.answer f.header (if x.ok then 0 else 1) x.bytes
    else if f.header.op = 2#4 then c.answer f.header 2 []
    else
      match c.results.find? (fun y => y.1 == f.header.seq) with
      | some (_, .ok old) => c.answer f.header 2 old
      | some (_, .error) => c.answer f.header 1 []
      | none => c.answer f.header 3 []
  ⟨some c, m, some reply⟩

/-- The GAP of a context (R50). -/
def Context.gap (c : Context) (req : Header) : Frame :=
  { kind := .gap
    header := { Header.zero with
      epoch := c.epoch, source := req.destination, destination := req.source, stream := req.stream,
      seq := c.mark + 1 }
    payload := [] }

/-- A REQUEST at the endpoint (R51, R53). -/
def takeRequest (c : Option Context) (m : Memory) (able : Bool) (f : Frame) : Taken :=
  match c with
  | none => ⟨none, m, none⟩
  | some c =>
    if f.header.epoch ≠ c.epoch then ⟨some c, m, none⟩
    else
      match c.classify f.header.seq with
      | .next => c.apply m able f
      | .duplicate => c.duplicate m able f
      | .ahead =>
        if c.gapSent then ⟨some c, m, none⟩
        else ⟨some { c with gapSent := true }, m, some (c.gap f.header)⟩

/-- A receiver's reflection of a TEST frame (R62): REFLECT cleared, the payload unchanged. -/
def reflected (f : Frame) : Frame := { f with header := { f.header with reflect := false } }

end Sys2Proof.Machine
end

