-- ==== Sys2Proof/Tests/Slice0.lean ====
section
/-! SUPPORT. Tests of the model: an ill-formed term for each well-formedness check, small facts worked out from the
manual's rules, one step each, and for every statement with hypotheses a state and operands that meet them. -/

namespace Sys2Proof.Tests

open Sys2Proof Sys2Proof.Machine

set_option Elab.async false

/-! ### Samples -/

/-- A lane in ACTIVE with its timers running. -/
def up : LaneRec :=
  { LaneRec.powerOn with
    state := .active,
    timers := { Timers.stopped with beat := some 1000, silence := some 2000, storm := some 100000 } }

/-- Route 3: one unit at 10000h to node 5, stream 7, preferred A0. -/
def route3 : Route := ⟨true, 0x10000, 1, 0, 5, 7, .a0, .sticky, .readWrite⟩

/-- Route 4: read only, stream 8. -/
def route4 : Route := ⟨true, 0x20000, 1, 0, 5, 8, .a0, .sticky, .readOnly⟩

/-- The part in RUNNING with every lane in ACTIVE and two routes. -/
def base : Machine.Part :=
  let p := Part.powerOn 0
  { p with
    intake := { p.intake with
      service := .running, credits := 32,
      routes := ((Vector.replicate 32 Route.empty).set 3 route3).set 4 route4 },
    lanes := ⟨up, up, up, up⟩,
    sides := ⟨{ SideRec.powerOn with state := .up }, { SideRec.powerOn with state := .up }⟩ }

/-- An entry of stream 7 that has been sent. -/
def ent (s : Seq) (k : ReqKind) : OttEntry :=
  let tag := if k = .write then none else some 9
  { index := 0, stream := 7, seq := s, kind := k, tag := tag, address := 0, length := 8, blocks := [],
    phase := .sent, transmissions := 1, transmitTime := some 0, deadline := some 500, poisoned := false,
    fate := ⟨7, k, tag, true⟩ }

/-- Stream 7 in BOUND on A0 with one READ in flight. -/
def bnd : StreamRec :=
  { StreamRec.powerOn with
    state := .bound, node := 5, carrier := some .a0, epoch := 1, nextSeq := 3, mark := some 1,
    recallDepth := some 8, swapLimit := 8, inflight := [ent 2 .read] }

/-- The part with stream 7 as given. -/
def on (r : StreamRec) : Machine.Part := base.modStream 7 (fun _ => r)

/-- The part with lane A0 as given. -/
def at0 (r : LaneRec) : Machine.Part := base.modLane .a0 (fun _ => r)

/-- The part with an intake queue. -/
def queued (q : List HostRecord) : Machine.Part := base.modIntake (fun i => { i with queue := q, credits := 32 - q.length })

/-- A READ of 8 bytes through route 3. -/
def rd : HostRecord := ⟨1, 0x21, 8, 0x10010, []⟩

/-- A WRITE of 4 bytes through route 3. -/
def wr : HostRecord := ⟨2, 0x22, 4, 0x10020, [1, 2, 3, 4]⟩

/-- A SWAP through route 3. -/
def sw : HostRecord := ⟨3, 0x23, 8, 0x10FF8, List.replicate 16 7⟩

/-- A header of stream 7, epoch 1, sequence 2. -/
def hd : Header := { Header.zero with stream := 7, epoch := 1, seq := 2 }

/-- Whether a command answers a next state of which a test holds. -/
def after (c : Instr) (p : Machine.Part) (test : Machine.Part → Bool) : Bool :=
  match exec c ⟨p, []⟩ with
  | .next s => test s.part
  | _ => false

/-- A timer set in a lane's record. -/
def timed (r : LaneRec) (f : Timers → Timers) : LaneRec := { r with timers := f r.timers }

theorem base_unwatched : base.unwatched := ⟨rfl, rfl, rfl⟩
theorem base_ordered : base.params.ordered := by unfold Params.ordered; decide
theorem at0_settled : (at0 up).settled := ⟨fun l => by cases l <;> rfl, by decide⟩
theorem on_settled (r : StreamRec) : (on r).settled := ⟨fun l => by cases l <;> rfl, nofun⟩
theorem base_noneHeld : base.noneHeld := by
  intro n; simp [Part.stream, base, Part.powerOn, Vector.get_replicate, StreamRec.powerOn]
theorem on_bnd_noneHeld : (on bnd).noneHeld := by unfold Part.noneHeld; decide +kernel

/-! ### Well-formedness: a term that each check refuses -/

theorem test_wf_refuses_five_reads : (Instr.frameDeparture .a0 (List.replicate 5 .clean)).wellFormed = false := rfl
theorem test_wf_refuses_short_block :
    (Instr.frameDeparture .a0 [.uncorrectable [0]]).wellFormed = false := by decide
theorem test_wf_refuses_named_kind : (Instr.unexpectedFrame .a0 (.other 2) hd [] false).wellFormed = false := rfl
theorem test_wf_refuses_odd_payload : (Instr.receiveAnswer .a0 hd [1] false).wellFormed = false := by decide
theorem test_wf_refuses_frame_kind : (Instr.frameInOff .a0 ⟨.other 10, hd, []⟩ false).wellFormed = false := rfl
theorem test_wf_refuses_next_as_base :
    (Instr.receiveBasePage .a0 { hd with pageKind := 1 } [] false).wellFormed = false := by decide
theorem test_wf_refuses_base_as_next : (Instr.receiveNextPage .a0 hd [] false).wellFormed = false := by decide
theorem test_wf_refuses_return_as_reflect : (Instr.receiveTestReflect .a0 hd [] false).wellFormed = false := rfl
theorem test_wf_refuses_reflect_as_return :
    (Instr.receiveTestReturn .a0 { hd with reflect := true } [] false).wellFormed = false := rfl
theorem test_wf_refuses_patrol_block :
    (Instr.patrolCheck ⟨.patrol, .block 0 (.uncorrectable [])⟩).wellFormed = false := by decide
theorem test_wf_refuses_long_value : (Instr.pmwr 1 (List.replicate 32 0)).wellFormed = false := by decide
theorem test_wf_refuses_good_frame : (Instr.badCommand [0x02, 0]).wellFormed = false := by decide
theorem test_wf_accepts_bad_frame : (Instr.badCommand [0x02, 1]).wellFormed = true := by decide

/-! ### Formats -/

/-- R43 gives the check of the nine bytes 31h to 39h. -/
theorem test_crc : crc [0x31, 0x32, 0x33, 0x34, 0x35, 0x36, 0x37, 0x38, 0x39] = 0xE3069283#32 := by decide +kernel

/-- R184: kind in bits 0 to 3, epoch in bits 20 to 23, the stream in bits 40 to 45, the sequence from bit 48. -/
theorem test_header :
    headerBytes .answer { hd with source := 0xABC, destination := 0x123, op := 3 } =
      [0x20, 0xAB, 0xC1, 0x12, 0x33, 0x1C, 0x00, 0x20] ++ List.replicate 12 0 := by decide +kernel

/-- R76: the first 14 shifts of a register of ones put zeros in, and then a one. -/
theorem test_prbs : (burstPayload 0).take 4 = [0x00, 0x02, 0x00, 0x0C] := by decide +kernel

/-! ### One step of each kind of command, with the results the manual's rules give -/

/-- R15: INIT_DONE offers 32 credits. -/
theorem test_init_done : after .initDone (Part.powerOn 0)
    (fun p => p.intake.service == .running && p.intake.credits == 32) = true := by decide +kernel

/-- R1: the request takes a credit. -/
theorem test_host_request : after (.hostRequest rd) base
    (fun p => p.intake.queue == [rd] && p.intake.credits == 31) = true := by decide +kernel

/-- R8: 254 bytes into a 256-byte page, 4 bytes cross it; 252 do not. -/
theorem test_crosses_page : base.intake.malformed ⟨1, 0, 4, 0x10FE, []⟩ = some 3
    ∧ base.intake.malformed ⟨1, 0, 4, 0x10FC, []⟩ = none := by decide +kernel

/-- R11, R26: dispatched at sequence 3 to endpoint address 10h on A0. -/
theorem test_dispatch : after .intakeChecks ((on bnd).modIntake (fun i => { i with queue := [rd], credits := 31 }))
    (fun p => (p.stream 7).nextSeq == 4 && (p.lane .a0).queue.map (fun f => (f.kind, f.header.seq, f.header.address))
      == [(.request, 3, 0x10)] && p.intake.credits == 32) = true := by decide +kernel

/-- R16: the WRITE discarded is the detail; the READ's credit and tag are gone. -/
theorem test_host_link_reset : after .hostLinkReset (queued [rd, wr])
    (fun p => p.intake.credits == 0 && p.log.entries.map (fun e => (e.kind, e.detail))
      == [(.hostLinkReset, 1)]) = true := by decide +kernel

/-- R22, R37: latency 100, margin 50, one block: the deadline is 2 × 100 + 50 + 4 µs after the departure. -/
theorem test_departure : after (.frameDeparture .a0 [])
    ((on bnd).modLane .a0 (fun r => { r with queue := [⟨.request, hd, []⟩] }))
    (fun p => (p.stream 7).inflight.map OttEntry.deadline == [some 254]
      && (p.lane .a0).timers.beat == some 1000) = true := by decide +kernel

/-- R90: a bad frame with code violations weighs 10. -/
theorem test_bad_frame : after (.badFrame .a0 true) base
    (fun p => (p.lane .a0).figure == 10 && p.counter (.lane .a0 .codeViolationFrames) == 1) = true := by
  decide +kernel

/-- R45: an ASK is no frame for the part. -/
theorem test_unexpected : after (.unexpectedFrame .b1 .ask hd [] false) base
    (fun p => p.counter (.lane .b1 .unexpectedFrames) == 1) = true := by decide +kernel

/-- R33: an OK of the READ's length completes it; R31: the mark moves to its sequence. -/
theorem test_answer : after (.receiveAnswer .a0 hd [1, 2, 3, 4, 5, 6, 7, 8] false) (on bnd)
    (fun p => p.completions == [⟨9, .ok, [1, 2, 3, 4, 5, 6, 7, 8]⟩] && (p.stream 7).mark == some 2
      && (p.stream 7).inflight == []) = true := by decide +kernel

/-- R33: a payload that does not fit is taken as ERROR. -/
theorem test_answer_length : after (.receiveAnswer .a0 hd [1, 2, 3, 4] false) (on bnd)
    (fun p => p.completions == [⟨9, .endpointError, []⟩]) = true := by decide +kernel

/-- R118: an endpoint that holds a context gives the sequence on from its mark; 4095 is followed by 0. -/
theorem test_tell : after (.receiveTell .a0 { hd with markValid := true, mark := 4095, recallDepth := 40 } [] false)
    (on { bnd with state := .binding, mark := none, inflight := [] })
    (fun p => (p.stream 7).state == .bound && (p.stream 7).nextSeq == 0 && (p.stream 7).swapLimit == 16) = true := by
  decide +kernel

/-- R123, R124: a GAP rewinds under the next epoch, 15 being followed by 0. -/
theorem test_gap : after (.receiveGap .a0 { hd with epoch := 15 } [] false) (on { bnd with epoch := 15 })
    (fun p => (p.stream 7).epoch == 0 && (p.stream 7).state == .binding && (p.stream 7).carrier == some .a0) = true := by
  decide +kernel

/-- R79: OFFLINE sets partner-leaving and logs the lane state, ACTIVE being 4. -/
theorem test_beat : after (.receiveBeat .b0 { hd with partner := .offline } [] false) base
    (fun p => (p.lane .b0).partnerLeaving && p.log.entries.map (fun e => (e.kind, e.lane, e.detail))
      == [(.partnerOffline, some .b0, 4)]) = true := by decide +kernel

/-- The BASE page of a switch port of side A. -/
def pageA : List Byte := [0, 0, 1, 0, 1, 0, 0, 0]

/-- R71: a BASE page in QUIET starts training. -/
theorem test_base_page : after (.receiveBasePage .a0 hd pageA false) (at0 LaneRec.powerOn)
    (fun p => (p.lane .a0).state == .training && (p.lane .a0).training.toggle) = true := by decide +kernel

/-- R75: a page of side B on a lane of side A is a mismatch, reason 1. -/
theorem test_mismatch : after (.receiveBasePage .a0 hd [1, 9, 1, 0, 1, 0, 0, 0] false) (at0 LaneRec.powerOn)
    (fun p => (p.lane .a0).offReason == some .mismatch
      && p.log.entries.map (fun e => (e.kind, e.detail)) == [(.laneMismatch, 0x0109)]) = true := by decide +kernel

/-- R69: a PAUSE of 30 µs. -/
theorem test_pause : after (.receivePause .a0 { hd with pause := 30 } [] false) base
    (fun p => (p.lane .a0).timers.pause == some 30) = true := by decide +kernel

/-- R62: the reflection carries the same payload with REFLECT clear. -/
theorem test_reflect : after (.receiveTestReflect .a0 { hd with reflect := true } (List.replicate 64 5) false) base
    (fun p => (p.lane .a0).queue.map (fun f => (f.kind, f.header.reflect, f.payload))
      == [(.test, false, List.replicate 64 5)]) = true := by decide +kernel

/-- R77: no burst runs, so the frame is unexpected. -/
theorem test_return : after (.receiveTestReturn .a0 hd (List.replicate 64 5) false) base
    (fun p => p.counter (.lane .a0 .unexpectedFrames) == 1) = true := by decide +kernel

/-- A lane in QUALIFY whose burst has one frame to go. -/
def lastFrame (owner : BurstOwner) (requalify : Nat) : LaneRec :=
  { timed up (fun t => { t with qualify := some 20000 }) with
    state := .qualify, requalify := requalify, checker := some ⟨owner, 256, 256, 255⟩ }

/-- Stream 7 STALLED with its deadline running, having tried every lane. -/
def stuck : StreamRec :=
  { bnd with state := .stalled, carrier := none, stallDeadline := some 9,
             tried := { a0 := true, a1 := true, b0 := true, b1 := true } }

/-- Stream 7 STALLED while A0, in QUALIFY, has one frame of its burst to compare, with any number of error bytes
tolerated. -/
def rescued : Machine.Part :=
  { (on stuck).modLane .a0 (fun _ => lastFrame .qualify 0) with
    params := { Params.powerOn with qualTolerance := 255 } }

/-- R126: A0's return from DEGRADED to ACTIVE releases the stream, its tried set emptied and its stall deadline kept. -/
theorem test_release : after .leakTick ((on stuck).modLane .a0 (fun _ => { up with state := .degraded, figure := 68 }))
    (fun p => (p.stream 7).state == .binding && (p.stream 7).carrier == some .a0 && (p.stream 7).epoch == 2
      && (p.stream 7).tried == .empty && (p.stream 7).stallDeadline == some 9) = true := by decide +kernel

/-- R80, R82, R105, R111: A0 goes DOWN for 200 ms; side A is suspect, so its stream moves to B0 under a new epoch. -/
theorem test_link_loss : after (.linkLoss .a0) (on bnd)
    (fun p => (p.lane .a0).state == .down && (p.lane .a0).timers.holdDown == some 200000
      && (p.stream 7).carrier == some .b0 && (p.stream 7).epoch == 2) = true := by decide +kernel

/-- R74: training that fails in phase BASE without an own ack returns to QUIET with detail 1. -/
theorem test_page_timer : after (.pageTimerExpiry .a0)
    (at0 { timed LaneRec.powerOn (fun _ => { Timers.stopped with page := some 7 }) with
      state := .training, training := { LaneRec.powerOn.training with resends := 8 } })
    (fun p => (p.lane .a0).state == .quiet && p.log.entries.map (fun e => (e.kind, e.detail))
      == [(.laneTrainingFailed, 1)]) = true := by decide +kernel

/-- R78: SILENCE weighs 128 and the timer restarts at 2 × 1 ms. -/
theorem test_silence : after (.silenceTimerExpiry .a0) base
    (fun p => (p.lane .a0).figure == 128 && (p.lane .a0).timers.silence == some 4000) = true := by decide +kernel

/-- R93, R94: at the CLEAR_LEVEL of 64 a DEGRADED lane returns to ACTIVE. -/
theorem test_leak : after .leakTick (at0 { up with state := .degraded, figure := 68 })
    (fun p => (p.lane .a0).figure == 64 && (p.lane .a0).state == .active) = true := by decide +kernel

/-- R94: 672 + 96 reaches the DOWN_LEVEL of 768. -/
theorem test_weight : after (.distressWeight .a0 .deadlineMiss) (at0 { up with figure := 672 })
    (fun p => (p.lane .a0).figure == 768 && (p.lane .a0).state == .down) = true := by decide +kernel

/-- R81: the eighth report in a period takes the lane to HELD for 500 ms. -/
theorem test_storm : after (.stormReport .a0) (at0 { up with storm := 7 })
    (fun p => (p.lane .a0).state == .held && (p.lane .a0).timers.held == some 500000) = true := by decide +kernel

/-- R99: from 8, a sample of 0 gives 7, and from 7 it gives 7. -/
theorem test_latency : after (.latencySample .a0 0) (at0 { up with latency := 8 }) (fun p => (p.lane .a0).latency == 7)
    && after (.latencySample .a0 0) (at0 { up with latency := 7 }) (fun p => (p.lane .a0).latency == 7) = true := by
  decide +kernel

/-- R38: the deadline's weight and storm report go to the carrier, and the stream rewinds with detail 3. -/
theorem test_deadline : after (.deadlineExpiry 7 2) (on bnd)
    (fun p => p.now == 500 && p.reports == [.weight .a0 .deadlineMiss, .storm .a0]
      && p.log.entries.map (fun e => (e.kind, e.detail)) == [(.streamRewound, 3)]) = true := by decide +kernel

/-- R116: the third attempt gives the lane up. -/
theorem test_ask_attempts : after (.askAttemptExpiry 7)
    (on { bnd with state := .binding, askTimer := some 5000, askAttempts := 3 })
    (fun p => (p.stream 7).tried.a0 && (p.stream 7).carrier == some .a1) = true := by decide +kernel

/-- R127, R128: the READ in flight is given up as PATH_LOST, one completion handed over. -/
theorem test_stall : after (.stallDeadlineExpiry 7)
    (on { bnd with state := .stalled, carrier := none, stallDeadline := some 9 })
    (fun p => p.completions == [⟨9, .pathLost, []⟩] && (p.stream 7).state == .idle
      && p.log.entries.map (fun e => (e.kind, e.detail)) == [(.streamPathLost, 1)]) = true := by decide +kernel

/-- R128's worked sequence: of entries 70 to 74 the first three have left, and a READ and a WRITE are held. -/
theorem test_stall_fates :
    let e := fun (k : ReqKind) (s : Seq) (i : EntryIx) (t : Option Micros) =>
      { ent s k with index := i, tag := if k = .write then none else some (BitVec.ofNat 8 (i.val + 4)), transmitTime := t }
    after (.stallDeadlineExpiry 7)
      (on { bnd with
        state := .stalled, carrier := none, stallDeadline := some 9, nextSeq := 75,
        inflight := [e .write 70 0 (some 0), e .swap 71 1 (some 0), e .read 72 2 (some 0), e .write 73 3 none,
          e .swap 74 4 none],
        hold := [⟨0, 7, ⟨9, .read, 0, 8, [], false⟩⟩, ⟨1, 7, ⟨0, .write, 0, 128, [1, 2], false⟩⟩] })
      (fun p => p.completions.map (fun c => (c.tag, c.status)) ==
          [(5, .outcomeUnknown), (6, .pathLost), (8, .pathLost), (9, .pathLost)]
        && p.log.entries.map (fun e => (e.kind, e.detail)) ==
          [(.outcomeUnknown, 71), (.writeFateUnknown, 1), (.writesDropped, 2), (.streamPathLost, 4)]) = true := by
  decide +kernel

/-- R138: in the final binding of a MANUAL move, opened by a rewind on A0, the choice made again takes the target B1
ahead of the ranking; with the drain still stopped it follows the ranking, in which A1 stands next to A0. -/
theorem test_ask_attempts_manual :
    let again := fun (d : Drain) => after (.askAttemptExpiry 7)
      (on { bnd with state := .binding, askTimer := some 5000, askAttempts := 3, binding := ⟨some .a0, none⟩,
                     move := some ⟨some .b1, .manual, d, .a0⟩ })
    again .absent (fun p => (p.stream 7).carrier == some .b1)
      && again (.stopped 7) (fun p => (p.stream 7).carrier == some .a1) = true := by decide +kernel

/-- R170: a record that fails faults its stream and restricts the part, detail 0100h. -/
theorem test_patrol : after (.patrolCheck ⟨.patrol, .record 7 (.uncorrectable 3 4 5)⟩) (on bnd)
    (fun p => (p.stream 7).state == .faulted && (p.stream 7).epoch == 3 && p.intake.service == .restricted
      && p.log.entries.map (fun e => (e.kind, e.detail)) == [(.streamFaulted, 5), (.restrictedEntered, 0x0100)]) = true := by
  decide +kernel

/-- R72: a BASE page in phase NEXT is counted, and shows as the last one seen. -/
theorem test_base_page_in_next : after (.receiveBasePage .a0 hd pageA false)
    (at0 { LaneRec.powerOn with state := .training, training := ⟨true, true, 0, none, true, 0⟩ })
    (fun p => (p.lane .a0).training.seen == 1 && (p.lane .a0).training.last == some (BasePage.ofFrame hd pageA)
      && (p.lane .a0).training.next) = true := by decide +kernel

/-- R35, R119: a TELL that contradicts the stream is still compared, and then faults it. -/
theorem test_tell_contradicts : after (.receiveTell .a0 { hd with fresh := true, rejections := 4 } [] false)
    (on { bnd with state := .binding })
    (fun p => (p.stream 7).rejections == 4 && p.log.entries.map LogEntry.kind == [.writeRejected, .streamFaulted]) =
      true := by decide +kernel

/-- R70, R81: the BEAT that waited is gone at HELD, and the beat timer runs again. -/
theorem test_held_beats : after (.stormReport .a0)
    (at0 { timed up (fun t => { t with beat := none }) with storm := 7 })
    (fun p => (p.lane .a0).timers.beat == some 1000) = true := by decide +kernel

/-- R163: with the near loopback on and its path empty, a frame on the cable is not delivered. -/
theorem test_loopback_cable : after (.frameInOff .a0 ⟨.test, hd, List.replicate 64 1⟩ false)
    (at0 { LaneRec.powerOn with state := .off, offReason := some .disabled, loopback := true })
    (fun p => p.counter (.lane .a0 .framesReceived) == 0) = true := by decide +kernel

/-- R163: a BEAT on the cable is not delivered either while a frame waits in the loopback path, which keeps it; the
frame sent comes back and leaves the path, also with a byte changed that its check did not catch (R165). -/
theorem test_loopback_returns :
    let p := at0 { LaneRec.powerOn with
      state := .off, offReason := some .disabled, loopback := true, loopPath := [⟨.test, hd, List.replicate 64 1⟩],
      checker := some ⟨.diagnostic, 2, 2, 0⟩ }
    after (.frameInOff .a0 ⟨.beat, hd, []⟩ false) p
        (fun q => q.counter (.lane .a0 .framesReceived) == 0 && (q.lane .a0).loopPath.length == 1)
      && after (.receiveTestReturn .a0 hd (List.replicate 64 2) false) p
        (fun q => q.counter (.lane .a0 .framesReceived) == 1 && (q.lane .a0).loopPath == []
          && (q.lane .a0).checker == some ⟨.diagnostic, 2, 2, 1⟩) = true := by decide +kernel

/-- R69: behind a REQUEST that a pause holds, the BEAT leaves. -/
theorem test_pause_passes : after (.frameDeparture .a0 [])
    (at0 { timed up (fun t => { t with pause := some 5 }) with queue := [⟨.request, hd, []⟩, ⟨.beat, hd, []⟩] })
    (fun p => (p.lane .a0).queue.map Frame.kind == [.request] && (p.lane .a0).cable.map Frame.kind == [.beat]) =
      true := by decide +kernel

/-- R165, R173: the port answers at 48h with the pins at 0, at no other address, and at none while a burst runs. -/
theorem test_port_acknowledges : base.port.readByte 0x48 0 = some 0xFF ∧ base.port.readByte 0x49 0 = none ∧
    { base.port with burst := some .a0 }.readByte 0x48 0 = none := by decide +kernel

/-- R97, R103: a DOWN_LEVEL below both figures takes side A's lanes down in one event, with one SIDE_LOST. -/
theorem test_threshold_write : after (.pmwr 0x05 [0x01, 0x01])
    { base with lanes := ⟨{ up with figure := 300 }, { up with figure := 300 }, up, up⟩ }
    (fun p => p.log.entries.map LogEntry.kind == [.laneDown, .laneDown, .sideLost]) = true := by decide +kernel

/-- R166, R167: the patrol's own read is one of the pass's items, and no read is checked in INIT. -/
theorem test_patrol_marks : after (.patrolCheck ⟨.patrol, .entry 0 .clean⟩) base (fun p => p.patrol.read.getLsbD 64)
    && after (.patrolCheck ⟨.use, .entry 0 .clean⟩) base (fun p => p.patrol.read == 0)
    && after (.patrolCheck ⟨.patrol, .record 7 (.uncorrectable 3 4 5)⟩) (Part.powerOn 0)
      (fun p => p.intake.service == .init && (p.stream 7).state == .idle) = true := by decide +kernel

/-- R176. -/
theorem test_idnt : after .idnt base (fun p => p.port.data == [0x7A, 0x4E, 0x0F, 0x24, 0x03, 0x04]) = true := by
  decide +kernel

/-- R12, R13: a route of one unit, and one whose base is not a multiple of 4 KiB. -/
theorem test_rtwr : after (.rtwr 0 0x30000 1 0x5000 9 12 2 1 0) base
      (fun p => p.port.status == 0 && (p.stream 12).node == 9 && (p.stream 12).preferred == .b0)
    && after (.rtwr 0 0x30001 1 0x5000 9 12 2 1 0) base (fun p => p.port.status == 0x11) = true := by decide +kernel

/-- R13: another node for stream 7 conflicts with route 3. -/
theorem test_rtwr_conflict : after (.rtwr 0 0x30000 1 0 6 7 0 0 0) base (fun p => p.port.status == 0x13) = true := by
  decide +kernel

/-- R133: to the carrier BAD_OPERAND, to another ACTIVE lane ACCEPTED. -/
theorem test_smov : after (.smov 7 0) (on bnd) (fun p => p.port.status == 0x11)
    && after (.smov 7 3) (on bnd) (fun p => p.port.status == 0x02 && (p.stream 7).state == .draining) = true := by
  decide +kernel

/-- R96, R180: with CLEAR_LEVEL 64 and DOWN_LEVEL 768, WARN_LEVEL 900 becomes 767. -/
theorem test_pmwr : after (.pmwr 0x04 [0x03, 0x84]) base
    (fun p => p.port.status == 0x01 && p.params.warnLevel == 767) = true := by decide +kernel

/-- R160: two counters, four bytes each. -/
theorem test_ctrd : after (.ctrd 0x0001 2 0) base (fun p => p.port.data == List.replicate 8 0)
    && after (.ctrd 0x0007 2 0) base (fun p => p.port.status == 0x11) = true := by decide +kernel

/-- R143: an empty part quiesces at once. -/
theorem test_qsce : after .qsce base (fun p => p.intake.service == .quiesced) = true := by decide +kernel

/-- R17, R40: a queued READ is answered before the READ in flight. -/
theorem test_svrs : after .svrs ((on bnd).modIntake (fun i => { i with queue := [rd], credits := 31 }))
    (fun p => p.completions == [⟨0x21, .restarted, []⟩, ⟨9, .restarted, []⟩] && (p.stream 7).state == .idle
      && (p.stream 7).epoch == 1) = true := by decide +kernel

/-- R174. -/
theorem test_bad_command : after (.badCommand [0x99, 0]) base (fun p => p.port.status == 0x10)
    && after (.badCommand [0x02, 33]) base (fun p => p.port.status == 0x11) = true := by decide +kernel

/-! ### Witnesses: for each statement with hypotheses, a state and operands that meet them, at the boundary of each
clause -/

theorem witness_IdleStepTakesDueEvent :
    (∃ c cs, { base with now := 1000 }.dueEvents = c :: cs) ∧ base.dueEvents = [] := by
  exact ⟨⟨_, _, (by decide +kernel : { base with now := 1000 }.dueEvents =
    .leakTick :: ({ base with now := 1000 }.dueEvents.tail))⟩, by decide +kernel⟩

theorem witness_TablesMoveByCommand : ∃ p', exec .stat ⟨base, []⟩ = .next ⟨p', []⟩ ∧
    (∀ pins, Instr.stat ≠ .powerOn pins) ∧ (∀ id value, Instr.stat ≠ .pmwr id value) ∧
    (∀ i b u t n s l o a, Instr.stat ≠ .rtwr i b u t n s l o a) ∧ ∀ i, Instr.stat ≠ .rtcl i :=
  ⟨_, rfl, nofun, nofun, nofun, nofun⟩

theorem witness_CreditAndArrival :
    ((Part.powerOn 0).intake.service = .init ∧ (Part.powerOn 0).intake.tally = none ∧
      (Part.powerOn 0).intake.linkUp = true ∧ (Part.powerOn 0).intake.queue = [] ∧
      (Part.powerOn 0).intake.credits = 0) ∧
    (∃ p : Machine.Part, p.intake.linkUp = false ∧ p.intake.credits = 0) ∧
    (base.unwatched ∧ base.intake.credits ≠ 0) ∧ (Part.powerOn 0).unwatched ∧ (Part.powerOn 0).intake.credits = 0 :=
  ⟨⟨rfl, rfl, rfl, rfl, rfl⟩, ⟨base.modIntake (fun i => { i with linkUp := false, credits := 0 }), rfl, rfl⟩,
    ⟨base_unwatched, by decide +kernel⟩, ⟨rfl, rfl, rfl⟩, rfl⟩

/-- A part in RESTRICTED, and one whose stream 7 is FAULTED, with one request queued. -/
def restrictedWith (q : HostRecord) : Machine.Part := (queued [q]).modIntake (fun i => { i with service := .restricted })
def faultedWith (q : HostRecord) : Machine.Part := (queued [q]).modStream 7 (fun r => { r with state := .faulted })

theorem witness_IntakeRefuses :
    ((queued [rd]).unwatched ∧ (queued [rd]).intake.tally = none ∧ (queued [rd]).intake.linkUp = true) ∧
    ((restrictedWith rd).intake.service = .restricted ∧ rd.kind ≠ 0x02#8) ∧
    (queued [rd]).intake.malformed { rd with kind := 0 } = some 1 ∧
    ((queued [rd]).intake.malformed { rd with address := 0x11000 } = none ∧
      (queued [rd]).intake.route 0x11000 = none) ∧
    ((queued [wr]).intake.malformed { wr with address := 0x20000 } = none ∧
      (queued [wr]).intake.route 0x20000 = some 4 ∧ (base.intake.routes.get 4).access = .readOnly) ∧
    (faultedWith rd).intake.malformed rd = none ∧ (faultedWith rd).intake.route rd.address = some 3 ∧
    ((faultedWith rd).stream (base.intake.routes.get 3).stream).state = .faulted := by
  refine ⟨⟨⟨rfl, rfl, rfl⟩, ?_⟩, ?_⟩ <;> decide +kernel

theorem witness_DroppedWritesAreTallied :
    wr.kind = 0x02#8 ∧ (restrictedWith wr).intake.service = .restricted ∧ (restrictedWith wr).intake.tally = none ∧
    ((faultedWith wr).modIntake (fun i => { i with tally := some ⟨some 7, 65535⟩ })).intake.tally =
      some ⟨some (base.intake.routes.get 3).stream, 65535⟩ ∧
    (faultedWith wr).intake.malformed wr = none ∧ (faultedWith wr).intake.route wr.address = some 3 ∧
    ((faultedWith wr).stream (base.intake.routes.get 3).stream).state = .faulted := by decide +kernel

/-- A part in QUIESCING that has nothing left but one request, with a drop of stream 7 in the tally. -/
def closing (q : HostRecord) : Machine.Part :=
  (faultedWith q).modIntake (fun i => { i with service := .quiescing, tally := some ⟨some 7, 65535⟩ })

theorem witness_DroppedWritesAreTallied_quiesce : (closing wr).unwatched ∧ (closing wr).intake.queue = [wr] ∧
    (closing wr).intake.service = .quiescing ∧ (closing wr).intake.tally = some ⟨some 7, 65535⟩ ∧
    (∀ n, ((closing wr).stream n).inflight = [] ∧ ((closing wr).stream n).hold = []) ∧
    (closing wr).intake.malformed wr = none ∧ (closing wr).intake.route wr.address = some 3 ∧
    ((closing wr).intake.routes.get 3).access = .readWrite ∧ ((closing wr).intake.routes.get 3).stream = 7 ∧
    ((closing wr).stream 7).state = .faulted ∧
    (closing { rd with kind := 0 }).intake.malformed { rd with kind := 0 } = some 1 := by
  refine ⟨⟨rfl, rfl, rfl⟩, ?_⟩; decide +kernel

/-- R6: an address that no route covers is UNROUTED; the tag is the detail's low byte. R7: a refusal that makes the part
QUIESCED logs the tally before its own event. -/
theorem test_refusals :
    (after .intakeChecks (queued [{ rd with address := 0x11000 }])
      (fun p => p.completions == [⟨0x21, .unrouted, []⟩]
        && p.log.entries.map (fun e => (e.kind, e.detail)) == [(.unrouted, 0x0021)])
    && after .intakeChecks (closing { rd with kind := 0 })
      (fun p => p.intake.service == .quiesced && p.log.entries.map (fun e => (e.kind, e.stream, e.detail)) ==
        [(.writesDropped, some 7, 0xFFFF), (.malformed, none, 0x0121), (.quiesced, none, 0)])) = true := by decide +kernel

/-- Stream 7 BOUND with a request at the head of the intake queue. -/
def boundWith (q : HostRecord) : Machine.Part := (on bnd).modIntake (fun i => { i with queue := [q], credits := 31 })

theorem witness_IntakeDispatches :
    (∀ q ∈ [rd, wr, sw], (boundWith q).intake.malformed q = none ∧ (boundWith q).intake.route q.address = some 3) ∧
    (boundWith sw).intake.service = .running ∧ ReqKind.ofCode sw.kind = some .swap ∧
    ((boundWith sw).intake.routes.get 3).access = .readWrite ∧ ((boundWith sw).intake.routes.get 3).stream = 7 ∧
    ((boundWith sw).stream 7).state = .bound ∧ ((boundWith sw).stream 7).carrier = some .a0 ∧
    ((boundWith sw).stream 7).hold = [] ∧
    ((boundWith sw).stream 7).inflight.length < (boundWith sw).params.streamWindow ∧
    ((boundWith sw).stream 7).swapCount < ((boundWith sw).stream 7).swapLimit ∧
    (boundWith sw).engine.freeEntries = 0 :: (List.finRange 256).tail ∧
    ReqKind.blocksNeeded .swap 8 ≤ (boundWith sw).engine.freeBlocks.length ∧
    ((boundWith sw).modEngine (fun g => { g with freeBlocks := [] })).engine.freeBlocks.length <
      ReqKind.blocksNeeded .swap 8 ∧ (boundWith sw).engine.buffer.wf = true ∧
    (boundWith sw).engine.freeBlocks = List.finRange 1024 ∧
    ((queued [rd]).stream 7).state = .idle ∧ (queued [rd]).engine.freeSlots = 0 :: (List.finRange 64).tail ∧
    (queued [rd]).chooseFor 7 ⟨none, none⟩ = some .a0 ∧ ((queued [rd]).stream 7).stallDeadline = none ∧
    { queued [rd] with lanes := (Part.powerOn 0).lanes }.chooseFor 7 ⟨none, none⟩ = none := by decide +kernel

/-- A READ behind stream 7, with the stream and the free slots as given. -/
def behind (r : StreamRec) (slots : List SlotIx) : Machine.Part :=
  ((on r).modIntake (fun i => { i with queue := [rd], credits := 31 })).modEngine (fun g => { g with freeSlots := slots })

theorem witness_IntakeDispatches_holds :
    (∀ st ∈ [StreamState.binding, .replaying, .draining, .stalled],
      ((behind { bnd with state := st } [5]).stream 7).state = st) ∧
    (behind bnd [5]).engine.freeSlots = 5 :: [] ∧ (behind bnd []).engine.freeSlots = [] ∧
    (behind bnd [5]).intake.malformed rd = none ∧ (behind bnd [5]).intake.route rd.address = some 3 ∧
    ((behind { bnd with hold := [⟨0, 7, ⟨0x21, .read, 0x10, 8, [], false⟩⟩] } [5]).stream 7).hold ≠ [] ∧
    ({ behind bnd [5] with params := { Params.powerOn with streamWindow := 1 } }).params.streamWindow ≤
      ((behind bnd [5]).stream 7).inflight.length ∧
    ((behind { bnd with swapLimit := 1, inflight := [ent 2 .swap] } [5]).stream 7).swapLimit ≤
      ((behind { bnd with swapLimit := 1, inflight := [ent 2 .swap] } [5]).stream 7).swapCount ∧
    ((behind bnd [5]).modEngine (fun g => { g with freeEntries := [] })).engine.freeEntries = [] ∧
    ((behind StreamRec.powerOn []).stream 7).state = .idle := by decide +kernel

theorem witness_IntakeDispatches_nodup : (boundWith sw).engine.freeBlocks.Nodup := by
  simp [boundWith, on, Part.modIntake, Part.modStream, base, Part.powerOn, List.nodup_finRange]

theorem witness_HostLinkResetOrphans : (on bnd).unwatched ∧ (on bnd).intake.service ≠ .quiescing ∧
    (on bnd).intake.tally = none ∧ ∀ n, (((on bnd).stream n).hold.map Held.slot).Nodup :=
  ⟨⟨rfl, rfl, rfl⟩, by decide +kernel, rfl, by decide +kernel⟩

/-- Stream 7's frame of sequence 2 at the head of A0's queue. -/
def departing : Machine.Part := (on bnd).modLane .a0 (fun r => { r with queue := [⟨.request, hd, []⟩] })

theorem witness_RequestDeparts : departing.settled ∧ (departing.lane .a0).state ≠ .off ∧
    (departing.lane .a0).loopback = false ∧ (departing.lane .a0).timers.pause = none ∧
    (departing.lane .a0).queue = [⟨.request, hd, []⟩] ∧
    (departing.stream hd.stream).entryAt hd.seq = some (ent 2 .read) ∧
    hd.epoch = (departing.stream hd.stream).epoch ∧ (departing.stream hd.stream).state = .bound := by
  refine ⟨⟨fun l => by cases l <;> rfl, by decide +kernel⟩, ?_⟩; decide +kernel

/-- Stream 7 REPLAYING with its last frame at the head of A0's queue, and with a move over or a drain stopped. -/
def replaying (m : Option Move) : Machine.Part :=
  (on { bnd with state := .replaying, move := m }).modLane .a0 (fun r => { r with queue := [⟨.request, hd, []⟩] })

/-- Stream 7's READ with block 5, at the head of A0's queue. -/
def reading : Machine.Part :=
  ((on { bnd with inflight := [{ ent 2 .read with blocks := [5] }] }).own [5] (some (.entry 0))).modLane .a0
    (fun r => { r with queue := [⟨.request, hd, []⟩] })

theorem witness_DeparturesAct : (replaying none).settled ∧ reading.settled ∧ reading.unwatched ∧
    (replaying none).lanes = departing.lanes ∧ ((replaying none).lane .a0).leaving = false ∧
    ((replaying none).stream 7).entryAt 2 = some (ent 2 .read) ∧ ((replaying none).stream 7).state = .replaying ∧
    ((replaying none).stream 7).hold.length ≤ 64 ∧
    ((replaying (some ⟨some .a0, .manual, .absent, .b0⟩)).stream 7).move = some ⟨some .a0, .manual, .absent, .b0⟩ ∧
    ((replaying (some ⟨some .b0, .manual, .stopped 7, .a0⟩)).stream 7).move = some ⟨some .b0, .manual, .stopped 7, .a0⟩ ∧
    ((at0 { up with queue := [⟨.ask, hd, []⟩] }).lane .a0).queue = [⟨.ask, hd, []⟩] ∧
    ((at0 { up with queue := [⟨.test, { hd with reflect := true }, []⟩],
                    checker := some ⟨.qualify, 256, 255, 0⟩ }).lane .a0).checker = some ⟨.qualify, 256, 255, 0⟩ ∧
    (reading.stream 7).entryAt 2 = some { ent 2 .read with blocks := [5] } ∧
    reading.engine.owners.get 5 = some (.entry 0) ∧ reading.findEntry 0 = some { ent 2 .read with blocks := [5] } ∧
    reading.engine.buffer.wf = true ∧ reading.intake.service ≠ .init := by
  refine ⟨⟨fun l => by cases l <;> rfl, nofun⟩, ⟨fun l => by cases l <;> rfl, nofun⟩, ⟨rfl, rfl, rfl⟩, ?_⟩
  decide +kernel

theorem witness_PauseHoldsTransactions :
    (takeFirst true [⟨.request, hd, []⟩, ⟨.beat, hd, []⟩]).isSome = true ∧
    ((at0 (timed up (fun t => { t with pause := some 5 }))).lane .a0).timers.pause ≠ none ∧
    ((at0 (timed up (fun t => { t with pause := some 5 }))).lane .a0).queue = [] ∧
    ((at0 { up with queue := [⟨.ask, hd, []⟩] ++ ⟨.test, hd, []⟩ :: [] }).lane .a0).queue =
      [⟨.ask, hd, []⟩] ++ ⟨.test, hd, []⟩ :: [] ∧ (up.state ≠ .off ∧ up.loopback = false) ∧
    ∀ st ∈ [LaneState.qualify, .active, .degraded, .held, .quiet, .training, .down],
      ((at0 { up with state := st }).lane .a0).state = st := by decide +kernel

theorem witness_BadAndUnexpectedFrames :
    ((at0 LaneRec.powerOn).lane .a0).loopback = false ∧ ((at0 LaneRec.powerOn).lane .a0).state = .quiet ∧
    base.params.ordered ∧ ((at0 { up with figure := 247 }).lane .a0).figure + 8 < base.params.warnLevel ∧
    ((at0 { up with figure := 245 }).lane .a0).figure + 10 < base.params.warnLevel ∧
    (UnexpectedKind.other 0).wellFormed = true ∧ (UnexpectedKind.other 15).wellFormed = true :=
  ⟨rfl, rfl, base_ordered, by decide +kernel, by decide +kernel, rfl, rfl⟩

/-- Weights of 10 and of 2 at the thresholds and at saturation; DEGRADED takes them too, and KEEP stays. -/
theorem witness_BadAndUnexpectedFrames_weighs :
    let deg := fun f => at0 { up with state := .degraded, figure := f }
    (deg 60).params.clearLevel = 60 + 4 ∧ thresholdStateUnder base.params .unpinned .degraded (min 1023 (54 + 10)) = .active ∧
    thresholdStateUnder base.params .unpinned .degraded (min 1023 (55 + 10)) = .degraded ∧
    thresholdStateUnder base.params .unpinned .degraded (min 1023 (758 + 10)) = .down ∧
    thresholdStateUnder base.params .keep .degraded (min 1023 (758 + 10)) = .degraded ∧
    thresholdStateUnder base.params .unpinned .active (min 1023 (254 + 2)) = .degraded ∧
    thresholdStateUnder base.params .unpinned .active (min 1023 (253 + 2)) = .active ∧
    ((deg 1022).lane .a0).figure < 1023 ∧ ((deg 1022).lane .a0).state ≠ .off ∧
    ((deg 1022).lane .a0).loopback = false := by decide +kernel

/-- A lane in OFF with a reason, in a part whose fabric identity is 3C1907E2h. -/
def offWith (reason : OffReason) : Machine.Part :=
  { at0 { LaneRec.powerOn with state := .off, offReason := some reason, timers := Timers.stopped } with
    params := { Params.powerOn with fabricIdentity := 0x3C1907E2 } }

/-- R64's example: a payload that ends in the reclaim pattern is found from its last starting position. -/
theorem witness_ReclaimPatternActs :
    (∀ reason ∈ [OffReason.retired, .mismatch], ((offWith reason).lane .a0).state = .off ∧
      ((offWith reason).lane .a0).loopback = false ∧ ((offWith reason).lane .a0).pin ≠ .out) ∧
    (offWith .retired).params.fabricIdentity ≠ 0 ∧
    ([0#8] ++ (List.replicate 8 0x5A#8 ++ (List.replicate 8 [0x3C#8, 0x19, 0x07, 0xE2]).flatten)).length = 41 ∧
    toBigEndian 4 (offWith .retired).params.fabricIdentity.toNat = [0x3C, 0x19, 0x07, 0xE2] ∧
    ((offWith .disabled).lane .a0).offReason = some .disabled := by decide +kernel

theorem witness_FramesFiltered : ((on bnd).lane .a0).state ≠ .off ∧
    { hd with destination := 1 }.destination ≠ (on bnd).params.sourceNode ∧
    hd.destination = (on bnd).params.sourceNode ∧ { hd with epoch := 2 }.epoch ≠ ((on bnd).stream 7).epoch ∧
    hd.epoch = ((on bnd).stream 7).epoch ∧ ((on bnd).stream 7).carrier ≠ some .a1 ∧
    ((on bnd).stream 7).carrier = some .a0 ∧ ((on bnd).stream 7).state ∉ [StreamState.binding] ∧
    ((on bnd).stream 7).state ∈ [StreamState.replaying, .bound, .draining] ∧
    ((on bnd).stream 7).entryAt 3 = none := by decide +kernel

/-- Payload lengths beside the required ones, page kinds 2 and 3, and a TELL for this node. -/
theorem witness_FramesFiltered_malformed : ((on bnd).lane .a0).state ≠ .off ∧ [0#8] ≠ [] ∧
    hd.destination = (on bnd).params.sourceNode ∧ (List.replicate 7 0#8).length ≠ 8 ∧
    (List.replicate 9 0#8).length ≠ 8 ∧ { hd with pageKind := 2 }.pageKind = 2 ∧ { hd with pageKind := 3 }.pageKind = 3 ∧
    (List.replicate 63 0#8).length ≠ 64 ∧ (List.replicate 65 0#8).length ≠ 64 := by decide +kernel

theorem witness_AnswerCompletes : (on bnd).noneHeld ∧ ((on bnd).lane .a0).state ≠ .off ∧
    hd.destination = (on bnd).params.sourceNode ∧ hd.epoch = ((on bnd).stream 7).epoch ∧
    ((on bnd).stream 7).carrier = some .a0 ∧ ((on bnd).stream 7).state = .bound ∧
    ((on bnd).stream 7).entryAt 2 = some (ent 2 .read) ∧ (ent 2 .read).tag = some 9 ∧ (ent 2 .swap).tag = some 9 ∧
    (((on bnd).stream 7).inflight.map OttEntry.seq).Nodup := by
  exact ⟨on_bnd_noneHeld, by decide +kernel⟩

/-- Stream 7 BOUND with one READ in flight and one held, no OTT entry free, and the last stream served 63. -/
def starved : Machine.Part :=
  (on { bnd with hold := [⟨0, 7, ⟨0x21, .read, 0x10, 8, [], false⟩⟩] }).modEngine (fun g => { g with freeEntries := [] })

theorem witness_AnswerCompletes_dispatch : starved.settled ∧ (starved.lane .a0).state ≠ .off ∧
    hd.destination = starved.params.sourceNode ∧ hd.epoch = (starved.stream 7).epoch ∧
    (starved.stream 7).carrier = some .a0 ∧ (starved.stream 7).state = .bound ∧
    (starved.stream 7).entryAt 2 = some (ent 2 .read) ∧ ((starved.stream 7).inflight.map OttEntry.index).Nodup ∧
    (starved.stream 7).inflight.any (fun x => x.kind != .write && serialBefore x.seq 2) = false ∧
    (allStreams.map (fun m => (starved.stream m).hold.length)).sum ≤ 64 ∧ starved.engine.freeEntries = [] ∧
    ((starved.stream 7).leftBy (ent 2 .read) 2).length + 1 = (starved.stream 7).inflight.length ∧
    (7 : StreamId) = starved.engine.lastServed + 1 + 7 ∧
    ∀ k < (7 : Fin 64), (starved.stream (starved.engine.lastServed + 1 + k)).state ≠ .bound :=
  ⟨⟨fun l => by cases l <;> rfl, nofun⟩, by decide +kernel⟩

theorem witness_AnswerCompletes_head :
    { starved.stream 7 with inflight := (starved.stream 7).leftBy (ent 2 .read) 2 }.headMeets starved.params :=
  ⟨by decide +kernel, by decide +kernel, ⟨0, 7, ⟨0x21, .read, 0x10, 8, [], false⟩⟩, [], by decide +kernel, nofun⟩

/-- Stream 7 with a WRITE before a READ in flight, and with a READ before a WRITE. -/
def two (a b : ReqKind) : StreamRec := { bnd with inflight := [ent 2 a, { ent 3 b with index := 1 }], nextSeq := 4 }

theorem witness_AnswerCounts : (on (two .write .read)).unwatched ∧ (on (two .write .read)).settled ∧
    (on (two .write .read)).noneHeld ∧ ((on (two .write .read)).lane .a0).state ≠ .off ∧
    { hd with seq := 3 }.destination = (on (two .write .read)).params.sourceNode ∧
    { hd with seq := 3 }.epoch = ((on (two .write .read)).stream 7).epoch ∧
    ((on (two .write .read)).stream 7).carrier = some .a0 ∧ ((on (two .write .read)).stream 7).state = .bound ∧
    ((on (two .write .read)).stream 7).entryAt 2 = some (ent 2 .write) ∧
    ((on (two .read .write)).stream 7).entryAt 3 = some { ent 3 .write with index := 1 } ∧
    (((on (two .write .read)).stream 7).inflight.map OttEntry.index).Nodup ∧
    (on (two .read .write)).eligible ((on (two .read .write)).stream 7).tried none .a0 = true ∧
    ((on (two .read .write)).stream 7).inflight.any (fun x => x.kind != .write && serialBefore x.seq 3) = true := by
  refine ⟨⟨rfl, rfl, rfl⟩, on_settled _, by unfold Part.noneHeld; decide +kernel, ?_⟩; decide +kernel

/-- Stream 7 DRAINING for a cause. -/
def drained (c : MoveCause) : StreamRec := { bnd with state := .draining, move := some ⟨some .b0, c, .running 50000, .a0⟩ }

/-- Stream 7 DRAINING on A0, whose restart waits for it. -/
def leavingA0 : Machine.Part := (on (drained .manual)).modLane .a0 (fun r => { r with restartPending := true })

theorem witness_AnswerCounts_drain : (∀ g, g ≠ .a0 → (leavingA0.lane g).restartPending = false) ∧
    (leavingA0.stream 7).state = .draining ∧ (leavingA0.stream 7).carrier = some .a0 ∧
    (leavingA0.stream 7).move = some ⟨some .b0, .manual, .running 50000, .a0⟩ ∧
    (leavingA0.stream 7).entryAt 2 = some (ent 2 .read) ∧ ((leavingA0.stream 7).inflight.map OttEntry.index).Nodup ∧
    (leavingA0.stream 7).leftBy (ent 2 .read) 2 = [] ∧
    leavingA0.choose (leavingA0.stream 7).preferred (leavingA0.stream 7).tried ⟨some .b0, some .a0⟩ = some .b0 ∧
    (leavingA0.stream 7).rejections = hd.rejections ∧ (leavingA0.lane .a0).restartPending = true ∧
    (∀ o, o ≠ 7 → (leavingA0.stream o).carrier ≠ some .a0) ∧ (leavingA0.lane .a1).state = .active ∧
    (leavingA0.side .a).state ≠ .lost ∧ leavingA0.params.halfLane = 0 ∧
    { leavingA0 with lanes := (Part.powerOn 0).lanes }.choose .a0 (leavingA0.stream 7).tried ⟨some .b0, some .a0⟩ =
      none := by
  refine ⟨fun g h => ?_, by decide +kernel⟩
  cases g <;> first | rfl | exact absurd rfl h

theorem witness_AnswerCounts_quiesce :
    let p := (on bnd).modIntake (fun i => { i with service := .quiescing })
    p.unwatched ∧ (∀ g, (p.lane g).restartPending = false) ∧ (p.stream 7).leftBy (ent 2 .read) 2 = [] ∧
    (p.stream 7).hold = [] ∧ (∀ o, o ≠ 7 → (p.stream o).inflight = [] ∧ (p.stream o).hold = []) ∧
    p.intake.service = .quiescing ∧ p.intake.queue = [] ∧ p.intake.tally = none := by
  refine ⟨⟨rfl, rfl, rfl⟩, fun g => by cases g <;> rfl, ?_⟩; decide +kernel

/-- Stream 7 in BINDING on A0 with nothing behind it. -/
def freshBinding : StreamRec := { bnd with state := .binding, mark := none, inflight := [] }

theorem witness_FreshTellAccepted : ((on freshBinding).lane .a0).leaving = false ∧
    ((on freshBinding).lane .a0).state ≠ .off ∧ hd.destination = (on freshBinding).params.sourceNode ∧
    hd.epoch = ((on freshBinding).stream 7).epoch ∧ ((on freshBinding).stream 7).carrier = some .a0 ∧
    ((on freshBinding).stream 7).state = .binding ∧ ((on freshBinding).stream 7).mark = none ∧
    ((on freshBinding).stream 7).inflight = [] ∧ ((on freshBinding).stream 7).hold = [] ∧
    ((on freshBinding).stream 7).move = none := by decide +kernel

/-- R119 at its edges with a lower bound of 1 and a next sequence of 3: a mark of 0 is behind, 3 is ahead. -/
theorem witness_TellContradictionFaults :
    serialBefore 0 1 = true ∧ serialAtOrBefore 3 3 = true ∧
    ((on { bnd with state := .binding }).stream 7).contradiction { hd with markValid := true, mark := 0 } = some 3 ∧
    ((on { bnd with state := .binding }).stream 7).contradiction { hd with markValid := true, mark := 3 } = some 4 ∧
    ((on { bnd with state := .binding }).stream 7).contradiction { hd with fresh := true } = some 1 ∧
    ((on { bnd with state := .binding }).stream 7).contradiction hd = some 2 ∧
    ((on { bnd with state := .binding }).stream 7).mark ≠ none ∧
    ((on { bnd with state := .binding }).stream 7).state = .binding := by decide +kernel

theorem witness_TellContradictionFaults_log : (on { bnd with state := .binding }).unwatched ∧
    (on { bnd with state := .binding }).settled := ⟨⟨rfl, rfl, rfl⟩, on_settled _⟩

theorem witness_TellReplays :
    ((on { bnd with state := .binding }).stream 7).contradiction { hd with markValid := true, mark := 1 } = none ∧
    (((on { bnd with state := .binding }).stream 7).inflight.map OttEntry.index).Nodup ∧
    ((on { bnd with state := .binding }).stream 7).inflight.filter
      (fun x => !(x.kind == .write && serialAtOrBefore x.seq 1)) ≠ [] := by decide +kernel

theorem witness_RewindStaysOnCarrier : (on bnd).unwatched ∧ (on bnd).settled ∧ ((on bnd).lane .a0).state ≠ .off ∧
    ((on bnd).stream 7).carrier = some .a0 ∧ (on bnd).eligible ((on bnd).stream 7).tried none .a0 = true ∧
    ((on bnd).stream 7).state ∈ [StreamState.replaying, .bound, .draining] ∧
    hd.stream = 7 ∧ hd.destination = (on bnd).params.sourceNode ∧ hd.epoch = ((on bnd).stream 7).epoch ∧
    (on bnd).deadlineOf 7 2 = some 500 ∧
    ((on bnd).modLane .a0 (fun r => { r with pin := .out })).eligible ((on bnd).stream 7).tried none .a0 = false := by
  refine ⟨⟨rfl, rfl, rfl⟩, on_settled _, ?_⟩; decide +kernel

theorem witness_BeatPartnerStates : base.unwatched ∧ base.carries .a0 = false ∧
    (base.lane .a0).partnerLeaving = false ∧ (base.lane .a0).state = .active ∧
    ((at0 LaneRec.powerOn).lane .a0).state = .quiet ∧
    ((at0 { up with partnerLeaving := true }).lane .a0).partnerLeaving = true :=
  ⟨base_unwatched, by decide +kernel, rfl, rfl, rfl, rfl⟩

/-- A lane in TRAINING that has seen one page of side A, and one that has acked. -/
def seenOne : LaneRec :=
  { LaneRec.powerOn with state := .training, training := ⟨false, false, 1, some (BasePage.ofFrame hd pageA), true, 0⟩ }
def acked : LaneRec := { seenOne with training := { seenOne.training with ownAck := true, seen := 2 } }

theorem base_sidesHold : base.sidesHold := by intro d; cases d <;> rfl

theorem witness_PagesTrain :
    pageA.length = 8 ∧ hd.pageKind = 0 ∧ (BasePage.ofFrame hd pageA).side = sideByte Lane.a0.side ∧
    (BasePage.ofFrame hd pageA).side ≠ sideByte Lane.b0.side ∧ (BasePage.ofFrame hd pageA).maxPayload.toNat = 256 ∧
    (BasePage.ofFrame hd pageA).resume = true ∧ (BasePage.ofFrame hd pageA).partner = .ok ∧
    seenOne.training.last = some (BasePage.ofFrame hd pageA) ∧ seenOne.training.seen = 1 ∧
    acked.training.ownAck = true ∧ acked.state = .training ∧
    (BasePage.ofFrame hd [0, 0, 0, 255, 1, 0, 0, 0]).maxPayload.toNat < 256 ∧
    (BasePage.ofFrame hd [0, 0, 1, 0, 0, 0, 0, 0]).resume = false ∧
    (BasePage.ofFrame { hd with partner := .configError } pageA).partner = .configError ∧
    (at0 seenOne).unwatched := by
  refine ⟨rfl, rfl, ?_, ?_, ?_, ?_, ?_, ?_, ?_, ?_, ?_, ?_, ?_, ?_, rfl, rfl, rfl⟩ <;> decide +kernel

/-- The part with A0 in TRAINING, its side IMPAIRED by that. -/
theorem witness_PagesTrain_sides :
    ((at0 seenOne).modSide .a (fun r => { r with state := .impaired })).sidesHold := by intro d; cases d <;> rfl

theorem witness_PagesTrain_next : { hd with pageKind := 1, ack := true, toggle := true }.pageKind = 1 ∧
    ((at0 { acked with training := { acked.training with next := true } }).lane .a0).state = .training ∧
    ((at0 { acked with training := { acked.training with next := true } }).lane .a0).training.toggle = true ∧
    ((at0 acked).lane .a0).training.next = false := by decide +kernel

theorem witness_TestFrames : (List.replicate 64 (5 : Byte)).length = 64 ∧ (base.lane .a0).checker = none ∧
    ((at0 (lastFrame .qualify 2)).lane .a0).checker = some ⟨.qualify, 256, 256, 255⟩ ∧
    ((at0 (lastFrame .qualify 2)).lane .a0).state = .qualify ∧
    ((at0 { lastFrame .qualify 0 with checker := some ⟨.qualify, 256, 256, 254⟩ }).lane .a0).checker =
      some ⟨.qualify, 256, 256, 254⟩ ∧ rescued.params.halfLane = 0 ∧ rescued.params.qualTolerance = 255 ∧
    (rescued.lane .a0).checker = some ⟨.qualify, 256, 256, 255⟩ ∧ (rescued.stream 8).state ≠ .stalled ∧
    (rescued.stream 7).state = .stalled ∧
    ∀ n, (rescued.stream n).state = .stalled → (rescued.stream n).stallDeadline ≠ none ∧ (rescued.stream n).move = none
    := by decide +kernel

theorem witness_LinkLossTakesDown : base.unwatched ∧
    ∀ st ∈ [LaneState.off, .quiet, .training, .qualify, .active, .degraded, .held, .down],
      ((at0 { up with state := st }).lane .a0).state = st := ⟨base_unwatched, by decide +kernel⟩

theorem witness_LinkLossFailsOver : ((on bnd).lane .a0).state = .active ∧
    ((on bnd).stream 7).carrier = some .a0 ∧ ((on bnd).stream 8).carrier ≠ some .a0 := by decide +kernel

theorem witness_LaneTimersAct :
    (base.lane .a0).timers.beat = some 1000 ∧ (base.lane .a0).timers.storm = some 100000 ∧
    ((at0 LaneRec.powerOn).lane .a0).timers.probe = some 100000 ∧
    ((at0 (timed up (fun t => { t with pause := some 5 }))).lane .a0).timers.pause = some 5 ∧
    ((at0 (timed seenOne (fun t => { t with page := some 10000 }))).lane .a0).timers.page = some 10000 ∧
    { seenOne.training with resends := 7 }.resends < 8 ∧ 8 ≤ { seenOne.training with resends := 8 }.resends ∧
    ((base.modSide .a (fun r => { r with suspectUntil := some 9 })).side .a).suspectUntil = some 9 := by decide +kernel

theorem witness_LaneTimersAct_silence : base.params.ordered ∧ (base.lane .a0).timers.silence = some 2000 ∧
    ((at0 { up with figure := 127 }).lane .a0).figure + 128 < base.params.warnLevel ∧
    ((at0 { timed up (fun t => { t with held := some 9 }) with state := .held }).lane .a0).timers.held = some 9 ∧
    ((at0 { timed up (fun t => { t with holdDown := some 9 }) with state := .down }).lane .a0).timers.holdDown =
      some 9 := ⟨base_ordered, by decide +kernel⟩

theorem witness_QualifyTimerEnds :
    ((at0 (lastFrame .qualify 0)).lane .a0).timers.qualify = some 20000 ∧
    ((at0 (lastFrame .diagnostic 0)).lane .a0).checker = some ⟨.diagnostic, 256, 256, 255⟩ ∧
    min 255 (((at0 (lastFrame .qualify 0)).lane .a0).errorBytes + 64 * (256 - 255)) = 64 := by decide +kernel

theorem witness_LeakTickLowers : ((at0 { up with figure := 3 }).lane .a0).figure - base.params.leak = 0 ∧
    ((at0 { up with figure := 3 }).lane .a0).figure ≠ 0 ∧ base.params.leak ≠ 0 ∧ (base.lane .a0).pin ≠ .keep ∧
    (base.lane .a0).figure = 0 := by decide +kernel

theorem witness_ThresholdsDecide :
    ((at0 LaneRec.powerOn).lane .a0).state = .quiet ∧ ((at0 { up with figure := 1023 }).lane .a0).figure = 1023 ∧
    ((at0 { up with figure := 1022 }).lane .a0).figure < 1023 ∧
    ((at0 { up with pin := .keep, figure := 224 }).lane .a0).pin = .keep ∧
    base.params.warnLevel ≤ min 1023 (224 + 32) ∧ base.params.downLevel ≤ min 1023 (736 + 32) ∧
    ¬base.params.downLevel ≤ min 1023 (735 + 32) := by decide +kernel

theorem witness_StormReportsHold : base.unwatched ∧ (base.lane .a0).state = .active ∧
    ((at0 { up with storm := 6 }).lane .a0).storm + 1 < base.params.stormRewinds ∧
    base.params.stormRewinds ≤ ((at0 { up with storm := 7 }).lane .a0).storm + 1 ∧
    ((at0 LaneRec.powerOn).lane .a0).state = .quiet := ⟨base_unwatched, by decide +kernel⟩

theorem witness_SmoothedLatency : (base.lane .a0).state = .active ∧ (base.lane .a0).latency ≤ 65535 ∧
    (107 : Nat) ≤ (base.lane .a0).latency + 7 ∧ (base.lane .a0).latency ≤ 93 + 7 := by decide +kernel

/-- Stream 7 in BINDING with its attempt timer running. -/
def asking (k : Nat) : StreamRec := { bnd with state := .binding, askTimer := some 5000, askAttempts := k }

theorem witness_AskAttempts : (on (asking 2)).settled ∧ ((on (asking 2)).stream 7).askTimer = some 5000 ∧
    ((on (asking 2)).stream 7).carrier = some .a0 ∧ ((on (asking 2)).stream 7).askAttempts < 3 ∧
    3 ≤ ((on (asking 3)).stream 7).askAttempts := ⟨on_settled _, by decide +kernel⟩

theorem witness_AskAttempts_manual :
    let r := { asking 3 with move := some ⟨some .b1, .manual, .absent, .a0⟩, binding := ⟨some .a0, none⟩ }
    ((on r).stream 7).move = some ⟨some .b1, .manual, .absent, .a0⟩ ∧ ((on r).stream 7).binding = ⟨some .a0, none⟩ ∧
    (on r).eligible ((on r).stream 7).tried none .b1 = true ∧ ((on (asking 3)).stream 7).move = none := by
  decide +kernel

theorem witness_StallExpires : (on stuck).unwatched ∧ (on stuck).settled ∧
    ((on stuck).stream 7).stallDeadline = some 9 := ⟨⟨rfl, rfl, rfl⟩, on_settled _, by decide +kernel⟩

theorem witness_PlannedMovesRun_drains : (on (drained .manual)).settled ∧ (on (drained .manual)).noneHeld ∧
    ((on (drained .manual)).stream 7).state = .draining ∧ ((on (drained .manual)).stream 7).carrier = some .a0 ∧
    ((on (drained .manual)).stream 7).move = some ⟨some .b0, .manual, .running 50000, .a0⟩ ∧
    ((on (drained .manual)).lane .a0).leaving = false ∧
    ((on (drained .leaving)).stream 7).move = some ⟨some .b0, .leaving, .running 50000, .a0⟩ :=
  ⟨on_settled _, by unfold Part.noneHeld; decide +kernel, by decide +kernel⟩

/-- Stream 7 BOUND on B0 with its return timer running toward A0. -/
def returning (es : List OttEntry) : StreamRec := { bnd with carrier := some .b0, returnTimer := some 9, inflight := es }

theorem witness_PlannedMovesRun : (on (returning [])).settled ∧
    ((on (returning [])).stream 7).returnTimer = some 9 ∧ ((on (returning [])).stream 7).carrier = some .b0 ∧
    ((on (returning [ent 2 .read])).stream 7).inflight ≠ [] ∧ ((on (returning [])).stream 7).inflight = [] ∧
    (on (returning [])).eligible ((on (returning [])).stream 7).tried none ((on (returning [])).stream 7).preferred =
      true ∧
    ((on (returning [])).modLane .a0 (fun r => { r with pin := .out })).eligible ((on (returning [])).stream 7).tried
      none .a0 = false ∧ ((on (drained .manual)).stream 7).hold.length ≤ 64 := ⟨on_settled _, by decide +kernel⟩

/-- Block 5 in use by entry 0. -/
def owned : Machine.Part := (on bnd).own [5] (some (.entry 0))

theorem witness_PatrolChecks_fates : owned.settled ∧ owned.intake.tally = none ∧
    ∀ x ∈ (owned.stream 7).inflight, x.agrees 7 := by
  refine ⟨⟨fun l => by cases l <;> rfl, nofun⟩, rfl, ?_⟩
  rw [show (owned.stream 7).inflight = [ent 2 .read] by decide +kernel]
  simp [OttEntry.agrees, ent]

theorem witness_PatrolChecks : owned.unwatched ∧ owned.intake.service = .running ∧
    (owned.stream 7).state ≠ .faulted ∧ owned.findEntry 0 = some (ent 2 .read) ∧
    (owned.stream (ent 2 .read).fate.stream).state ≠ .faulted ∧ owned.engine.owners.get 5 = some (.entry 0) ∧
    (ent 2 .read).poisoned = false := ⟨⟨rfl, rfl, rfl⟩, by decide +kernel⟩

theorem witness_ReadsAnswer : base.port.burst = none ∧ (31 : Byte).toNat < 32 ∧ (3 : Byte).toNat < 4 ∧
    (63 : Byte).toNat < 64 ∧ base.params.table[0x14 - 1]? = some (0, 12, 0, 2 ^ 96 - 1) ∧ base.log.entries = [] := by decide +kernel

/-- R12's edges: route 31, and one of 2^36 units from address 0. -/
theorem witness_RouteCommandsJudged_operands : (31 : RouteIx).val = (31 : Byte).toNat ∧ 32 ≤ (32 : Byte).toNat ∧
    (BitVec.ofNat 40 (2 ^ 36)).toNat * 4096 ≤ 2 ^ 48 ∧
    ∃ r : Route, r.valid = true ∧ r.base = 0 ∧ r.units = 2 ^ 36 ∧ r.node.toNat = (4095 : BitVec 16).toNat ∧
      r.stream.val = (63 : Byte).toNat ∧ r.preferred.code = (3 : Byte).toNat ∧ r.policy = .returning ∧
      r.access = .readOnly :=
  ⟨by decide, by decide, by decide, ⟨true, 0, 2 ^ 36, 0, 4095, 63, .b1, .returning, .readOnly⟩, rfl, rfl, rfl, rfl,
    rfl, rfl, rfl, rfl⟩

theorem witness_RouteCommandsJudged : base.port.burst = none ∧ (3 : RouteIx).val = (3 : Byte).toNat ∧
    ((on bnd).intake.routes.get 3).valid = true ∧ ((on bnd).stream 7).busy = true ∧
    ((on { bnd with inflight := [] }).stream 7).busy = false ∧
    ((on { bnd with inflight := [] }).stream 7).state = .bound ∧
    (∀ k, k ≠ (3 : RouteIx) → ((on bnd).intake.routes.get k).valid = true →
      ((on bnd).intake.routes.get k).stream ≠ 7) := by decide +kernel

/-- Stream 7, BOUND and empty, by route 3 alone: a write of another node at index 3 changes its node, and one for
stream 8 takes its last route. Neither is refused: stream 7 is not busy and route 4 agrees with the second write. -/
theorem witness_RouteCommandsJudged_leavesBound :
    let p := on { bnd with inflight := [] }
    let moved := { route3 with node := 6 }
    let other := { route3 with stream := 8 }
    p.intake.service ≠ .init ∧ p.intake.routes.get 3 = route3 ∧ route3.valid = true ∧ (p.stream 7).busy = false ∧
    route3 ≠ moved ∧ (p.stream 7).node ≠ moved.node ∧ route3 ≠ other ∧ route3.stream ≠ other.stream ∧
    (p.stream 7).hold = [] ∧ (p.intake.routes.get 4).node = other.node ∧
    (p.intake.routes.get 4).preferred = other.preferred ∧ (p.intake.routes.get 4).policy = other.policy ∧
    ∀ k, k ≠ (3 : RouteIx) → (p.intake.routes.get k).valid = true → (p.intake.routes.get k).stream ≠ 7 := by
  decide +kernel

theorem witness_StreamResetJudged : base.port.burst = none ∧ streamOfByte 63 = some 63 ∧ streamOfByte 64 = none ∧
    ((on { bnd with state := .faulted }).stream 7).state = .faulted := by decide +kernel

theorem witness_StreamMoveJudged : (on bnd).port.burst = none ∧ streamOfByte 7 = some 7 ∧ laneOfByte 3 = some .b1 ∧
    ((on bnd).stream 7).carrier = some .a0 ∧ ((on bnd).stream 7).inflight ≠ [] ∧
    ((on { bnd with inflight := [] }).stream 7).tried.has .b1 = false := by decide +kernel

theorem witness_LaneCommands : base.port.burst = none ∧ laneOfByte 4 = none ∧ laneOfByte 3 = some .b1 ∧
    (∀ n, (base.stream n).carrier ≠ some .a0) ∧ ((on bnd).stream 7).carrier = some .a0 ∧
    ((on bnd).stream 7).inflight ≠ [] ∧ ((on bnd).lane .a0).restartPending = false ∧
    ((at0 { up with restartPending := true }).lane .a0).restartPending = true := by decide +kernel

theorem witness_PinCommands : (on bnd).port.burst = none ∧ (on bnd).settled ∧ laneOfByte 0 = some .a0 ∧
    ((on bnd).lane .a0).pin = .unpinned ∧ ((on bnd).lane .a0).partnerLeaving = false ∧
    ((on bnd).stream 7).state = .bound ∧ ((on bnd).stream 7).move = none ∧ ((on bnd).stream 7).inflight ≠ [] ∧
    ((at0 { up with pin := .keep }).lane .a0).pin = .keep :=
  ⟨rfl, on_settled _, by decide +kernel⟩

/-- A0 in OFF as DISABLED with its near loopback on. -/
def looping : Machine.Part := (offWith .disabled).modLane .a0 (fun r => { r with loopback := true })

theorem witness_DiagnosticCommands : laneOfByte 0 = some .a0 ∧ base.port.burst = none ∧
    ((offWith .disabled).lane .a0).offReason = some .disabled ∧ (2 : Byte).toNat = 2 ∧
    { base with port := { base.port with burst := some .a0 } }.port.burst ≠ none ∧
    (looping.lane .a0).state = .off ∧ (looping.lane .a0).loopback = true ∧ (looping.lane .a0).loopPath = [] ∧
    ((looping.modLane .a0 (fun r => { r with loopPath := [⟨.test, hd, []⟩] })).lane .a0).loopPath =
      ⟨.test, hd, []⟩ :: [] ∧
    ((looping.modLane .a0 (fun r => { r with checker := some ⟨.diagnostic, 2, 2, 0⟩ })).lane .a0).checker =
      some ⟨.diagnostic, 2, 2, 0⟩ ∧
    ((looping.modLane .a0 (fun r => { r with checker := some ⟨.diagnostic, 256, 256, 255⟩ })).lane .a0).checker =
      some ⟨.diagnostic, 256, 256, 255⟩ ∧ looping.params.halfLane = 0 := by decide +kernel

/-- Stream 7 BOUND with its window of one full and a READ held, and one free entry. -/
def waiting : Machine.Part :=
  let q := (on { bnd with hold := [⟨0, 7, ⟨0x21, .read, 0x10, 8, [], false⟩⟩] }).modEngine
    (fun g => { g with freeEntries := [4] })
  { q with params := { q.params with streamWindow := 1 } }

theorem witness_ParameterWrite : base.port.burst = none ∧ 20 < (0x15 : Byte).toNat ∧ (0 : Byte).toNat < 1 ∧
    base.params.table[0x01 - 1]? = some (4, 1, 1, 64) ∧ base.params.table[0x03 - 1]? = some (64, 2, 0, 255) ∧
    base.params.table[0x11 - 1]? = some (0, 2, 0, 4095) ∧ base.params.table[0x14 - 1]? = some (0, 12, 0, 2 ^ 96 - 1) ∧
    (on bnd).sourceFree = false ∧ base.sourceFree = true ∧
    (allStreams.map (fun n => (waiting.stream n).hold.length)).sum ≤ 64 ∧ waiting.engine.freeEntries = [4] ∧
    (7 : StreamId) = waiting.engine.lastServed + 1 + 7 ∧
    { waiting with params := { waiting.params with streamWindow := 2 } }.headReady 7 = true ∧
    ∀ k < (7 : Fin 64), { waiting with params := { waiting.params with streamWindow := 2 } }.headReady
      (waiting.engine.lastServed + 1 + k) = false := by decide +kernel

/-- A log entry, and a full log of 32. -/
def logged (k : EventKind) : LogEntry := ⟨0, k, none, none, 0, 255, 0⟩

theorem witness_LogTakesEvent : (List.replicate 32 (logged .denied)).length = 32 ∧
    (List.replicate 32 (logged .denied)) = List.replicate 31 (logged .denied) ++ [logged .denied] ∧
    (logged .denied).kind ≠ .unrouted := by decide +kernel

theorem witness_LogCommands : base.port.burst = none ∧ base.log.entries = [] ∧
    { base with log := { base.log with entries := [logged .denied] } }.log.entries = logged .denied :: [] ∧
    base.params.attentionSet.getLsbD EventKind.sideLost.code = true ∧
    ∀ k : Fin 64, (bigEndian [0, 0, 0, 2, 0, 0, 0, 2]).testBit k = true → 1 ≤ k.val ∧ k.val ≤ 0x21 := by
  decide +kernel

theorem witness_CounterRead : base.port.burst = none ∧
    (List.range 5).map (fun k => counterOfId (0x1010 + k)) =
      [CounterId.lane .a0 .latencyBin0, .lane .a0 .latencyBin1, .lane .a0 .latencyBin2, .lane .a0 .latencyBin3,
        .lane .a0 .latencyBin4].map some ∧ counterOfId 0x1015 = none ∧ counterOfId 0x100F = none := by decide +kernel

theorem witness_CounterHalfRaised : base.intake.credits ≠ 0 ∧ base.params.halfLane = 0 ∧
    ((at0 LaneRec.powerOn).lane .a0).state ∈ [LaneState.off, .quiet, .down] ∧ (base.lane .a0).state ≠ .off ∧
    hd.destination = base.params.sourceNode ∧ hd.epoch ≠ (base.stream 7).epoch := by decide +kernel

theorem witness_ServiceCommands : base.quiesceHolds = true ∧ (on bnd).quiesceHolds = false ∧
    base.intake.service = .running ∧ base.intake.tally = none ∧
    (base.modIntake (fun i => { i with service := .restricted })).quiesceHolds = true := by decide +kernel

theorem witness_WarmRestartEmpties : (on bnd).port.burst = none ∧ (on bnd).unwatched ∧ (on bnd).settled ∧
    (on bnd).intake.tally = none ∧
    ((at0 { up with restartPending := true }).lane .a0).restartPending = true ∧
    ((on bnd).lane .a0).restartPending = false :=
  ⟨rfl, ⟨rfl, rfl, rfl⟩, on_settled _, by decide +kernel⟩

theorem witness_CommandFramesJudged : base.port.burst = none ∧ (0x99#8 : Byte) ≠ 0x6F#8 ∧ 32 < (33#8 : Byte).toNat := by
  decide +kernel

theorem witness_FrameRoundTrip : (Frame.mk (.other 15) hd (List.replicate 256 1)).wellFormed = true := by decide +kernel

theorem witness_StepKeepsLog : base.log.sound ∧ ∃ s', step ⟨base, [.stat]⟩ = .next s' :=
  ⟨⟨by decide, nofun, trivial, nofun, by decide, by decide⟩, _, rfl⟩

theorem witness_StepKeepsRanges : (base.laneRanges ∧ base.params.ordered ∧ base.params.stormRewinds ≤ 63 ∧
    base.sidesHold ∧ base.engine.buffer.wf = true) ∧ ∃ s', step ⟨base, [.stat]⟩ = .next s' := by
  refine ⟨⟨?_, base_ordered, by decide +kernel, base_sidesHold, by decide +kernel⟩, _, rfl⟩
  intro l
  cases l <;> refine ⟨by decide +kernel, by decide +kernel, by decide +kernel, fun h => absurd rfl h, nofun⟩

theorem witness_StepKeepsCarriers : base.carriersHold ∧ ∃ s', step ⟨base, [.stat]⟩ = .next s' := by
  refine ⟨?_, _, rfl⟩
  unfold Part.carriersHold; decide +kernel

theorem base_empty (n : StreamId) : (base.stream n).inflight = [] ∧ (base.stream n).hold = [] := by
  simp [Part.stream, base, Part.powerOn, Vector.get_replicate, StreamRec.powerOn]

theorem base_owners (b : BlockIx) : base.engine.owners.get b = none := by
  simp [base, Part.powerOn, Vector.get_replicate]

theorem base_poolsHold : base.poolsHold where
  entries := by rw [show base.entriesUsed = [] by simp [Part.entriesUsed, base_empty]]; simp [base, Part.powerOn]
  slots := by rw [show base.slotsUsed = [] by simp [Part.slotsUsed, base_empty]]; simp [base, Part.powerOn]
  blocks := by rw [show base.blocksUsed = [] by simp [Part.blocksUsed, base_empty]]; simp [base, Part.powerOn]
  owners := by intro b o; cases o <;> simp [base_owners, base_empty]
  fates := by simp [base_empty]
  holds := by simp [base_empty]
  out := fun n _ => base_empty n

theorem witness_StepKeepsPools : base.poolsHold ∧ base.seqsNear ∧ base.seqsHold ∧
    ∃ s', step ⟨base, [.stat]⟩ = .next s' :=
  ⟨base_poolsHold, by simp [Part.seqsNear, base_empty], by simp [Part.seqsHold, base_empty], _, rfl⟩

end Sys2Proof.Tests
end

section
/-! O34: the smoothed latency (R99). The arithmetic of `smooth` comes first, on its own; then what a latency sample
does to the part. -/

namespace Sys2Proof.Machine

/-! ### The update of R99 -/

/-- The division truncates toward zero, so a sample above S adds an eighth of the way up, rounded down. -/
theorem smooth_of_le {s x : Nat} (h : s ≤ x) : smooth s x = s + (x - s) / 8 := by
  have hdiv : ((x : Int) - s).tdiv 8 = ((x : Int) - s) / 8 := Int.tdiv_eq_ediv_of_nonneg (by omega)
  rw [smooth, hdiv]
  omega

/-- A sample below S takes off an eighth of the way down, rounded down: truncation mirrors at zero. -/
theorem smooth_of_ge {s x : Nat} (h : x ≤ s) : smooth s x = s - (s - x) / 8 := by
  have hdiv : ((x : Int) - s).tdiv 8 = -(((s : Int) - x) / 8) := by
    rw [← Int.neg_sub, Int.neg_tdiv, Int.tdiv_eq_ediv_of_nonneg (by omega)]
  rw [smooth, hdiv]
  omega

/-- The integer that `smooth` computes is never negative, so taking it as a natural number loses nothing. -/
theorem smooth_cast (s x : Nat) : (smooth s x : Int) = s + ((x : Int) - s).tdiv 8 := by
  have hlow : -(s : Int) ≤ ((x : Int) - s).tdiv 8 := by
    have hmono : (-(s : Int)).tdiv 8 ≤ ((x : Int) - s).tdiv 8 := Int.tdiv_le_tdiv (by omega) (by omega)
    rw [Int.neg_tdiv, Int.tdiv_eq_ediv_of_nonneg (by omega)] at hmono
    omega
  exact Int.toNat_of_nonneg (by omega)

theorem min_le_smooth (s x : Nat) : min s x ≤ smooth s x := by
  rcases Nat.le_total s x with h | h
  · rw [smooth_of_le h]; omega
  · rw [smooth_of_ge h]; omega

theorem smooth_le_max (s x : Nat) : smooth s x ≤ max s x := by
  rcases Nat.le_total s x with h | h
  · rw [smooth_of_le h]; omega
  · rw [smooth_of_ge h]; omega

/-- Within 7 µs on either side the eighth truncates to 0. -/
theorem smooth_of_near {s x : Nat} (hup : x ≤ s + 7) (hdown : s ≤ x + 7) : smooth s x = s := by
  rcases Nat.le_total s x with h | h
  · rw [smooth_of_le h]; omega
  · rw [smooth_of_ge h]; omega

/-! ### A run of samples of 0 -/

theorem smooth_zero (s : Nat) : smooth s 0 = s - s / 8 := smooth_of_ge (Nat.zero_le s)

/-- From 7 up, a sample of 0 does not go below 7. -/
theorem seven_le_smooth_zero {s : Nat} (h : 7 ≤ s) : 7 ≤ smooth s 0 := by
  rw [smooth_zero]; omega

theorem seven_le_iterate_smooth_zero {s : Nat} (h : 7 ≤ s) (k : Nat) : 7 ≤ (fun s => smooth s 0)^[k] s := by
  induction k generalizing s with
  | zero => exact h
  | succ k ih => exact ih (seven_le_smooth_zero h)

/-- From 100, the value at power-on (R98), 24 samples of 0 lead to 7. -/
theorem iterate_smooth_zero_hundred : (fun s => smooth s 0)^[24] 100 = 7 := by
  simp only [smooth_zero]
  decide

/-! ### LATENCY_SAMPLE -/

/-- The part after LATENCY_SAMPLE: the report is off the list, and the sample is taken at its lane. -/
theorem exec_latencySample (l : Lane) (us : BitVec 16) (p : Part) (w : List Instr) :
    exec (.latencySample l us) ⟨p, w⟩ = .next ⟨(p.takeReport (.sample l us)).sampleTaken l us, w⟩ := rfl

/-- In ACTIVE or DEGRADED a sample moves the smoothed latency of its lane's record, and nothing else of it. -/
theorem Part.sampleTaken_lane_self {p : Part} {l : Lane} (h : (p.lane l).state.inService = true) (us : BitVec 16) :
    (p.sampleTaken l us).lane l = { p.lane l with latency := smooth (p.lane l).latency us.toNat } := by
  simp [Part.sampleTaken, h]

theorem Part.sampleTaken_lane_of_ne (p : Part) {l m : Lane} (h : m ≠ l) (us : BitVec 16) :
    (p.sampleTaken l us).lane m = p.lane m :=
  (Part.modLane_lane_of_ne _ h _).trans (p.raise_lane _ m)

@[simp] theorem Part.sampleTaken_engine (p : Part) (l : Lane) (us : BitVec 16) :
    (p.sampleTaken l us).engine = p.engine := by
  simp [Part.sampleTaken]

/-- Settles O34: R99's bounds are those of `smooth`, and a sample in service changes no lane record but its own lane's. -/
theorem smoothedLatency : Obligations.SmoothedLatency := by
  unfold Obligations.SmoothedLatency
  refine ⟨fun p w l us hstate => ?_, ⟨24, iterate_smooth_zero_hundred⟩,
    seven_le_iterate_smooth_zero (by decide)⟩
  have hin : ((p.takeReport (.sample l us)).lane l).state.inService = true := by
    rcases hstate with h | h <;> simp [h, LaneState.inService]
  have hlane := Part.sampleTaken_lane_self hin us
  rw [Part.takeReport_lane] at hlane
  have hlow := min_le_smooth (p.lane l).latency us.toNat
  have hhigh := smooth_le_max (p.lane l).latency us.toNat
  refine ⟨_, exec_latencySample l us p w, ?_⟩
  rw [hlane]
  exact ⟨smooth_cast _ _, hlow, hhigh, fun hle => hhigh.trans (max_le hle (Nat.le_of_lt_succ us.isLt)),
    smooth_of_near, rfl, fun m hm => by rw [Part.sampleTaken_lane_of_ne _ hm, Part.takeReport_lane], by simp⟩

end Sys2Proof.Machine
end

section
/-! O38: the choice of carrier lane (R108, R109, R111). The ranking looks through the candidate list three times, once
for each of R111's steps 2 to 4; `carrierStep` is the step that a lane falls under, so that each search is for the
lanes up to one step. -/

namespace Sys2Proof.Machine

/-! ### Eligibility (R109) -/

theorem LaneState.inService_iff (s : LaneState) : s.inService = true ↔ s = .active ∨ s = .degraded := by
  cases s <;> simp [LaneState.inService]

theorem Part.eligible_iff (p : Part) (tried : LaneSet) (excluded : Option Lane) (l : Lane) :
    p.eligible tried excluded l = true ↔
      ((p.lane l).state = .active ∨ (p.lane l).state = .degraded) ∧ (p.lane l).pin ≠ .out ∧
        (p.lane l).partnerLeaving = false ∧ (p.lane l).restartPending = false ∧ tried.has l = false ∧
        excluded ≠ some l := by
  simp [Part.eligible, LaneState.inService_iff, and_assoc]

/-! ### The candidate list (R108) -/

/-- The candidate list leaves no lane out. -/
theorem mem_candidates (preferred l : Lane) : l ∈ candidates preferred := by
  cases preferred <;> cases l <;> decide

theorem idxOf_candidates_lt (preferred l : Lane) : (candidates preferred).idxOf l < 4 :=
  List.idxOf_lt_length_of_mem (mem_candidates preferred l)

/-- A search of a list finds no element that stands behind another one passing the test. -/
theorem idxOf_le_of_find?_eq_some {α : Type} [DecidableEq α] {test : α → Bool} {list : List α} {a b : α}
    (hfind : list.find? test = some a) (hb : test b = true) : list.idxOf a ≤ list.idxOf b := by
  obtain ⟨ha, before, after, rfl, hbefore⟩ := List.find?_eq_some_iff_append.mp hfind
  have not_mem_before {x : α} (hx : test x = true) : x ∉ before := fun hmem => by simpa [hx] using hbefore x hmem
  rw [List.idxOf_append_of_notMem (not_mem_before ha), List.idxOf_append_of_notMem (not_mem_before hb),
    List.idxOf_cons_self]
  exact Nat.le_add_right ..

/-! ### The steps of the ranking (R111) -/

/-- The step of R111 that an eligible lane falls under, counted from its step 2. -/
def Part.carrierStep (p : Part) (l : Lane) : Nat :=
  if (p.lane l).state = .active then (if (p.side l.side).suspectUntil = none then 0 else 1) else 2

theorem Part.carrierRank_eq (p : Part) (preferred l : Lane) :
    p.carrierRank preferred l = 4 * p.carrierStep l + (candidates preferred).idxOf l := rfl

theorem Part.carrierStep_le_two (p : Part) (l : Lane) : p.carrierStep l ≤ 2 := by
  unfold Part.carrierStep; split_ifs <;> decide

theorem Part.carrierStep_le_one_iff (p : Part) (l : Lane) :
    p.carrierStep l ≤ 1 ↔ (p.lane l).state = .active := by
  unfold Part.carrierStep; split_ifs <;> simp_all

theorem Part.carrierStep_le_zero_iff (p : Part) (l : Lane) :
    p.carrierStep l ≤ 0 ↔ (p.lane l).state = .active ∧ (p.side l.side).suspect = false := by
  unfold Part.carrierStep SideRec.suspect; split_ifs <;> simp_all

/-- The ranking is three searches, each for the eligible lanes up to one step. -/
theorem Part.ranked_eq (p : Part) (ok : Lane → Bool) (list : List Lane) :
    p.ranked ok list = ((list.find? (fun l => ok l && decide (p.carrierStep l ≤ 0))).or
      ((list.find? (fun l => ok l && decide (p.carrierStep l ≤ 1))).or (list.find? ok))) := by
  have hzero : (fun l => ok l && decide (p.carrierStep l ≤ 0)) =
      fun l => ok l && (p.lane l).state == .active && !(p.side l.side).suspect := by
    funext l
    rw [Bool.eq_iff_iff]
    simp only [Bool.and_eq_true, decide_eq_true_eq, p.carrierStep_le_zero_iff, beq_iff_eq, Bool.not_eq_true', and_assoc]
  have hone : (fun l => ok l && decide (p.carrierStep l ≤ 1)) = fun l => ok l && (p.lane l).state == .active := by
    funext l
    rw [Bool.eq_iff_iff]
    simp only [Bool.and_eq_true, decide_eq_true_eq, p.carrierStep_le_one_iff, beq_iff_eq]
  rw [hzero, hone]
  unfold Part.ranked
  dsimp only
  split
  · next h => rw [h]; rfl
  · next h =>
    rw [h, Option.none_or]
    split
    · next h' => rw [h']; rfl
    · next h' => rw [h', Option.none_or]

/-- The ranking finds nothing exactly when no lane of the list passes the test. -/
theorem Part.ranked_eq_none_iff (p : Part) (ok : Lane → Bool) (list : List Lane) :
    p.ranked ok list = none ↔ ∀ l ∈ list, ok l = false := by
  rw [p.ranked_eq, Option.or_eq_none_iff, Option.or_eq_none_iff]
  constructor
  · rintro ⟨-, -, hnone⟩ l hl
    simpa using List.find?_eq_none.mp hnone l hl
  · intro h
    refine ⟨?_, ?_, ?_⟩ <;> exact List.find?_eq_none.mpr fun l hl => by simp [h l hl]

/-- A search of the candidate list for the lanes up to step `k` finds the first one in rank, when none stands under
an earlier step. -/
theorem Part.carrierRank_le_of_find? {p : Part} {preferred l m : Lane} {test : Lane → Bool} {k : Nat}
    (hfind : (candidates preferred).find? test = some l) (hl : p.carrierStep l ≤ k) (hm : k ≤ p.carrierStep m)
    (htest : p.carrierStep m ≤ k → test m = true) : p.carrierRank preferred l ≤ p.carrierRank preferred m := by
  rw [p.carrierRank_eq, p.carrierRank_eq]
  rcases hm.eq_or_lt with heq | hlt
  · have hidx := idxOf_le_of_find?_eq_some hfind (htest heq.ge)
    omega
  · have hidx := idxOf_candidates_lt preferred l
    omega

/-- A search for the lanes up to step `k` that finds none leaves only lanes under a later step. -/
theorem Part.lt_carrierStep_of_find?_eq_none {p : Part} {preferred m : Lane} {ok : Lane → Bool} {k : Nat}
    (hnone : (candidates preferred).find? (fun l => ok l && decide (p.carrierStep l ≤ k)) = none)
    (hm : ok m = true) : k < p.carrierStep m := by
  simpa [hm] using List.find?_eq_none.mp hnone m (mem_candidates preferred m)

/-- The lane that the ranking finds stands first in rank among those that pass the test (R111). -/
theorem Part.ranked_carrierRank_le {p : Part} {ok : Lane → Bool} {preferred l m : Lane}
    (h : p.ranked ok (candidates preferred) = some l) (hm : ok m = true) :
    p.carrierRank preferred l ≤ p.carrierRank preferred m := by
  have step_le {k : Nat} (hfind : (candidates preferred).find?
      (fun l => ok l && decide (p.carrierStep l ≤ k)) = some l) : p.carrierStep l ≤ k := by
    have hfound := List.find?_some hfind
    simp only [Bool.and_eq_true, decide_eq_true_eq] at hfound
    exact hfound.2
  rw [p.ranked_eq, Option.or_eq_some_iff, Option.or_eq_some_iff] at h
  obtain hclean | ⟨hnoClean, hactive | ⟨hnoActive, hany⟩⟩ := h
  · exact carrierRank_le_of_find? hclean (step_le hclean) (Nat.zero_le _) fun hk => by simp [hm, hk]
  · exact carrierRank_le_of_find? hactive (step_le hactive) (lt_carrierStep_of_find?_eq_none hnoClean hm)
      fun hk => by simp [hm, hk]
  · exact carrierRank_le_of_find? hany (p.carrierStep_le_two l) (lt_carrierStep_of_find?_eq_none hnoActive hm)
      fun _ => hm

/-! ### The choice (R111) -/

/-- Either the binding's distinguished lane is eligible, or none is there to be taken ahead of the ranking. -/
theorem Part.distinguished_eligible_or_not (p : Part) (tried : LaneSet) (d excluded : Option Lane) :
    (∃ g, d = some g ∧ p.eligible tried excluded g = true) ∨
      ∀ g, d = some g → p.eligible tried excluded g = false := by
  cases d with
  | none => simp
  | some g => cases h : p.eligible tried excluded g <;> simp [h]

/-- Step 1: the distinguished lane, when it is eligible. -/
theorem Part.choose_of_distinguished {p : Part} {preferred g : Lane} {tried : LaneSet} {excluded : Option Lane}
    (hg : p.eligible tried excluded g = true) : p.choose preferred tried ⟨some g, excluded⟩ = some g := by
  simp [Part.choose, hg]

/-- Without an eligible distinguished lane the ranking chooses. -/
theorem Part.choose_of_not_distinguished {p : Part} {preferred : Lane} {tried : LaneSet} {d excluded : Option Lane}
    (hd : ∀ g, d = some g → p.eligible tried excluded g = false) :
    p.choose preferred tried ⟨d, excluded⟩ = p.ranked (p.eligible tried excluded) (candidates preferred) := by
  cases d with
  | none => rfl
  | some g => simp [Part.choose, hd g rfl]

/-- The choice finds no lane exactly when none is eligible. -/
theorem Part.choose_eq_none_iff (p : Part) (preferred : Lane) (tried : LaneSet) (d excluded : Option Lane) :
    p.choose preferred tried ⟨d, excluded⟩ = none ↔ ∀ m, p.eligible tried excluded m = false := by
  rcases p.distinguished_eligible_or_not tried d excluded with ⟨g, rfl, hg⟩ | hd
  · simpa [choose_of_distinguished hg] using ⟨g, hg⟩
  · simp [choose_of_not_distinguished hd, p.ranked_eq_none_iff, mem_candidates]

/-- The lane chosen is the distinguished one, or stands first in rank with no distinguished lane eligible. -/
theorem Part.choose_first {p : Part} {preferred l : Lane} {tried : LaneSet} {d excluded : Option Lane}
    (h : p.choose preferred tried ⟨d, excluded⟩ = some l) :
    d = some l ∨ ((∀ g, d = some g → p.eligible tried excluded g = false) ∧
      ∀ m, p.eligible tried excluded m = true → p.carrierRank preferred l ≤ p.carrierRank preferred m) := by
  rcases p.distinguished_eligible_or_not tried d excluded with ⟨g, rfl, hg⟩ | hd
  · exact .inl ((choose_of_distinguished hg).symm.trans h)
  · rw [choose_of_not_distinguished hd] at h
    exact .inr ⟨hd, fun m hm => ranked_carrierRank_le h hm⟩

/-- Settles O38: R109's six conditions are `eligible`'s, and the choice is the distinguished lane or the first in
rank. -/
theorem carrierChoiceRanks : Obligations.CarrierChoiceRanks := by
  unfold Obligations.CarrierChoiceRanks
  refine fun p preferred tried d excluded => ⟨p.eligible_iff tried excluded, ?_⟩
  split
  · next h => exact (p.choose_eq_none_iff preferred tried d excluded).mp h
  · next l h =>
    refine ⟨p.choose_eligible preferred tried ⟨d, excluded⟩ l h, Part.choose_first h, ?_⟩
    rintro g rfl hg
    exact Option.some.inj (h.symm.trans (Part.choose_of_distinguished hg))

end Sys2Proof.Machine
end

section
/-! O48: what the event log does with an event (R146, R147). The two outcomes of `EventLog.take` are equations of their
own, one per case of R146; then the two cases of an append, by whether the log is full (R147). -/

namespace Sys2Proof.Machine

section

variable {log : EventLog} {kind : EventKind} {lane : Option Lane} {stream : Option StreamId}

/-! ### Coalescing or appending (R146) -/

theorem EventLog.take_of_newest_eq {old : List LogEntry} {e : LogEntry} (hlog : log.entries = old ++ [e])
    (hsame : e.kind = kind ∧ e.lane = lane ∧ e.stream = stream) (detail : BitVec 16) (time : BitVec 32) :
    log.take kind lane stream detail time =
      { log with entries := old ++ [{ e with repeats := min 255 (e.repeats + 1) }] } := by
  simp [EventLog.take, hlog, hsame]

theorem EventLog.take_of_newest_ne
    (hdiffer : ∀ old e, log.entries = old ++ [e] → ¬(e.kind = kind ∧ e.lane = lane ∧ e.stream = stream))
    (detail : BitVec 16) (time : BitVec 32) :
    log.take kind lane stream detail time = log.append kind lane stream detail time := by
  rcases log.take_cases kind lane stream detail time with ⟨old, e, hlog, hkind, hlane, hstream, -⟩ | ⟨-, happend⟩
  · exact absurd ⟨hkind, hlane, hstream⟩ (hdiffer old e hlog)
  · exact happend

/-! ### An append (R147, R149) -/

variable (log kind lane stream) (detail : BitVec 16) (time : BitVec 32)

@[simp] theorem EventLog.append_next : (log.append kind lane stream detail time).next = log.next + 1 := by
  unfold EventLog.append; split <;> rfl

@[simp] theorem EventLog.append_ever : (log.append kind lane stream detail time).ever = true := by
  unfold EventLog.append; split <;> rfl

variable {log}

theorem EventLog.append_of_not_full (h : log.entries.length < 32) :
    log.append kind lane stream detail time =
      { log with entries := log.entries ++ [⟨log.next, kind, lane, stream, detail, 1, time⟩],
                 next := log.next + 1, ever := true } := if_pos h

theorem EventLog.append_of_full (h : log.entries.length = 32) :
    log.append kind lane stream detail time =
      { entries := log.entries.tail ++ [⟨log.next, kind, lane, stream, detail, 1, time⟩],
        next := log.next + 1, ever := true, overflowed := true, overflow := min 255 (log.overflow + 1) } :=
  if_neg h.not_lt

theorem EventLog.append_length_le (h : log.entries.length ≤ 32) :
    (log.append kind lane stream detail time).entries.length ≤ 32 := by
  rcases h.lt_or_eq with hroom | hfull
  · simpa [append_of_not_full _ _ _ _ _ hroom] using hroom
  · simp [append_of_full _ _ _ _ _ hfull, hfull]

/-- An event never makes the log longer than its 32 entries (R145). -/
theorem EventLog.take_length_le (h : log.entries.length ≤ 32) :
    (log.take kind lane stream detail time).entries.length ≤ 32 := by
  rcases log.take_cases kind lane stream detail time with ⟨old, e, hlog, -, -, -, htake⟩ | ⟨-, htake⟩
  · simpa [htake, hlog] using h
  · exact htake ▸ append_length_le kind lane stream detail time h

end

/-- Settles O48: an event coalesces into an equal newest entry, and is appended otherwise, with or without room. -/
theorem logTakesEvent : Obligations.LogTakesEvent := by
  unfold Obligations.LogTakesEvent
  intro log kind lane stream detail time hshort
  refine ⟨_, rfl, EventLog.take_length_le kind lane stream detail time hshort, ?coalesces, ?appends⟩
  case coalesces =>
    exact fun old e hlog hkind hlane hstream =>
      EventLog.take_of_newest_eq hlog ⟨hkind, hlane, hstream⟩ detail time
  case appends =>
    intro hdiffer
    rw [EventLog.take_of_newest_ne hdiffer]
    refine ⟨_, rfl, by simp, by simp, fun hroom => ?_, fun head rest hlog hfull => ?_⟩
    · simp [EventLog.append_of_not_full _ _ _ _ _ hroom]
    · have hrest : rest.length + 1 = 32 := by simpa [hlog] using hfull
      simp [EventLog.append_of_full _ _ _ _ _ hfull, hlog, hrest]

end Sys2Proof.Machine
end

section
/-! O50: CTRD (R160). First the bank: every counter has a slot of its own, so that clearing one leaves the others.
Then the range of ids that CTRD names, its operands, and the command. -/

namespace Sys2Proof.Machine

/-! ### The slots of the bank (R155) -/

@[simp] theorem PartCounter.ofNumber_number (c : PartCounter) : ofNumber c.number = some c := by cases c <;> rfl
@[simp] theorem LaneCounter.ofNumber_number (c : LaneCounter) : ofNumber c.number = some c := by cases c <;> rfl
@[simp] theorem StreamCounter.ofNumber_number (c : StreamCounter) : ofNumber c.number = some c := by cases c <;> rfl
@[simp] theorem laneOfByte_code (l : Lane) : laneOfByte (BitVec.ofNat 8 l.code) = some l := by cases l <;> rfl

theorem PartCounter.number_injective : Function.Injective PartCounter.number := fun c d h => by
  simpa using congrArg ofNumber h
theorem LaneCounter.number_injective : Function.Injective LaneCounter.number := fun c d h => by
  simpa using congrArg ofNumber h
theorem StreamCounter.number_injective : Function.Injective StreamCounter.number := fun c d h => by
  simpa using congrArg ofNumber h
theorem Lane.code_injective : Function.Injective Lane.code := fun l m h => by
  simpa using congrArg (fun k => laneOfByte (BitVec.ofNat 8 k)) h

theorem PartCounter.number_pos (c : PartCounter) : 0 < c.number := by cases c <;> decide
theorem LaneCounter.number_pos (c : LaneCounter) : 0 < c.number := by cases c <;> decide
theorem StreamCounter.number_pos (c : StreamCounter) : 0 < c.number := by cases c <;> decide

/-- The per-lane numbers leave out 0Fh, so closing the gap in the bank joins no two of them (R156). -/
theorem LaneCounter.number_ne_fifteen (c : LaneCounter) : c.number ≠ 15 := by cases c <;> decide

theorem CounterId.slot_part (c : PartCounter) : (CounterId.part c).slot.val = c.number - 1 := rfl
theorem CounterId.slot_lane (l : Lane) (c : LaneCounter) : (CounterId.lane l c).slot.val =
    7 + 19 * l.code + (if c.number < 16 then c.number - 1 else c.number - 2) := rfl
theorem CounterId.slot_stream (n : StreamId) (c : StreamCounter) : (CounterId.stream n c).slot.val =
    83 + 10 * n.val + (c.number - 1) := rfl

theorem CounterId.slot_part_lt (c : PartCounter) : (CounterId.part c).slot.val < 7 := by
  have hlt := c.number_lt
  rw [slot_part]; omega

theorem CounterId.slot_lane_mem (l : Lane) (c : LaneCounter) :
    7 ≤ (CounterId.lane l c).slot.val ∧ (CounterId.lane l c).slot.val < 83 := by
  have hlt := c.number_lt
  have hcode := l.code_lt
  rw [slot_lane]; split <;> omega

theorem CounterId.le_slot_stream (n : StreamId) (c : StreamCounter) : 83 ≤ (CounterId.stream n c).slot.val := by
  rw [slot_stream]; omega

theorem CounterId.slot_part_inj {c d : PartCounter} (h : (CounterId.part c).slot = (CounterId.part d).slot) :
    c = d := by
  have hc := c.number_pos
  have hd := d.number_pos
  have hslot := congrArg Fin.val h
  rw [slot_part, slot_part] at hslot
  exact PartCounter.number_injective (by omega)

theorem CounterId.slot_lane_inj {l m : Lane} {c d : LaneCounter}
    (h : (CounterId.lane l c).slot = (CounterId.lane m d).slot) : l = m ∧ c = d := by
  have hc := c.number_pos
  have hd := d.number_pos
  have hclt := c.number_lt
  have hdlt := d.number_lt
  have hcgap := c.number_ne_fifteen
  have hdgap := d.number_ne_fifteen
  have hslot := congrArg Fin.val h
  rw [slot_lane, slot_lane] at hslot
  have hboth : l.code = m.code ∧ c.number = d.number := by split_ifs at hslot <;> omega
  exact ⟨Lane.code_injective hboth.1, LaneCounter.number_injective hboth.2⟩

theorem CounterId.slot_stream_inj {n m : StreamId} {c d : StreamCounter}
    (h : (CounterId.stream n c).slot = (CounterId.stream m d).slot) : n = m ∧ c = d := by
  have hc := c.number_pos
  have hd := d.number_pos
  have hclt := c.number_lt
  have hdlt := d.number_lt
  have hslot := congrArg Fin.val h
  rw [slot_stream, slot_stream] at hslot
  have hboth : n.val = m.val ∧ c.number = d.number := by omega
  exact ⟨Fin.ext hboth.1, StreamCounter.number_injective hboth.2⟩

/-- No two counters share a slot of the bank: the three groups lie apart, and each is without repeats. -/
theorem CounterId.slot_injective : Function.Injective CounterId.slot := by
  intro x y h
  have hval := congrArg Fin.val h
  cases x with
  | part c =>
    have hx := slot_part_lt c
    cases y with
    | part d => rw [slot_part_inj h]
    | lane m d => have hy := slot_lane_mem m d; omega
    | stream m d => have hy := le_slot_stream m d; omega
  | lane l c =>
    have hx := slot_lane_mem l c
    cases y with
    | part d => have hy := slot_part_lt d; omega
    | lane m d => obtain ⟨rfl, rfl⟩ := slot_lane_inj h; rfl
    | stream m d => have hy := le_slot_stream m d; omega
  | stream n c =>
    have hx := le_slot_stream n c
    cases y with
    | part d => have hy := slot_part_lt d; omega
    | lane m d => have hy := slot_lane_mem m d; omega
    | stream m d => obtain ⟨rfl, rfl⟩ := slot_stream_inj h; rfl

/-! ### Setting counters -/

@[simp] theorem Part.setCounter_counter_self (p : Part) (c : CounterId) (v : BitVec 32) :
    (p.setCounter c v).counter c = v := by
  simp [Part.counter, Part.setCounter, Vector.get_eq_getElem]

theorem Part.setCounter_counter_of_ne (p : Part) {c d : CounterId} (h : d ≠ c) (v : BitVec 32) :
    (p.setCounter c v).counter d = p.counter d := by
  have hslot : c.slot.val ≠ d.slot.val := fun e => h (CounterId.slot_injective (Fin.ext e.symm))
  simp [Part.counter, Part.setCounter, Vector.get_eq_getElem, hslot]

/-- Clearing counters in turn changes the bank alone. -/
theorem Part.foldl_setCounter_zero_eq (p : Part) (cs : List CounterId) :
    ∃ bank, cs.foldl (fun x c => x.setCounter c 0) p = { p with counters := bank } := by
  induction cs generalizing p with
  | nil => exact ⟨p.counters, rfl⟩
  | cons c cs ih =>
    obtain ⟨bank, hbank⟩ := ih (p.setCounter c 0)
    exact ⟨bank, hbank⟩

/-- Clearing counters in turn clears those of the list and no other. -/
theorem Part.foldl_setCounter_zero_counter (p : Part) (cs : List CounterId) (d : CounterId) :
    (cs.foldl (fun x c => x.setCounter c 0) p).counter d = if d ∈ cs then 0 else p.counter d := by
  induction cs generalizing p with
  | nil => simp
  | cons c cs ih =>
    rw [List.foldl_cons, ih]
    by_cases hd : d = c
    · simp [hd]
    · simp [hd, p.setCounter_counter_of_ne hd]

/-! ### Reading counters (R160) -/

/-- With or without the clear, CTRD changes the bank and the response alone, and the response holds the values of
before the clear. -/
theorem Part.readCounters_eq (p : Part) (cs : List CounterId) (clear : Bool) :
    ∃ bank, p.readCounters cs clear = { p with counters := bank }.respond Status.ok.code
      (cs.flatMap (fun c => toBigEndian 4 (p.counter c).toNat)) := by
  cases clear with
  | false => exact ⟨p.counters, rfl⟩
  | true =>
    obtain ⟨bank, hbank⟩ := p.foldl_setCounter_zero_eq cs
    exact ⟨bank, congrArg (fun q : Part => q.respond _ _) hbank⟩

section

variable (p : Part) (cs : List CounterId) (clear : Bool)

@[simp] theorem Part.readCounters_log : (p.readCounters cs clear).log = p.log := by
  obtain ⟨bank, h⟩ := p.readCounters_eq cs clear; simp [h]
@[simp] theorem Part.readCounters_engine : (p.readCounters cs clear).engine = p.engine := by
  obtain ⟨bank, h⟩ := p.readCounters_eq cs clear; simp [h]
@[simp] theorem Part.readCounters_lanes : (p.readCounters cs clear).lanes = p.lanes := by
  obtain ⟨bank, h⟩ := p.readCounters_eq cs clear; simp [h]
@[simp] theorem Part.readCounters_port : (p.readCounters cs clear).port =
    { p.port with status := Status.ok.code, data := cs.flatMap (fun c => toBigEndian 4 (p.counter c).toNat) } := by
  obtain ⟨bank, h⟩ := p.readCounters_eq cs clear; simp [h]

theorem Part.readCounters_counter (d : CounterId) :
    (p.readCounters cs clear).counter d = if clear = true ∧ d ∈ cs then 0 else p.counter d := by
  cases clear with
  | false => simp [Part.readCounters]
  | true => simpa [Part.readCounters] using p.foldl_setCounter_zero_counter cs d

end

/-! ### The range of ids (R160) -/

/-- A fold that puts each value found in front of the rest gives a list exactly when every value is found. -/
theorem foldr_eq_some_iff {α : Type} {f : Option α → Option (List α) → Option (List α)}
    (hf : ∀ o acc xs, f o acc = some xs ↔ ∃ y ys, o = some y ∧ acc = some ys ∧ xs = y :: ys)
    (l : List (Option α)) (xs : List α) : l.foldr f (some []) = some xs ↔ l = xs.map some := by
  induction l generalizing xs with
  | nil => cases xs <;> simp
  | cons o l ih =>
    rw [List.foldr_cons, hf]
    constructor
    · rintro ⟨y, ys, rfl, hys, rfl⟩
      rw [(ih ys).mp hys, List.map_cons]
    · intro h
      obtain ⟨y, ys, rfl, ho, hl⟩ := List.map_eq_cons_iff.mp h.symm
      exact ⟨y, ys, ho.symm, (ih ys).mpr hl.symm, rfl⟩

theorem countersOfRange_eq_some_iff {first count : Nat} {cs : List CounterId} :
    countersOfRange first count = some cs ↔ first % 256 + count ≤ 256 ∧
      (List.range count).map (fun k => counterOfId (first + k)) = cs.map some := by
  unfold countersOfRange
  split
  · simp; omega
  · rw [foldr_eq_some_iff (by intro o acc xs; cases o <;> cases acc <;> simp [eq_comm])]
    simp; omega

/-- The range gives no counters when it runs past FFh, or when one of its ids names none. -/
theorem countersOfRange_eq_none_iff {first count : Nat} : countersOfRange first count = none ↔
    256 < first % 256 + count ∨ ∃ k, k < count ∧ counterOfId (first + k) = none := by
  constructor
  · intro hnone
    by_contra! hall
    obtain ⟨hend, hnamed⟩ := hall
    have hlist : (List.range count).map (fun k => counterOfId (first + k)) ∈ Set.range (List.map some) := by
      rw [Set.range_list_map]
      simpa [Set.mem_range, ← Option.ne_none_iff_exists] using hnamed
    obtain ⟨cs, hcs⟩ := hlist
    simp [countersOfRange_eq_some_iff.mpr ⟨hend, hcs.symm⟩] at hnone
  · intro hbad
    rw [Option.eq_none_iff_forall_ne_some]
    intro cs hcs
    obtain ⟨hend, hlist⟩ := countersOfRange_eq_some_iff.mp hcs
    rcases hbad with hpast | ⟨k, hk, hnone⟩
    · omega
    · have hmem : none ∈ cs.map some := hlist ▸ List.mem_map.mpr ⟨k, List.mem_range.mpr hk, hnone⟩
      simp at hmem

/-! ### The operands (R160, R174) -/

@[simp] theorem Part.withOperand_none {α : Type} (p : Part) (f : α → Part) :
    p.withOperand none f = p.reply .badOperand := rfl
@[simp] theorem Part.withOperand_some {α : Type} (p : Part) (a : α) (f : α → Part) :
    p.withOperand (some a) f = f a := rfl

theorem settingOfByte_of_two_le {b : Byte} (h : 2 ≤ b.toNat) : settingOfByte b = none := by
  have hzero : b ≠ 0 := by rintro rfl; simp at h
  have hone : b ≠ 1 := by rintro rfl; simp at h
  rw [settingOfByte, if_neg hzero, if_neg hone]

theorem settingOfByte_of_lt_two {b : Byte} (h : b.toNat < 2) : settingOfByte b = some (decide (b = 1)) := by
  obtain rfl | rfl : b = 0 ∨ b = 1 := by bv_omega
  · rfl
  · rfl

/-- The operands that CTRD refuses: a number of counters outside 1 to 8, a clear flag outside its encoding, a range
that runs past FFh or has an id that names no counter. -/
def ctrdRefuses (first : BitVec 16) (number clear : Byte) : Prop :=
  number.toNat < 1 ∨ 8 < number.toNat ∨ 2 ≤ clear.toNat ∨ 256 < first.toNat % 256 + number.toNat ∨
    ∃ k, k < number.toNat ∧ counterOfId (first.toNat + k) = none

/-! ### CTRD -/

section

variable {p : Part} {first : BitVec 16} {number clear : Byte} (w : List Instr)

theorem exec_ctrd (hidle : p.port.burst = none) : exec (.ctrd first number clear) ⟨p, w⟩ =
    .next ⟨if number.toNat < 1 ∨ 8 < number.toNat then p.reply .badOperand
      else p.withOperand (settingOfByte clear) (fun c =>
        p.withOperand (countersOfRange first.toNat number.toNat) (fun cs => p.readCounters cs c)), w⟩ := by
  simp only [exec, execCtrd, State.manage, Part.managed, State.act_eq, hidle]

theorem exec_ctrd_of_refuses (hidle : p.port.burst = none) (h : ctrdRefuses first number clear) :
    exec (.ctrd first number clear) ⟨p, w⟩ = .next ⟨p.reply .badOperand, w⟩ := by
  rw [exec_ctrd w hidle]
  rcases h with hfew | hmany | hclear | hrange
  · rw [if_pos (.inl hfew)]
  · rw [if_pos (.inr hmany)]
  · rw [settingOfByte_of_two_le hclear, Part.withOperand_none, ite_self]
  · rw [countersOfRange_eq_none_iff.mpr hrange]
    cases settingOfByte clear <;> simp

theorem exec_ctrd_of_counters (hidle : p.port.burst = none) (hnumber : 1 ≤ number.toNat ∧ number.toNat ≤ 8)
    (hclear : clear.toNat < 2) {cs : List CounterId} (hcs : countersOfRange first.toNat number.toNat = some cs) :
    exec (.ctrd first number clear) ⟨p, w⟩ = .next ⟨p.readCounters cs (decide (clear = 1)), w⟩ := by
  rw [exec_ctrd w hidle, if_neg (by omega), settingOfByte_of_lt_two hclear, hcs, Part.withOperand_some,
    Part.withOperand_some]

end

/-- The operands that CTRD does not refuse give it its counters. -/
theorem exists_counters_of_not_ctrdRefuses {first : BitVec 16} {number clear : Byte}
    (h : ¬ctrdRefuses first number clear) : (1 ≤ number.toNat ∧ number.toNat ≤ 8) ∧ clear.toNat < 2 ∧
      ∃ cs, countersOfRange first.toNat number.toNat = some cs := by
  rw [ctrdRefuses, ← countersOfRange_eq_none_iff] at h
  push Not at h
  obtain ⟨hfew, hmany, hclear, hrange⟩ := h
  exact ⟨⟨hfew, hmany⟩, hclear, Option.ne_none_iff_exists'.mp hrange⟩

/-- Settles O50: the operands are refused, or name the counters that are read; only these are cleared, because no
other counter shares a slot with one of them. -/
theorem counterRead : Obligations.CounterRead := by
  unfold Obligations.CounterRead
  intro p w first number clear hidle
  by_cases hbad : ctrdRefuses first number clear
  case pos =>
    refine ⟨_, exec_ctrd_of_refuses w hidle hbad, rfl, rfl, rfl, fun _ => ⟨rfl, rfl, rfl⟩, ?_⟩
    intro cs hfew hmany hclear hend hlist
    have hsome := countersOfRange_eq_some_iff.mpr ⟨hend, hlist⟩
    rcases hbad with h | h | h | hrange
    · omega
    · omega
    · omega
    · simp [countersOfRange_eq_none_iff.mpr hrange] at hsome
  case neg =>
    obtain ⟨hnumber, hclear, cs, hcs⟩ := exists_counters_of_not_ctrdRefuses hbad
    refine ⟨_, exec_ctrd_of_counters w hidle hnumber hclear hcs, by simp, by simp, by simp,
      fun h => absurd h hbad, ?_⟩
    intro cs' _ _ _ hend hlist
    obtain rfl : cs = cs' := Option.some.inj (hcs.symm.trans (countersOfRange_eq_some_iff.mpr ⟨hend, hlist⟩))
    refine ⟨by rw [Part.readCounters_port]; rfl, by simp, fun c hc => ?_, fun c hc => ?_⟩
    · simp [Part.readCounters_counter, hc]
    · simp [Part.readCounters_counter, hc]

end Sys2Proof.Machine
end

section
/-! What the events of the part are made of. `Kept I` says that a property `I` of parts survives each of the few
moves below; every operation of the model is a composition of these moves, so it keeps `I` too, and so does every
command. Each invariant of the part is then a matter of its moves alone. -/

namespace Sys2Proof.Machine

/-! ### The moves -/

/-- The log after some events: the only thing that happens to it between EVPP, EVCL and POWER_ON (R146). -/
def EventLog.Grows : EventLog → EventLog → Prop :=
  Relation.ReflTransGen (fun a b => ∃ kind lane stream detail time, b = a.take kind lane stream detail time)

/-- What touches neither streams, pools, lane records, parameters nor routes: events, counters, completions, tags,
credit, the response, reports, time, suspect marks, the bytes of the data buffer. -/
structure Part.Aside (p q : Part) : Prop where
  params : q.params = p.params
  routes : q.intake.routes = p.intake.routes
  lanes : q.lanes = p.lanes
  sides : ∀ d, (q.side d).state = (p.side d).state
  streams : q.engine.streams = p.engine.streams
  entries : q.engine.freeEntries = p.engine.freeEntries
  slots : q.engine.freeSlots = p.engine.freeSlots
  blocks : q.engine.freeBlocks = p.engine.freeBlocks
  owners : q.engine.owners = p.engine.owners
  buffer : p.engine.buffer.wf = true → q.engine.buffer.wf = true
  log : p.log.Grows q.log

/-- An entry that stands where another stood: same place, sequence and blocks, and a fate copy as good. -/
structure OttEntry.Like (e e' : OttEntry) : Prop where
  index : e'.index = e.index
  seq : e'.seq = e.seq
  blocks : e'.blocks = e.blocks
  agrees : ∀ n, e.agrees n → e'.agrees n

/-- A held request that stands where another stood. -/
structure Held.Like (h h' : Held) : Prop where
  slot : h'.slot = h.slot
  stream : h'.stream = h.stream
  blocks : h'.work.blocks = h.work.blocks

/-- A record that holds what another held; the next sequence moves only with nothing in flight. -/
structure StreamRec.HoldsAs (r r' : StreamRec) : Prop where
  inflight : List.Forall₂ OttEntry.Like r.inflight r'.inflight
  hold : List.Forall₂ Held.Like r.hold r'.hold
  nextSeq : r'.nextSeq = r.nextSeq ∨ r.inflight = []

/-- A property under which the pools are sound, or the numbers of the lanes in range: the side conditions below that
matter only to such a property. -/
def Pooled (I : Part → Prop) : Prop := ∀ q, I q → q.poolsHold
def Ranged (I : Part → Prop) : Prop := ∀ q, I q → q.laneRanges ∧ q.params.stormRewinds ≤ 63

/-- A property that every move keeps. -/
structure Kept (I : Part → Prop) : Prop where
  aside : ∀ {p q : Part}, p.Aside q → I p → I q
  /-- Lane records that keep their state. -/
  lanes : ∀ {p : Part} (ls : Lanes), (∀ l, (ls.get l).state = (p.lane l).state ∧
    (Ranged I → (ls.get l).rangesHold)) → I p → I { p with lanes := ls }
  /-- A change of lane state, after an edit of the lane's record. -/
  change : ∀ {p : Part} (l : Lane) (edit enter : LaneRec → LaneRec) (new : LaneState) (log : Part → Part),
    (edit (p.lane l)).state = (p.lane l).state → (enter ((edit (p.lane l)).moved new)).state = new →
    (Ranged I → (enter ((edit (p.lane l)).moved new)).rangesHold) →
    (∀ q : Part, q.Aside (log q)) → I p → I ((p.modLane l edit).changeLane l new enter log)
  /-- A stream record that keeps its state, its carrier and what it holds. -/
  stream : ∀ {p : Part} (n : StreamId) (f : StreamRec → StreamRec), (f (p.stream n)).state = (p.stream n).state →
    (f (p.stream n)).carrier = (p.stream n).carrier →
    (Pooled I → (p.stream n).HoldsAs (f (p.stream n))) → I p → I (p.modStream n f)
  /-- A stream with a carrier that goes to another state with one. -/
  carried : ∀ {p : Part} (n : StreamId) (f : StreamRec → StreamRec), (f (p.stream n)).state.carried = true →
    ((p.stream n).carrier ≠ none ∨ (p.stream n).state.carried = true) →
    (f (p.stream n)).carrier = (p.stream n).carrier → (p.stream n).HoldsAs (f (p.stream n)) → I p → I (p.modStream n f)
  /-- A stream that holds nothing and goes to IDLE or FAULTED. -/
  ended : ∀ {p : Part} (n : StreamId) (f : StreamRec → StreamRec),
    (f (p.stream n)).state = .idle ∨ (f (p.stream n)).state = .faulted →
    (f (p.stream n)).carrier = none ∨ (f (p.stream n)).carrier = (p.stream n).carrier ∧
      (p.stream n).state.carried = false →
    (Pooled I → (p.stream n).inflight = [] ∧ (p.stream n).hold = [] ∧
      (f (p.stream n)).inflight = [] ∧ (f (p.stream n)).hold = []) → I p → I (p.modStream n f)
  /-- A binding, from whatever state and carrier. -/
  bind : ∀ {p : Part} (n : StreamId) (f : StreamRec → StreamRec) (k : BindingKind),
    (p.stream n).HoldsAs (f (p.stream n)) → I p → I ((p.modStream n f).bind n k)
  dispatchHead : ∀ {p : Part} (n : StreamId), p.headReady n = true → p.engine.freeEntries ≠ [] → I p →
    I (p.dispatchHead n)
  retire : ∀ {p : Part} (n : StreamId) (e : OttEntry), (Pooled I →
    ∃ x ∈ (p.stream n).inflight, x.index = e.index ∧ x.blocks = e.blocks) → I p → I (p.retire n e)
  unhold : ∀ {p : Part} (n : StreamId) (h : Held), (Pooled I → h ∈ (p.stream n).hold) → I p →
    I (p.unhold n h)
  emptyStream : ∀ {p : Part} (n : StreamId) (failed : Option EntryIx), I p → I (p.emptyStream n failed)
  /-- The threshold evaluation of every lane in one event, whose changes the streams follow after all of them. -/
  evaluateAll : ∀ {p : Part}, I p → I p.evaluateAll

/-! ### Reflexivity -/

theorem EventLog.Grows.refl (log : EventLog) : log.Grows log := Relation.ReflTransGen.refl
theorem EventLog.Grows.trans {a b c : EventLog} (h : a.Grows b) (k : b.Grows c) : a.Grows c :=
  Relation.ReflTransGen.trans h k
theorem EventLog.grows_take (log : EventLog) (kind : EventKind) (lane : Option Lane) (stream : Option StreamId)
    (detail : BitVec 16) (time : BitVec 32) : log.Grows (log.take kind lane stream detail time) :=
  .single ⟨_, _, _, _, _, rfl⟩

theorem OttEntry.Like.refl (e : OttEntry) : e.Like e := ⟨rfl, rfl, rfl, fun _ h => h⟩
theorem Held.Like.refl (h : Held) : h.Like h := ⟨rfl, rfl, rfl⟩

theorem forall₂_like_map {f : OttEntry → OttEntry} {es : List OttEntry} (hf : ∀ e ∈ es, e.Like (f e)) :
    List.Forall₂ OttEntry.Like es (es.map f) := by
  rw [List.forall₂_map_right_iff, List.forall₂_same]; exact hf

theorem forall₂_like_map_held {f : Held → Held} {hs : List Held} (hf : ∀ h ∈ hs, h.Like (f h)) :
    List.Forall₂ Held.Like hs (hs.map f) := by
  rw [List.forall₂_map_right_iff, List.forall₂_same]; exact hf

theorem forall₂_like_refl (es : List OttEntry) : List.Forall₂ OttEntry.Like es es :=
  List.forall₂_same.mpr fun e _ => .refl e

theorem forall₂_held_refl (hs : List Held) : List.Forall₂ Held.Like hs hs :=
  List.forall₂_same.mpr fun h _ => .refl h

/-- A record with the same two lists and the same next sequence holds what the other held. -/
theorem StreamRec.HoldsAs.of_eq {r r' : StreamRec} (hi : r'.inflight = r.inflight) (hh : r'.hold = r.hold)
    (hs : r'.nextSeq = r.nextSeq) : r.HoldsAs r' :=
  ⟨hi ▸ forall₂_like_refl _, hh ▸ forall₂_held_refl _, .inl hs⟩

/-- A record whose entries are edited in place holds what the other held. -/
theorem StreamRec.HoldsAs.of_map {r r' : StreamRec} {f : OttEntry → OttEntry} (hi : r'.inflight = r.inflight.map f)
    (hf : ∀ e ∈ r.inflight, e.Like (f e)) (hh : r'.hold = r.hold) (hs : r'.nextSeq = r.nextSeq) : r.HoldsAs r' :=
  ⟨hi ▸ forall₂_like_map hf, hh ▸ forall₂_held_refl _, .inl hs⟩

/-! ### The moves that stand aside -/

theorem Part.Aside.refl (p : Part) : p.Aside p := ⟨rfl, rfl, rfl, fun _ => rfl, rfl, rfl, rfl, rfl, rfl, id, .refl _⟩

theorem Part.Aside.trans {p q r : Part} (h : p.Aside q) (k : q.Aside r) : p.Aside r where
  params := k.params.trans h.params
  routes := k.routes.trans h.routes
  lanes := k.lanes.trans h.lanes
  sides d := (k.sides d).trans (h.sides d)
  streams := k.streams.trans h.streams
  entries := k.entries.trans h.entries
  slots := k.slots.trans h.slots
  blocks := k.blocks.trans h.blocks
  owners := k.owners.trans h.owners
  buffer := k.buffer ∘ h.buffer
  log := h.log.trans k.log

/-- What leaves engine, lanes, sides, parameters, routes and log as they are stands aside. -/
theorem Part.Aside.of_eq {p q : Part} (hp : q.params = p.params) (hr : q.intake.routes = p.intake.routes)
    (hl : q.lanes = p.lanes) (hs : q.sides = p.sides) (he : q.engine = p.engine) (hg : q.log = p.log) : p.Aside q where
  params := hp
  routes := hr
  lanes := hl
  sides d := by cases d <;> simp [Part.side, hs]
  streams := by rw [he]
  entries := by rw [he]
  slots := by rw [he]
  blocks := by rw [he]
  owners := by rw [he]
  buffer := by rw [he]; exact id
  log := hg ▸ .refl _

theorem Part.aside_event (p : Part) (k : EventKind) (l : Option Lane) (n : Option StreamId) (d : BitVec 16) :
    p.Aside (p.event k l n d) :=
  ⟨rfl, rfl, rfl, fun e => by simp, rfl, rfl, rfl, rfl, rfl, id, p.log.grows_take k l n d p.timeCounter⟩

theorem Part.aside_raise (p : Part) (c : CounterId) : p.Aside (p.raise c) := by
  have hset : p.Aside (p.setCounter c (p.counter c + 1)) := .of_eq rfl rfl rfl rfl rfl rfl
  rcases p.raise_cases c with h | ⟨-, h⟩
  · exact h ▸ hset
  · exact h ▸ hset.trans (Part.aside_event _ _ _ _ _)

theorem Part.aside_modIntake (p : Part) (f : Intake → Intake) (hf : (f p.intake).routes = p.intake.routes) :
    p.Aside (p.modIntake f) := .of_eq rfl hf rfl rfl rfl rfl

theorem Part.aside_answerHost (p : Part) (t : HostTag) (st : CompletionStatus) (d : List Byte) :
    p.Aside (p.answerHost t st d) := by
  have hhand : p.Aside { p with completions := p.completions ++ [Completion.mk t st d] } :=
    .of_eq rfl rfl rfl rfl rfl rfl
  exact hhand.trans (Part.aside_raise _ _)

theorem Part.aside_complete (p : Part) (n : StreamId) (t : Option HostTag) (st : CompletionStatus) (d : List Byte) :
    p.Aside (p.complete n t st d) := by
  cases t with
  | none => exact p.aside_raise _
  | some t =>
    have htag : p.Aside (p.setTag t false) := .of_eq rfl rfl rfl rfl rfl rfl
    exact (htag.trans (Part.aside_answerHost _ t st d)).trans (Part.aside_raise _ _)

theorem Part.aside_respond (p : Part) (st : Byte) (d : List Byte) : p.Aside (p.respond st d) :=
  .of_eq rfl rfl rfl rfl rfl rfl

theorem Part.aside_reply (p : Part) (st : Status) : p.Aside (p.reply st) := p.aside_respond _ _

theorem Part.aside_report (p : Part) (r : Report) : p.Aside (p.report r) := .of_eq rfl rfl rfl rfl rfl rfl

theorem Part.aside_takeReport (p : Part) (r : Report) : p.Aside (p.takeReport r) := .of_eq rfl rfl rfl rfl rfl rfl

theorem Part.aside_modPatrol (p : Part) (f : Patrol → Patrol) : p.Aside (p.modPatrol f) :=
  .of_eq rfl rfl rfl rfl rfl rfl

theorem Part.aside_modSide (p : Part) (d : Side) (f : SideRec → SideRec) (hf : ∀ r, (f r).state = r.state) :
    p.Aside (p.modSide d f) where
  params := by simp
  routes := by simp
  lanes := by simp
  sides e := by
    by_cases h : e = d
    · subst h; simp [hf]
    · rw [p.modSide_side_of_ne h]
  streams := by simp
  entries := by simp
  slots := by simp
  blocks := by simp
  owners := by simp
  buffer := by simp
  log := by simp [EventLog.Grows.refl]

theorem aside_laneEvent (k : EventKind) (l : Lane) (d : BitVec 16) (p : Part) : p.Aside (laneEvent k l d p) :=
  p.aside_event _ _ _ _

theorem Part.aside_foldl {α : Type} (f : Part → α → Part) (hf : ∀ (q : Part) (x : α), q.Aside (f q x)) (xs : List α) :
    ∀ p : Part, p.Aside (xs.foldl f p) := by
  induction xs with
  | nil => exact Part.Aside.refl
  | cons x xs ih => exact fun p => (hf p x).trans (ih (f p x))

theorem Part.aside_flushTally (p : Part) : p.Aside p.flushTally := by
  unfold Part.flushTally; split
  · exact .refl p
  · exact (p.aside_modIntake _ rfl).trans (Part.aside_event _ _ _ _ _)

theorem Part.aside_drop (p : Part) (key : Option StreamId) : p.Aside (p.drop key) := by
  unfold Part.drop; split
  · exact p.aside_modIntake _ rfl
  · split
    · exact p.aside_modIntake _ rfl
    · exact p.aside_flushTally.trans (Part.aside_modIntake _ _ rfl)

@[simp] theorem Intake.offer_routes (i : Intake) : i.offer.routes = i.routes := by unfold Intake.offer; split <;> rfl
@[simp] theorem Intake.credit_routes (i : Intake) : i.credit.routes = i.routes := by unfold Intake.credit; split <;> rfl

theorem Part.aside_setService (p : Part) (s : ServiceState) : p.Aside (p.setService s) := by
  unfold Part.setService; split
  · exact .refl p
  · exact p.aside_flushTally.trans (Part.aside_modIntake _ _ (by simp))

theorem Part.aside_judgeQuiesce (p : Part) : p.Aside p.judgeQuiesce := by
  unfold Part.judgeQuiesce; split
  · exact (p.aside_setService _).trans (Part.aside_event _ _ _ _ _)
  · exact .refl p

theorem Part.aside_leaveQueue (p : Part) : p.Aside p.leaveQueue := p.aside_modIntake _ (by simp)

theorem Part.aside_flushIfEmpty (p : Part) : p.Aside p.flushIfEmpty := by
  unfold Part.flushIfEmpty; split
  · exact p.aside_flushTally
  · exact .refl p

theorem Part.aside_flushForQuiesce (p : Part) : p.Aside p.flushForQuiesce := by
  unfold Part.flushForQuiesce; split
  · exact p.aside_flushTally
  · exact .refl p

theorem Part.aside_wait (p : Part) : p.Aside p.wait := by
  unfold Part.wait; split
  · exact .refl p
  · exact (p.aside_modIntake _ rfl).trans (Part.aside_raise _ _)

theorem Part.aside_refuse (p : Part) (q : HostRecord) (st : CompletionStatus) {log drop : Part → Part}
    (hlog : ∀ x : Part, x.Aside (log x)) (hdrop : ∀ x : Part, x.Aside (drop x)) : p.Aside (p.refuse q st log drop) := by
  have hmain : ∀ x : Part, p.Aside x → p.Aside (log (x.flushForQuiesce.raise (.part .requestsRefused))) := fun x hx =>
    ((hx.trans x.aside_flushForQuiesce).trans (Part.aside_raise _ _)).trans (hlog _)
  unfold Part.refuse
  dsimp only
  refine Part.Aside.trans ?_ (Part.aside_flushIfEmpty _)
  cases expectsAnswer q with
  | true => exact (hmain _ p.aside_leaveQueue).trans (Part.aside_answerHost _ _ _ _)
  | false => exact hmain _ (p.aside_leaveQueue.trans (hdrop _))

theorem Part.aside_refuseUncredited (p : Part) (q : HostRecord) : p.Aside (p.refuseUncredited q) := by
  have hmain := (p.aside_raise (.part .requestsRefused)).trans
    (Part.aside_event _ .malformed none none (bytePair 6 q.tag.toNat))
  unfold Part.refuseUncredited
  dsimp only
  split
  · exact hmain.trans (Part.aside_answerHost _ _ _ _)
  · exact hmain

theorem Part.aside_logCount (p : Part) (k : EventKind) (n : StreamId) (c : Nat) : p.Aside (p.logCount k n c) := by
  unfold Part.logCount; split
  · exact .refl p
  · exact p.aside_event _ _ _ _

theorem Part.aside_giveUp (p : Part) (n : StreamId) (x : Ending) : p.Aside (p.giveUp n x) := by
  unfold Part.giveUp; split
  · exact p.aside_complete _ _ _ _
  · split
    · exact (p.aside_complete _ _ _ _).trans (Part.aside_event _ _ _ _ _)
    · exact p.aside_complete _ _ _ _
  · exact .refl p

theorem Part.aside_giveUpHeld (p : Part) (n : StreamId) (st : CompletionStatus) (h : Held) :
    p.Aside (p.giveUpHeld n st h) := by
  unfold Part.giveUpHeld; split
  · exact .refl p
  · exact p.aside_complete _ _ _ _

theorem Part.aside_restartEntry (p : Part) (n : StreamId) (e : OttEntry) : p.Aside (p.restartEntry n e) := by
  unfold Part.restartEntry; split
  · exact .refl p
  · exact p.aside_complete _ _ _ _

theorem Part.aside_migrated (p : Part) (n : StreamId) (left : Lane) : p.Aside (p.migrated n left) := by
  unfold Part.migrated; split
  · split
    · exact .refl p
    · exact p.aside_event _ _ _ _
  · exact .refl p

theorem Part.aside_writeBlock (p : Part) (b : BlockIx) (bytes : List Byte) : p.Aside (p.writeBlock b bytes) :=
  ⟨rfl, rfl, rfl, fun d => by simp [Part.writeBlock], rfl, rfl, rfl, rfl, rfl, fun h => Memory.setBlock_wf h b bytes, .refl _⟩

theorem Part.aside_served (p : Part) (n : StreamId) : p.Aside (p.modEngine (fun g => { g with lastServed := n })) :=
  ⟨rfl, rfl, rfl, fun d => by simp, rfl, rfl, rfl, rfl, rfl, id, .refl _⟩

theorem Part.aside_completeEntry (p : Part) (n : StreamId) (l : Lane) (e : OttEntry) (st : AnswerStatus)
    (payload : List Byte) : p.Aside (p.completeEntry n l e st payload) := by
  have hswap : p.Aside (p.completeSwap n l e payload st) := by
    cases st with
    | ok | dup | error => exact p.aside_complete _ _ _ _
    | dupUnknown => exact (p.aside_complete _ _ _ _).trans (Part.aside_event _ _ _ _ _)
  unfold Part.completeEntry; split
  · split <;> exact p.aside_complete _ _ _ _
  · split
    · exact p.aside_event _ _ _ _
    · exact .refl p
  · split
    · exact p.aside_complete _ _ _ _
    · exact hswap

theorem Part.aside_sampleOf (p : Part) (l : Lane) (e : OttEntry) : p.Aside (p.sampleOf l e) := by
  unfold Part.sampleOf; split
  · split
    · exact p.aside_report _
    · exact .refl p
  · exact .refl p

theorem Part.aside_countDuplicate (p : Part) (n : StreamId) (h : Header) : p.Aside (p.countDuplicate n h) := by
  unfold Part.countDuplicate; split
  · exact p.aside_raise _
  · exact .refl p

theorem Part.aside_startPass (p : Part) (c : PassCause) : p.Aside (p.startPass c) := p.aside_modPatrol _

theorem Part.aside_noteRead (p : Part) (read : PatrolRead) : p.Aside (p.noteRead read) := by
  unfold Part.noteRead; split
  · exact p.aside_modPatrol _
  · exact .refl p

theorem Part.aside_endPass (p : Part) : p.Aside p.endPass := by
  unfold Part.endPass; split
  · exact .refl p
  · have hpass : p.Aside (p.readRest.startPass .routine) := (p.aside_modPatrol _).trans (Part.aside_modPatrol _ _)
    unfold Part.closePass
    dsimp only
    split
    · exact hpass.trans (Part.aside_setService _ _)
    · exact hpass

theorem Part.aside_flushForRestriction (p : Part) : p.Aside p.flushForRestriction := by
  unfold Part.flushForRestriction; split
  · exact p.aside_flushTally
  · exact .refl p

theorem Part.aside_enterRestricted (p : Part) (n : StreamId) (src : FailureSource) :
    p.Aside (p.enterRestricted n src) := by
  unfold Part.enterRestricted; split
  · exact (p.aside_setService _).trans (Part.aside_event _ _ _ _ _)
  · exact .refl p

theorem Part.aside_restartIntake (p : Part) : p.Aside p.restartIntake := by
  have hanswers : ∀ (x : Part) (q : HostRecord),
      x.Aside (if expectsAnswer q then x.answerHost q.tag .restarted [] else x) := fun x q => by
    split
    · exact x.aside_answerHost _ _ _
    · exact .refl x
  have hqueue := (p.aside_flushTally.trans (Part.aside_modIntake _ (fun i => { i with queue := [], headWaited := false })
    rfl)).trans (Part.aside_foldl _ hanswers p.intake.queue _)
  unfold Part.restartIntake
  dsimp only
  split
  · exact hqueue
  · exact hqueue.trans (Part.aside_event _ _ _ _ _)

theorem Part.aside_readCounters (p : Part) (cs : List CounterId) (clear : Bool) : p.Aside (p.readCounters cs clear) := by
  obtain ⟨bank, h⟩ := p.readCounters_eq cs clear
  exact h ▸ .of_eq rfl rfl rfl rfl rfl rfl

end Sys2Proof.Machine
end

section
/-! What the operations of the stream engine do to the stream records, the lanes and the pools: an equation for each,
so that no later proof unfolds them. -/

namespace Sys2Proof.Machine

/-! ### Records and frames -/

/-- A stream record replaced by itself leaves the part as it is. -/
theorem Part.modStream_self (p : Part) (n : StreamId) (f : StreamRec → StreamRec) (h : f (p.stream n) = p.stream n) :
    p.modStream n f = p := by
  unfold Part.stream at h
  unfold Part.modStream
  rw [h]
  have hset : p.engine.streams.set n.val (p.engine.streams.get n) n.isLt = p.engine.streams := by
    ext i hi
    simp only [Vector.getElem_set, Vector.get_eq_getElem]
    split
    · subst_vars; rfl
    · rfl
  rw [hset]

theorem Part.modStream_stream (p : Part) (n m : StreamId) (f : StreamRec → StreamRec) :
    (p.modStream n f).stream m = if m = n then f (p.stream m) else p.stream m := by
  by_cases h : m = n
  · subst h; simp
  · simp [h, p.modStream_stream_of_ne h]

@[simp] theorem Part.modStream_entries (p : Part) (n : StreamId) (f : StreamRec → StreamRec) :
    (p.modStream n f).engine.freeEntries = p.engine.freeEntries := rfl
@[simp] theorem Part.modStream_slots (p : Part) (n : StreamId) (f : StreamRec → StreamRec) :
    (p.modStream n f).engine.freeSlots = p.engine.freeSlots := rfl
@[simp] theorem Part.modStream_blocks (p : Part) (n : StreamId) (f : StreamRec → StreamRec) :
    (p.modStream n f).engine.freeBlocks = p.engine.freeBlocks := rfl
@[simp] theorem Part.modStream_owners (p : Part) (n : StreamId) (f : StreamRec → StreamRec) :
    (p.modStream n f).engine.owners = p.engine.owners := rfl
@[simp] theorem Part.modStream_buffer (p : Part) (n : StreamId) (f : StreamRec → StreamRec) :
    (p.modStream n f).engine.buffer = p.engine.buffer := rfl
@[simp] theorem Part.modStream_lastServed (p : Part) (n : StreamId) (f : StreamRec → StreamRec) :
    (p.modStream n f).engine.lastServed = p.engine.lastServed := rfl

/-- Engine edits that leave the stream records alone. -/
theorem Part.modEngine_stream (p : Part) (f : Engine → Engine) (hf : (f p.engine).streams = p.engine.streams)
    (m : StreamId) : (p.modEngine f).stream m = p.stream m := by
  simp [Part.stream, hf]

@[simp] theorem Part.own_stream (p : Part) (bs : List BlockIx) (o : Option Owner) (m : StreamId) :
    (p.own bs o).stream m = p.stream m := rfl
@[simp] theorem Part.freeBlocks_stream (p : Part) (bs : List BlockIx) (m : StreamId) :
    (p.freeBlocks bs).stream m = p.stream m := rfl
@[simp] theorem Part.freeEntry_stream (p : Part) (i : EntryIx) (m : StreamId) :
    (p.freeEntry i).stream m = p.stream m := rfl
@[simp] theorem Part.freeSlot_stream (p : Part) (i : SlotIx) (m : StreamId) :
    (p.freeSlot i).stream m = p.stream m := rfl
@[simp] theorem Part.place_stream (p : Part) (l : Lane) (f : Frame) (m : StreamId) :
    (p.place l f).stream m = p.stream m := rfl
@[simp] theorem Part.place_engine (p : Part) (l : Lane) (f : Frame) : (p.place l f).engine = p.engine := rfl
@[simp] theorem Part.place_log (p : Part) (l : Lane) (f : Frame) : (p.place l f).log = p.log := rfl
@[simp] theorem Part.place_params (p : Part) (l : Lane) (f : Frame) : (p.place l f).params = p.params := rfl
@[simp] theorem Part.place_lane_self (p : Part) (l : Lane) (f : Frame) :
    (p.place l f).lane l = { p.lane l with queue := (p.lane l).queue ++ [f] } := by simp [Part.place]
theorem Part.place_lane_of_ne (p : Part) {l m : Lane} (h : m ≠ l) (f : Frame) : (p.place l f).lane m = p.lane m :=
  p.modLane_lane_of_ne h _
@[simp] theorem Part.unqueue_stream (p : Part) (t : Frame → Bool) (m : StreamId) :
    (p.unqueue t).stream m = p.stream m := rfl
@[simp] theorem Part.unqueue_engine (p : Part) (t : Frame → Bool) : (p.unqueue t).engine = p.engine := rfl
@[simp] theorem Part.unqueue_log (p : Part) (t : Frame → Bool) : (p.unqueue t).log = p.log := rfl
@[simp] theorem Part.unqueue_lane (p : Part) (t : Frame → Bool) (l : Lane) :
    (p.unqueue t).lane l = { p.lane l with queue := (p.lane l).queue.filter (fun f => !t f) } := by
  simp [Part.unqueue]
@[simp] theorem Part.dropFrames_stream (p : Part) (n m : StreamId) : (p.dropFrames n).stream m = p.stream m := rfl
@[simp] theorem Part.dropFrames_engine (p : Part) (n : StreamId) : (p.dropFrames n).engine = p.engine := rfl
@[simp] theorem Part.dropFrames_log (p : Part) (n : StreamId) : (p.dropFrames n).log = p.log := rfl
@[simp] theorem Part.dropFrames_params (p : Part) (n : StreamId) : (p.dropFrames n).params = p.params := rfl
@[simp] theorem Part.dropFrames_now (p : Part) (n : StreamId) : (p.dropFrames n).now = p.now := rfl
@[simp] theorem Part.dropFrames_lane (p : Part) (n : StreamId) (l : Lane) :
    (p.dropFrames n).lane l = { p.lane l with queue := (p.lane l).queue.filter (fun f => !f.isOf n) } := by
  simp [Part.dropFrames]

theorem Part.Aside.stream {p q : Part} (h : p.Aside q) (m : StreamId) : q.stream m = p.stream m := by
  simp [Part.stream, h.streams]
theorem Part.Aside.lane {p q : Part} (h : p.Aside q) (l : Lane) : q.lane l = p.lane l := by
  simp [Part.lane, h.lanes]

theorem Part.migrated_stream (p : Part) (n m : StreamId) (left : Lane) : (p.migrated n left).stream m = p.stream m :=
  (p.aside_migrated n left).stream m
theorem Part.migrated_lanes (p : Part) (n : StreamId) (left : Lane) : (p.migrated n left).lanes = p.lanes :=
  (p.aside_migrated n left).lanes

/-! ### The choice depends on lanes and sides, not on queues -/

theorem Part.StreamsOnly.state {p q : Part} (h : p.StreamsOnly q) (l : Lane) : (q.lane l).state = (p.lane l).state := by
  rw [h.lane l]
theorem Part.StreamsOnly.leaving {p q : Part} (h : p.StreamsOnly q) (l : Lane) :
    (q.lane l).leaving = (p.lane l).leaving := by rw [h.lane l]; rfl
theorem Part.StreamsOnly.side {p q : Part} (h : p.StreamsOnly q) (d : Side) : q.side d = p.side d := by
  cases d <;> simp [Part.side, h.sides]

theorem Part.StreamsOnly.eligible {p q : Part} (h : p.StreamsOnly q) (tried : LaneSet) (x : Option Lane) (l : Lane) :
    q.eligible tried x l = p.eligible tried x l := by
  unfold Part.eligible; rw [h.lane l]

theorem Part.StreamsOnly.choose {p q : Part} (h : p.StreamsOnly q) (pref : Lane) (tried : LaneSet) (k : BindingKind) :
    q.choose pref tried k = p.choose pref tried k := by
  have hok : q.eligible tried k.excluded = p.eligible tried k.excluded := funext fun l => h.eligible _ _ l
  unfold Part.choose Part.ranked
  simp only [hok, h.state, h.side]

/-! ### Entering BINDING (R114) -/

/-- The record of a stream in BINDING whose choice has found a lane (R114, step 5). -/
def StreamRec.landed (r : StreamRec) (l : Lane) : StreamRec :=
  { r with carrier := some l, askAttempts := 1,
           move := if r.carrier = some l then r.move else r.move.map Move.over }

/-- The record of a stream whose choice has found none, with the deadline it takes unless it has one (R125). -/
def StreamRec.stalledBy (r : StreamRec) (deadline : Micros) : StreamRec :=
  { r with state := .stalled, carrier := none, askTimer := none, askAttempts := 0, move := none,
           stallDeadline := some (r.stallDeadline.getD deadline) }

/-- The record of a stream after an entry to BINDING, by the choice (R114, R125). -/
def StreamRec.rebound (r : StreamRec) (now : Micros) (k : BindingKind) (deadline : Micros) :
    Option Lane → StreamRec
  | some l => (r.opened now k).landed l
  | none => (r.opened now k).stalledBy deadline

/-- When a stall that begins now ends (R125). -/
def Part.stallEnd (p : Part) : Micros := p.now + p.params.stallLimit * 100000

theorem Part.openBinding_stream (p : Part) (n m : StreamId) (k : BindingKind) :
    (p.openBinding n k).stream m = if m = n then (p.stream m).opened p.now k else p.stream m := by
  simp [Part.openBinding, Part.modStream_stream]

theorem Part.chooseFor_openBinding (p : Part) (n : StreamId) (k j : BindingKind) :
    (p.openBinding n k).chooseFor n j = p.chooseFor n j := by
  unfold Part.chooseFor
  rw [(p.streamsOnly_openBinding n k).choose, p.openBinding_stream, if_pos rfl]
  rfl

theorem Part.landOn_stream (p : Part) (n m : StreamId) (l : Lane) :
    (p.landOn n l).stream m = if m = n then (p.stream m).landed l else p.stream m := by
  simp [Part.landOn, Part.modStream_stream, StreamRec.landed]

theorem Part.abandonAtStall_stream (p : Part) (n m : StreamId) :
    (p.abandonAtStall n).stream m = if m = n then { p.stream m with move := none } else p.stream m := by
  unfold Part.abandonAtStall
  split
  · next h =>
    by_cases hm : m = n
    · subst hm; simp [← h]
    · simp [hm]
  · simp [Part.modStream_stream]

theorem Part.startStall_stream (p : Part) (n m : StreamId) :
    (p.startStall n).stream m =
      if m = n then { p.stream m with stallDeadline := some ((p.stream m).stallDeadline.getD p.stallEnd) }
      else p.stream m := by
  unfold Part.startStall
  by_cases hm : m = n
  · subst hm
    split
    · next t h => rw [if_pos rfl, h, Option.getD_some, ← h]
    · next h => simp [h, Part.stallEnd]
  · split <;> simp [hm, Part.modStream_stream]

theorem Part.stall_stream (p : Part) (n m : StreamId) :
    (p.stall n).stream m = if m = n then (p.stream m).stalledBy p.stallEnd else p.stream m := by
  have hend : ((p.abandonAtStall n).modStream n StreamRec.stalled).stallEnd = p.stallEnd := by
    simp [Part.stallEnd, (p.streamsOnly_abandonAtStall n).now, (p.streamsOnly_abandonAtStall n).params]
  unfold Part.stall
  rw [Part.startStall_stream, hend, Part.modStream_stream, Part.abandonAtStall_stream]
  split <;> rfl

/-- What an entry to BINDING leaves of each stream record (R114, R125). -/
theorem Part.bind_stream (p : Part) (n m : StreamId) (k : BindingKind) :
    (p.bind n k).stream m =
      if m = n then (p.stream m).rebound p.now k p.stallEnd (p.chooseFor n k) else p.stream m := by
  have hend : (p.openBinding n k).stallEnd = p.stallEnd := by
    simp [Part.stallEnd, (p.streamsOnly_openBinding n k).now, (p.streamsOnly_openBinding n k).params]
  unfold Part.bind Part.settleChoice
  rw [p.chooseFor_openBinding]
  cases p.chooseFor n k with
  | some l => simp only [Part.landOn_stream, Part.openBinding_stream]; split <;> rfl
  | none => simp only [Part.stall_stream, Part.openBinding_stream, hend]; split <;> rfl

@[simp] theorem Part.bind_stream_self (p : Part) (n : StreamId) (k : BindingKind) :
    (p.bind n k).stream n = (p.stream n).rebound p.now k p.stallEnd (p.chooseFor n k) := by simp [p.bind_stream]

theorem Part.bind_stream_of_ne (p : Part) {n m : StreamId} (h : m ≠ n) (k : BindingKind) :
    (p.bind n k).stream m = p.stream m := by simp [p.bind_stream, h]

section

variable (r : StreamRec) (now : Micros) (k : BindingKind) (deadline : Micros) (c : Option Lane)

@[simp] theorem StreamRec.rebound_carrier : (r.rebound now k deadline c).carrier = c := by cases c <;> rfl
@[simp] theorem StreamRec.rebound_state :
    (r.rebound now k deadline c).state = if c = none then .stalled else .binding := by cases c <;> rfl
@[simp] theorem StreamRec.rebound_epoch : (r.rebound now k deadline c).epoch = r.epoch + 1 := by cases c <;> rfl
@[simp] theorem StreamRec.rebound_nextSeq : (r.rebound now k deadline c).nextSeq = r.nextSeq := by cases c <;> rfl
@[simp] theorem StreamRec.rebound_hold : (r.rebound now k deadline c).hold = r.hold := by cases c <;> rfl
@[simp] theorem StreamRec.rebound_inflight :
    (r.rebound now k deadline c).inflight = r.inflight.map OttEntry.requeued := by cases c <;> rfl
@[simp] theorem StreamRec.rebound_mark : (r.rebound now k deadline c).mark = r.mark := by cases c <;> rfl
@[simp] theorem StreamRec.rebound_tried : (r.rebound now k deadline c).tried = r.tried := by cases c <;> rfl
@[simp] theorem StreamRec.rebound_rejections : (r.rebound now k deadline c).rejections = r.rejections := by
  cases c <;> rfl
@[simp] theorem StreamRec.rebound_askTimer : (r.rebound now k deadline c).askTimer = none := by cases c <;> rfl
@[simp] theorem StreamRec.rebound_returnTimer : (r.rebound now k deadline c).returnTimer = none := by cases c <;> rfl
@[simp] theorem StreamRec.rebound_preferred : (r.rebound now k deadline c).preferred = r.preferred := by cases c <;> rfl
@[simp] theorem StreamRec.rebound_node : (r.rebound now k deadline c).node = r.node := by cases c <;> rfl
@[simp] theorem StreamRec.rebound_binding : (r.rebound now k deadline c).binding = k := by cases c <;> rfl
@[simp] theorem StreamRec.rebound_askAttempts :
    (r.rebound now k deadline c).askAttempts = if c = none then 0 else 1 := by cases c <;> rfl

end

/-- Two parts whose engines differ in the stream records alone. -/
def Part.SamePools (p q : Part) : Prop := q.engine = { p.engine with streams := q.engine.streams }

theorem Part.SamePools.refl (p : Part) : p.SamePools p := rfl

theorem Part.SamePools.trans {p q r : Part} (h : p.SamePools q) (k : q.SamePools r) : p.SamePools r :=
  calc r.engine = { q.engine with streams := r.engine.streams } := k
    _ = { p.engine with streams := r.engine.streams } := by rw [h]

theorem Part.SamePools.of_eq {p q : Part} (h : q.engine = p.engine) : p.SamePools q := by
  unfold Part.SamePools; rw [h]

theorem Part.samePools_modStream (p : Part) (n : StreamId) (f : StreamRec → StreamRec) :
    p.SamePools (p.modStream n f) := rfl

/-- An entry to BINDING leaves the engine's pools as they are. -/
theorem Part.samePools_bind (p : Part) (n : StreamId) (k : BindingKind) : p.SamePools (p.bind n k) := by
  have hopen : p.SamePools (p.openBinding n k) :=
    (p.samePools_modStream n (fun r => r.opened p.now k)).trans (.of_eq (by simp [Part.openBinding]))
  unfold Part.bind Part.settleChoice
  split
  · exact hopen.trans rfl
  · have habandon : (p.openBinding n k).SamePools ((p.openBinding n k).abandonAtStall n) := by
      unfold Part.abandonAtStall; split <;> rfl
    have hstart : ∀ q : Part, q.SamePools (q.startStall n) := by
      intro q; unfold Part.startStall; split <;> rfl
    exact ((hopen.trans habandon).trans (Part.samePools_modStream _ _ _)).trans (hstart _)

/-! ### Retirement -/

theorem Part.retire_stream (p : Part) (n m : StreamId) (e : OttEntry) :
    (p.retire n e).stream m =
      if m = n then { p.stream m with inflight := (p.stream m).inflight.filter (fun x => x.index != e.index) }
      else p.stream m := by
  simp [Part.retire, Part.modStream_stream]

theorem Part.retireWrite_stream (p : Part) (n m : StreamId) (own : Option Seq) (e : OttEntry) :
    (p.retireWrite n own e).stream m =
      if m = n then { p.stream m with inflight := (p.stream m).inflight.filter (fun x => x.index != e.index) }
      else p.stream m := by
  unfold Part.retireWrite
  dsimp only
  split <;> simp [Part.retire_stream]

theorem Part.foldl_retireWrite_stream (n m : StreamId) (own : Option Seq) (es : List OttEntry) :
    ∀ p : Part, (es.foldl (fun q e => q.retireWrite n own e) p).stream m =
      if m = n then { p.stream m with inflight := (p.stream m).inflight.filter (fun x => !(es.map OttEntry.index).contains x.index) }
      else p.stream m := by
  induction es with
  | nil => intro p; split <;> simp
  | cons e es ih =>
    intro p
    rw [List.foldl_cons, ih, Part.retireWrite_stream]
    split
    · simp only [List.filter_filter]
      congr 1
      refine List.filter_congr fun x _ => ?_
      simp only [List.map_cons, List.contains_cons, Bool.not_or]
      rw [Bool.and_comm]; rfl
    · rfl

/-- The WRITEs at or before a mark leave the in-flight list, and nothing else does, where no index stands on it twice
(R31, R120). -/
theorem Part.retireWrites_stream (p : Part) (n m : StreamId) (mark : Seq) (own : Option Seq)
    (hnodup : ((p.stream n).inflight.map OttEntry.index).Nodup) :
    (p.retireWrites n mark own).stream m =
      if m = n then { p.stream m with
        inflight := (p.stream m).inflight.filter (fun x => !(x.kind == .write && serialAtOrBefore x.seq mark)) }
      else p.stream m := by
  have hsame : ∀ x ∈ (p.stream n).inflight,
      (((p.stream n).inflight.filter (fun e => e.kind == .write && serialAtOrBefore e.seq mark)).map
        OttEntry.index).contains x.index = (x.kind == .write && serialAtOrBefore x.seq mark) := by
    intro x hx
    rw [Bool.eq_iff_iff, List.contains_iff_mem, List.mem_map]
    constructor
    · rintro ⟨y, hy, hxy⟩
      obtain ⟨hmem, htest⟩ := List.mem_filter.mp hy
      rwa [List.inj_on_of_nodup_map hnodup hmem hx hxy] at htest
    · exact fun htest => ⟨x, List.mem_filter.mpr ⟨hx, htest⟩, rfl⟩
  unfold Part.retireWrites
  rw [Part.foldl_retireWrite_stream]
  split
  · next hm =>
    subst hm
    rw [List.filter_congr fun x hx => congrArg not (hsame x hx)]
  · rfl

/-! ### Disposal -/

theorem Part.emptyStream_stream (p : Part) (n m : StreamId) (failed : Option EntryIx) :
    (p.emptyStream n failed).stream m =
      if m = n then { p.stream m with inflight := [], hold := [] } else p.stream m := by
  have h : (p.emptyStream n failed).stream m = (p.modStream n (fun r => { r with inflight := [], hold := [] })).stream m := rfl
  rw [h, Part.modStream_stream]

/-- The part just before a disposal empties its stream: completions and events alone have happened (R128). -/
theorem Part.dispose_eq_emptyStream (p : Part) (n : StreamId) (failed : Option EntryIx) :
    ∃ q, p.Aside q ∧ p.dispose n failed = q.emptyStream n failed :=
  ⟨_, (((Part.aside_foldl _ (fun q x => q.aside_giveUp n x) _ p).trans
    (Part.aside_foldl _ (fun q h => q.aside_giveUpHeld n _ h) _ _)).trans (Part.aside_logCount _ _ _ _)).trans
    (Part.aside_logCount _ _ _ _), rfl⟩

theorem Part.dispose_stream (p : Part) (n m : StreamId) (failed : Option EntryIx) :
    (p.dispose n failed).stream m =
      if m = n then { p.stream m with inflight := [], hold := [] } else p.stream m := by
  obtain ⟨q, haside, hq⟩ := p.dispose_eq_emptyStream n failed
  rw [hq, Part.emptyStream_stream, haside.stream]

/-- The same of a warm restart of a stream (R40). -/
theorem Part.restartStream_eq_emptyStream (p : Part) (n : StreamId) :
    ∃ q, p.Aside q ∧ p.restartStream n = (q.emptyStream n none).modStream n (fun r => r.ended .idle) :=
  ⟨_, (((Part.aside_foldl _ (fun q x => q.aside_restartEntry n x) _ p).trans
    (Part.aside_foldl _ (fun q h => q.aside_giveUpHeld n _ h) _ _)).trans (Part.aside_logCount _ _ _ _)).trans
    (Part.aside_logCount _ _ _ _), rfl⟩

theorem Part.unhold_stream (p : Part) (n m : StreamId) (h : Held) :
    (p.unhold n h).stream m =
      if m = n then { p.stream m with hold := (p.stream m).hold.filter (fun x => x.slot != h.slot) }
      else p.stream m := by
  simp [Part.unhold, Part.modStream_stream]

/-! ### Dispatch -/

theorem Part.queueRequest_stream (p : Part) (n m : StreamId) (e : OttEntry) :
    (p.queueRequest n e).stream m = p.stream m := by unfold Part.queueRequest; split <;> rfl
theorem Part.queueRequest_engine (p : Part) (n : StreamId) (e : OttEntry) :
    (p.queueRequest n e).engine = p.engine := by unfold Part.queueRequest; split <;> rfl

theorem Part.dispatchInto_stream (p : Part) (n m : StreamId) (i : EntryIx) (rest : List EntryIx) (w : Work) :
    (p.dispatchInto n i rest w).stream m =
      if m = n then { p.stream m with nextSeq := (p.stream m).nextSeq + 1,
                                      inflight := (p.stream m).inflight ++ [p.newEntry n i w] }
      else p.stream m := by
  simp only [Part.dispatchInto, Part.raise_stream, Part.queueRequest_stream, Part.modStream_stream, Part.own_stream]
  rfl

theorem Part.dispatchInto_engine (p : Part) (n : StreamId) (i : EntryIx) (rest : List EntryIx) (w : Work) :
    (p.dispatchInto n i rest w).engine =
      { p.engine with streams := (p.dispatchInto n i rest w).engine.streams, freeEntries := rest,
                      owners := markBlocks p.engine.owners w.blocks (some (.entry i)) } := by
  simp only [Part.dispatchInto, Part.raise_engine, Part.queueRequest_engine]
  rfl

/-- The head of a hold list, dispatched into the first free entry (R27). -/
theorem Part.dispatchHead_stream (p : Part) {n : StreamId} {h : Held} {hs : List Held} {i : EntryIx} {rest : List EntryIx}
    (hhold : (p.stream n).hold = h :: hs) (hfree : p.engine.freeEntries = i :: rest) (m : StreamId) :
    (p.dispatchHead n).stream m =
      if m = n then { p.stream m with hold := hs, nextSeq := (p.stream m).nextSeq + 1,
                                      inflight := (p.stream m).inflight ++ [p.newEntry n i h.work] }
      else p.stream m := by
  have hfree' : ((p.modStream n (fun r => { r with hold := hs })).freeSlot h.slot).engine.freeEntries = i :: rest := hfree
  have hnew : ((p.modStream n (fun r => { r with hold := hs })).freeSlot h.slot).newEntry n i h.work =
      p.newEntry n i h.work := by simp [Part.newEntry]
  unfold Part.dispatchHead
  rw [hhold]
  simp only [Part.dispatch, hfree', Part.dispatchInto_stream, Part.freeSlot_stream, Part.modStream_stream, hnew]
  split <;> rfl

theorem Part.dispatchHead_engine (p : Part) {n : StreamId} {h : Held} {hs : List Held} {i : EntryIx} {rest : List EntryIx}
    (hhold : (p.stream n).hold = h :: hs) (hfree : p.engine.freeEntries = i :: rest) :
    (p.dispatchHead n).engine =
      { p.engine with streams := (p.dispatchHead n).engine.streams, freeEntries := rest,
                      freeSlots := p.engine.freeSlots ++ [h.slot],
                      owners := markBlocks p.engine.owners h.work.blocks (some (.entry i)) } := by
  have hfree' : ((p.modStream n (fun r => { r with hold := hs })).freeSlot h.slot).engine.freeEntries = i :: rest := hfree
  unfold Part.dispatchHead
  rw [hhold]
  simp only [Part.dispatch, hfree']
  exact Part.dispatchInto_engine _ _ _ _ _

end Sys2Proof.Machine
end

section
/-! Every operation keeps what the moves keep: the stream engine first, then the lanes, then the events. -/

namespace Sys2Proof.Machine

variable {I : Part → Prop}

/-- What each step of a fold keeps, the fold keeps. -/
theorem foldl_keeps {α : Type} {f : Part → α → Part} (hf : ∀ (q : Part) (x : α), I q → I (f q x)) (xs : List α) :
    ∀ {p : Part}, I p → I (xs.foldl f p) := by
  induction xs with
  | nil => exact id
  | cons x xs ih => exact fun h => ih (hf _ x h)

/-! ### Uniqueness in sound pools -/

/-- No OTT entry stands twice on an in-flight list (R21). -/
theorem Part.poolsHold.index_nodup {p : Part} (h : p.poolsHold) (n : StreamId) :
    ((p.stream n).inflight.map OttEntry.index).Nodup := by
  have hall : p.entriesUsed.Nodup :=
    (List.nodup_append.mp (h.entries.nodup_iff.mpr (List.nodup_finRange 256))).2.1
  exact (List.nodup_flatMap.mp hall).1 n (List.mem_finRange n)

/-- No hold slot stands twice on a hold list (R24). -/
theorem Part.poolsHold.slot_nodup {p : Part} (h : p.poolsHold) (n : StreamId) :
    ((p.stream n).hold.map Held.slot).Nodup := by
  have hall : p.slotsUsed.Nodup :=
    (List.nodup_append.mp (h.slots.nodup_iff.mpr (List.nodup_finRange 64))).2.1
  exact (List.nodup_flatMap.mp hall).1 n (List.mem_finRange n)

/-! ### The stream engine -/

section

variable (hI : Kept I) {p : Part} (h : I p)
include hI h

theorem Kept.event (k : EventKind) (l : Option Lane) (n : Option StreamId) (d : BitVec 16) : I (p.event k l n d) :=
  hI.aside (p.aside_event k l n d) h
theorem Kept.raise (c : CounterId) : I (p.raise c) := hI.aside (p.aside_raise c) h
theorem Kept.report (r : Report) : I (p.report r) := hI.aside (p.aside_report r) h
theorem Kept.reply (st : Status) : I (p.reply st) := hI.aside (p.aside_reply st) h
theorem Kept.respond (st : Byte) (d : List Byte) : I (p.respond st d) := hI.aside (p.aside_respond st d) h
theorem Kept.reach (t : Micros) : I (p.reach t) := by
  have hreach : p.Aside (p.reach t) := .of_eq rfl rfl rfl rfl rfl rfl
  exact hI.aside hreach h

/-- One lane's record, kept in its state. -/
theorem Kept.modLane (l : Lane) (f : LaneRec → LaneRec) (hstate : (f (p.lane l)).state = (p.lane l).state)
    (hrange : p.params.stormRewinds ≤ 63 → (p.lane l).rangesHold → (f (p.lane l)).rangesHold) : I (p.modLane l f) := by
  refine hI.lanes _ (fun m => ?_) h
  by_cases hm : m = l
  · subst hm
    rw [Lanes.get_set_self]
    exact ⟨hstate, fun hr => hrange (hr p h).2 ((hr p h).1 m)⟩
  · rw [Lanes.get_set_of_ne _ hm]
    exact ⟨rfl, fun hr => (hr p h).1 m⟩

theorem Kept.place (l : Lane) (f : Frame) : I (p.place l f) := hI.modLane h l _ rfl fun _ hr => hr

/-- Every lane's record, kept in its state. -/
theorem Kept.modLanes (f : LaneRec → LaneRec) (hstate : ∀ r, (f r).state = r.state)
    (hrange : ∀ r : LaneRec, r.rangesHold → (f r).rangesHold) : I (p.modLanes f) := by
  refine hI.lanes _ (fun l => ?_) h
  have hl := p.modLanes_lane f l
  unfold Part.lane Part.modLanes at hl
  exact hl ▸ ⟨hstate _, fun hr => hrange _ ((hr p h).1 l)⟩

theorem Kept.unqueue (t : Frame → Bool) : I (p.unqueue t) :=
  hI.modLanes h _ (fun _ => rfl) fun _ hr => hr

theorem Kept.dropFrames (n : StreamId) : I (p.dropFrames n) := hI.unqueue h _

/-- A stream record edited outside its state, its carrier and what it holds. -/
theorem Kept.edit (n : StreamId) (f : StreamRec → StreamRec) (hstate : (f (p.stream n)).state = (p.stream n).state)
    (hcarrier : (f (p.stream n)).carrier = (p.stream n).carrier) (hi : (f (p.stream n)).inflight = (p.stream n).inflight)
    (hh : (f (p.stream n)).hold = (p.stream n).hold) (hs : (f (p.stream n)).nextSeq = (p.stream n).nextSeq) :
    I (p.modStream n f) :=
  hI.stream n f hstate hcarrier (fun _ => .of_eq hi hh hs) h

theorem Kept.queueRequest (n : StreamId) (e : OttEntry) : I (p.queueRequest n e) := by
  unfold Part.queueRequest; split
  · exact hI.place h _ _
  · exact h

omit h in
theorem Kept.dispatchHeld (n : StreamId) (k : Nat) : ∀ {p : Part}, I p → I (p.dispatchHeld n k) := by
  induction k with
  | zero => exact id
  | succ k ih =>
    intro p h
    unfold Part.dispatchHeld; split
    · next hc => exact ih (hI.dispatchHead n hc.1 hc.2 h)
    · exact h

omit h in
theorem Kept.arbitrate (k : Nat) : ∀ {p : Part}, I p → I (p.arbitrate k) := by
  induction k with
  | zero => exact id
  | succ k ih =>
    intro p h
    unfold Part.arbitrate; split
    · exact h
    · next hfree =>
      split
      · exact h
      · next n hn => exact ih (hI.aside (Part.aside_served _ n) (hI.dispatchHead n (List.find?_some hn) hfree h))

theorem Kept.serve : I p.serve := hI.arbitrate 64 h

/-- Retiring entries in turn, each on the list and none twice. -/
theorem Kept.foldl_retireWrite (n : StreamId) (own : Option Seq) (es : List OttEntry)
    (hes : Pooled I → (∀ e ∈ es, e ∈ (p.stream n).inflight) ∧ (es.map OttEntry.index).Nodup) :
    I (es.foldl (fun q e => q.retireWrite n own e) p) := by
  induction es generalizing p with
  | nil => exact h
  | cons e es ih =>
    have hretired : I (p.retireWrite n own e) := by
      have hr := hI.retire n e (fun hp => ⟨e, (hes hp).1 e (List.mem_cons_self ..), rfl, rfl⟩) h
      unfold Part.retireWrite
      dsimp only
      split
      · exact hr
      · exact hI.raise hr _
    refine ih hretired fun hp => ?_
    obtain ⟨hmem, hnodup⟩ := hes hp
    rw [List.map_cons, List.nodup_cons] at hnodup
    refine ⟨fun x hx => ?_, hnodup.2⟩
    rw [Part.retireWrite_stream, if_pos rfl]
    refine List.mem_filter.mpr ⟨hmem x (List.mem_cons_of_mem _ hx), bne_iff_ne.mpr fun heq => hnodup.1 ?_⟩
    exact heq ▸ List.mem_map_of_mem hx

theorem Kept.retireWrites (n : StreamId) (mark : Seq) (own : Option Seq) : I (p.retireWrites n mark own) :=
  hI.foldl_retireWrite h n own _ fun hp =>
    ⟨fun _ he => (List.mem_filter.mp he).1,
      ((hp p h).index_nodup n).sublist (List.Sublist.map _ List.filter_sublist)⟩

theorem Kept.bindPlain (n : StreamId) (k : BindingKind) : I (p.bind n k) := by
  have hb := hI.bind n id k (.of_eq rfl rfl rfl) h
  rwa [p.modStream_self n id rfl] at hb

theorem Kept.migrated (n : StreamId) (left : Lane) : I (p.migrated n left) := hI.aside (p.aside_migrated n left) h

theorem Kept.rewind (n : StreamId) (c : RewindCause) : I (p.rewind n c) := by
  unfold Part.rewind; split
  · exact hI.report (hI.bindPlain (hI.raise (hI.event (hI.report h _) _ _ _ _) _) _ _) _
  · exact h

theorem Kept.failover (n : StreamId) (l : Lane) : I (p.failover n l) :=
  hI.migrated (hI.bind n _ _ (.of_eq rfl rfl rfl) h) _ _

theorem Kept.failoverAll (l : Lane) : I (p.failoverAll l) :=
  foldl_keeps (fun q n hq => by
    split
    · exact hI.failover hq n l
    · exact hq) _ h

theorem Kept.releaseStalled : I p.releaseStalled :=
  foldl_keeps (fun q n hq => by
    split
    · exact hI.bind n _ _ (.of_eq rfl rfl rfl) hq
    · exact hq) _ h

theorem Kept.endDrain (n : StreamId) : I (p.endDrain n) := by
  unfold Part.endDrain; split
  · exact h
  · exact hI.migrated (hI.bind n _ _ (.of_eq rfl rfl rfl) h) _ _

theorem Kept.judgeDrain (n : StreamId) : I (p.judgeDrain n) := by
  unfold Part.judgeDrain; split
  · exact hI.endDrain h n
  · exact h

theorem Kept.startMove (n : StreamId) (t : Option Lane) (c : MoveCause) : I (p.startMove n t c) := by
  unfold Part.startMove; split
  · exact h
  · next l hl =>
    exact hI.judgeDrain (hI.carried n _ rfl (.inl (by simp [hl])) rfl (.of_eq rfl rfl rfl) h) n

theorem Kept.judgeLeaving (n : StreamId) : I (p.judgeLeaving n) := by
  unfold Part.judgeLeaving; split
  · exact h
  · split
    · exact hI.startMove h _ _ _
    · exact h

theorem Kept.leavingMoves (l : Lane) : I (p.leavingMoves l) :=
  foldl_keeps (fun q n hq => by
    split
    · exact hI.judgeLeaving hq n
    · exact hq) _ h

theorem Kept.judgeReturn (n : StreamId) : I (p.judgeReturn n) := by
  unfold Part.judgeReturn; split
  · split
    · exact h
    · exact hI.edit h n _ rfl rfl rfl rfl rfl
  · exact hI.edit h n _ rfl rfl rfl rfl rfl

theorem Kept.judgeReturns (l : Lane) : I (p.judgeReturns l) :=
  foldl_keeps (fun q n hq => by
    split
    · exact hI.judgeReturn hq n
    · exact hq) _ h

theorem Kept.afterBound (n : StreamId) : I (p.afterBound n) :=
  hI.judgeReturn (hI.serve (hI.dispatchHeld n 64 (hI.judgeLeaving h n))) n

theorem Kept.endBinding (n : StreamId) (hc : (p.stream n).carrier ≠ none ∨ (p.stream n).state.carried = true) :
    I (p.endBinding n) := by
  unfold Part.endBinding; split
  · exact hI.afterBound (hI.carried n _ rfl hc rfl (.of_eq rfl rfl rfl) h) n
  · split
    · exact hI.afterBound (hI.event (hI.carried n _ rfl hc rfl (.of_eq rfl rfl rfl) h) _ _ _ _) n
    · exact hI.judgeDrain (hI.carried n _ rfl hc rfl (.of_eq rfl rfl rfl) h) n

theorem Kept.judgeReplay (n : StreamId) : I (p.judgeReplay n) := by
  unfold Part.judgeReplay; split
  · exact h
  · next l hl =>
    split
    · exact hI.endBinding h n (.inl (by simp [hl]))
    · exact h

theorem Kept.replayEntry (n : StreamId) (i : EntryIx) : I (p.replayEntry n i) := by
  unfold Part.replayEntry; split
  · exact h
  · next e he =>
    refine hI.raise (hI.queueRequest (hI.stream n _ rfl rfl (fun hp => ?_) h) _ _) _
    refine .of_map rfl (fun x hx => ?_) rfl rfl
    split
    · next hi =>
      have hei : e.index = i := by simpa using List.find?_some he
      obtain rfl : x = e :=
        List.inj_on_of_nodup_map ((hp p h).index_nodup n) hx (List.mem_of_find?_eq_some he) (hi.trans hei.symm)
      exact ⟨rfl, rfl, rfl, fun _ ha => ha⟩
    · exact .refl x

theorem Kept.replay (n : StreamId) (hc : (p.stream n).carrier ≠ none ∨ (p.stream n).state.carried = true) :
    I (p.replay n) :=
  foldl_keeps (f := fun q i => q.replayEntry n i) (fun q i hq => Kept.replayEntry (p := q) hI hq n i) _
    (hI.carried (p := p) n (fun r => { r with state := .replaying }) rfl hc rfl (.of_eq rfl rfl rfl) h)

theorem Kept.dispose (n : StreamId) (failed : Option EntryIx) : I (p.dispose n failed) := by
  obtain ⟨q, haside, hq⟩ := p.dispose_eq_emptyStream n failed
  exact hq ▸ hI.emptyStream n failed (hI.aside haside h)

theorem Kept.fault (n : StreamId) (reason : BitVec 16) (failed : Option EntryIx) : I (p.fault n reason failed) := by
  refine hI.serve (hI.ended n _ (.inr rfl) (.inl rfl) (fun _ => ?_)
    (hI.dispose (hI.dropFrames (hI.event h _ _ _ _) n) n failed))
  simp [Part.dispose_stream, StreamRec.ended]

theorem Kept.expireStall (n : StreamId) : I (p.expireStall n) := by
  refine hI.serve (hI.ended n _ (.inl rfl) (.inl rfl) (fun _ => ?_)
    (hI.event (hI.dispose (hI.dropFrames h n) n none) _ _ _ _))
  simp [Part.dispose_stream, StreamRec.ended]

theorem Kept.restartStream (n : StreamId) : I (p.restartStream n) := by
  obtain ⟨q, haside, hq⟩ := p.restartStream_eq_emptyStream n
  rw [hq]
  refine hI.ended n _ (.inl rfl) (.inl rfl) (fun _ => ?_) (hI.emptyStream n none (hI.aside haside h))
  simp [Part.emptyStream_stream, StreamRec.ended]

/-! ### Changes of lanes -/

/-- A change of lane state with no edit before it. -/
theorem Kept.changeLane (l : Lane) (new : LaneState) {enter : LaneRec → LaneRec} {log : Part → Part}
    (hnew : (enter ((p.lane l).moved new)).state = new)
    (hrange : p.params.stormRewinds ≤ 63 → (p.lane l).rangesHold → (enter ((p.lane l).moved new)).rangesHold)
    (hlog : ∀ q : Part, q.Aside (log q)) : I (p.changeLane l new enter log) := by
  have hc := hI.change l id enter new log rfl hnew (fun hr => hrange (hr p h).2 ((hr p h).1 l)) hlog h
  rwa [p.modLane_self l id rfl] at hc

end

section

variable (r : LaneRec) (new : LaneState)

@[simp] theorem LaneRec.moved_state : (r.moved new).state = new := by
  unfold LaneRec.moved; cases new <;> rfl
@[simp] theorem LaneRec.moved_figure : (r.moved new).figure = r.figure := by
  unfold LaneRec.moved; cases new <;> (dsimp only; split <;> rfl)
@[simp] theorem LaneRec.moved_latency : (r.moved new).latency = r.latency := by
  unfold LaneRec.moved; cases new <;> (dsimp only; split <;> rfl)
@[simp] theorem LaneRec.moved_errorBytes : (r.moved new).errorBytes = r.errorBytes := by
  unfold LaneRec.moved; cases new <;> (dsimp only; split <;> rfl)
@[simp] theorem LaneRec.moved_training : (r.moved new).training = r.training := by
  unfold LaneRec.moved; cases new <;> (dsimp only; split <;> rfl)
@[simp] theorem LaneRec.moved_requalify : (r.moved new).requalify = r.requalify := by
  unfold LaneRec.moved; cases new <;> (dsimp only; split <;> rfl)
@[simp] theorem LaneRec.moved_storm : (r.moved new).storm = r.storm := by
  unfold LaneRec.moved; cases new <;> (dsimp only; split <;> rfl)
@[simp] theorem LaneRec.moved_page : (r.moved new).page = r.page := by
  unfold LaneRec.moved; cases new <;> (dsimp only; split <;> rfl)
@[simp] theorem LaneRec.moved_pin : (r.moved new).pin = r.pin := by
  unfold LaneRec.moved; cases new <;> (dsimp only; split <;> rfl)
@[simp] theorem LaneRec.moved_partnerLeaving : (r.moved new).partnerLeaving = r.partnerLeaving := by
  unfold LaneRec.moved; cases new <;> (dsimp only; split <;> rfl)
@[simp] theorem LaneRec.moved_suppressed : (r.moved new).suppressed = r.suppressed := by
  unfold LaneRec.moved; cases new <;> (dsimp only; split <;> rfl)
@[simp] theorem LaneRec.moved_offReason : (r.moved new).offReason = r.offReason := by
  unfold LaneRec.moved; cases new <;> (dsimp only; split <;> rfl)
@[simp] theorem LaneRec.moved_loopback : (r.moved new).loopback = r.loopback := by
  unfold LaneRec.moved; cases new <;> (dsimp only; split <;> rfl)

/-- An entry to a state other than QUIET, DOWN and OFF keeps the checker and the held timer. -/
theorem LaneRec.moved_checker : (r.moved new).checker = none ∨ (r.moved new).checker = r.checker := by
  unfold LaneRec.moved; cases new <;> simp <;> split <;> simp
theorem LaneRec.moved_held : (r.moved new).timers.held = none ∨ (r.moved new).timers.held = r.timers.held := by
  unfold LaneRec.moved; cases new <;> simp [Timers.stopped] <;> split <;> simp

variable {r new}

/-- An entry to a state other than OFF that takes the lane's numbers over, out of a state in which no qualification
burst and no held timer can run on into the new one. -/
theorem LaneRec.rangesHold.moved (hr : r.rangesHold) (hoff : r.requalify = 3 → new = .off)
    (hstorm : new.inService = true → r.storm ≤ 62) (hheld : (r.moved new).timers.held ≠ none → new = .held)
    (hburst : ∀ b, (r.moved new).checker = some b → b.owner = .qualify → new = .qualify) :
    (r.moved new).rangesHold := by
  obtain ⟨hnum, ⟨hq, -⟩, ⟨hs, -⟩, -, -⟩ := hr
  exact ⟨by simpa using hnum, ⟨by simpa using hq, by simpa using hoff⟩, ⟨by simpa using hs, by simpa using hstorm⟩,
    by simpa using hheld, by simpa using hburst⟩

/-- An entry to QUIET, DOWN or OFF stops every timer and the checker. -/
theorem LaneRec.moved_out (hnew : new = .quiet ∨ new = .down ∨ new = .off) :
    (r.moved new).timers = Timers.stopped ∧ (r.moved new).checker = none ∧ (r.moved new).queue = [] := by
  unfold LaneRec.moved; rcases hnew with rfl | rfl | rfl <;> exact ⟨rfl, rfl, rfl⟩

theorem LaneRec.rangesHold.out (hr : r.rangesHold) (hnew : new = .quiet ∨ new = .down ∨ new = .off)
    (hoff : r.requalify = 3 → new = .off) : (r.moved new).rangesHold := by
  obtain ⟨htimers, hchecker, -⟩ := LaneRec.moved_out (r := r) hnew
  refine hr.moved hoff ?_ ?_ ?_
  · rcases hnew with rfl | rfl | rfl <;> simp [LaneState.inService]
  · simp [htimers, Timers.stopped]
  · simp [hchecker]

/-- Away from OFF fewer than three qualifications have failed (R77). -/
theorem LaneRec.rangesHold.requalify_ne (hr : r.rangesHold) (h : r.state ≠ .off) : r.requalify ≠ 3 :=
  fun h3 => h (hr.2.1.2 h3)

theorem LaneRec.rangesHold.down (hr : r.rangesHold) (hne : r.requalify ≠ 3) (t : Option Micros) :
    ({ r.moved .down with timers := { Timers.stopped with holdDown := t } } : LaneRec).rangesHold := by
  obtain ⟨hnum, hq, hs, -, hchk⟩ := hr.out (new := .down) (.inr (.inl rfl)) (fun h3 => absurd h3 hne)
  exact ⟨hnum, hq, hs, by simp [Timers.stopped], hchk⟩

/-- Away from HELD no held timer runs on into another state. -/
theorem LaneRec.rangesHold.held_none (hr : r.rangesHold) (hs : r.state ≠ .held) : (r.moved new).timers.held = none := by
  obtain ⟨-, -, -, hheld, -⟩ := hr
  rcases r.moved_held new with hm | hm
  · exact hm
  · rw [hm]; exact Classical.not_not.mp fun hn => hs (hheld hn)

/-- Away from QUALIFY no qualification burst runs on into another state. -/
theorem LaneRec.rangesHold.no_burst (hr : r.rangesHold) (hs : r.state ≠ .qualify) {b : Burst}
    (hb : (r.moved new).checker = some b) : b.owner ≠ .qualify := by
  obtain ⟨-, -, -, -, hchk⟩ := hr
  rcases r.moved_checker new with hm | hm
  · simp [hm] at hb
  · exact fun ho => hs (hchk b (hm ▸ hb) ho)

theorem LaneRec.rangesHold.degraded (hr : r.rangesHold) (hs : r.state = .active) : (r.moved .degraded).rangesHold :=
  hr.moved (fun h3 => absurd h3 (hr.requalify_ne (by simp [hs])))
    (fun _ => hr.2.2.1.2 (by simp [hs, LaneState.inService]))
    (fun hn => absurd (hr.held_none (by simp [hs])) hn)
    (fun _ hb ho => absurd ho (hr.no_burst (by simp [hs]) hb))

theorem LaneRec.rangesHold.recovered (hr : r.rangesHold) (hs : r.state = .degraded) (now : Micros) :
    ((r.moved .active).freshStorm now).rangesHold := by
  have hne := hr.requalify_ne (by simp [hs])
  have hheld := hr.held_none (new := .active) (by simp [hs])
  have hburst := fun b => hr.no_burst (new := .active) (b := b) (by simp [hs])
  obtain ⟨hnum, ⟨hq, -⟩, -⟩ := hr
  exact ⟨by simpa [LaneRec.freshStorm] using hnum, ⟨by simpa [LaneRec.freshStorm] using hq,
    by simpa [LaneRec.freshStorm] using hne⟩, by simp [LaneRec.freshStorm], by simp [LaneRec.freshStorm, hheld],
    fun b hb ho => absurd ho (hburst b hb)⟩

end

section

variable (hI : Kept I) {p : Part} (h : I p)
include hI h

theorem Kept.enterQuiet (l : Lane) {log : Part → Part} (hlog : ∀ q : Part, q.Aside (log q)) : I (p.enterQuiet l log) := by
  refine hI.changeLane h l .quiet (by simp) (fun _ hr => ?_) hlog
  obtain ⟨hnum, ⟨hq, hq3⟩, ⟨hs, -⟩, -, -⟩ := hr
  have hchecker := (LaneRec.moved_out (r := p.lane l) (new := .quiet) (.inl rfl)).2.1
  refine ⟨by simpa using hnum, ⟨?_, ?_⟩, ⟨by simpa using hs, by simp [LaneState.inService]⟩, by simp [Timers.stopped],
    by simp [hchecker]⟩
  · dsimp only; split
    · exact Nat.zero_le 3
    · simpa using hq
  · dsimp only; split
    · simp
    · next hst => exact fun h3 => absurd (by simpa using hq3 (by simpa using h3)) hst

theorem Kept.enterDown (l : Lane) (c : DownCause) (low : Nat) (hoff : Ranged I → (p.lane l).requalify ≠ 3) :
    I (p.enterDown l c low) := by
  have hc := hI.change l id (fun r => { r with timers := { Timers.stopped with holdDown := some (p.now + p.params.holdDown * 10000) } }) .down
    (fun q => laneEvent .laneDown l (bytePair c.code low) (q.raise (.lane l .downEntries))) rfl (by simp) (fun hr => ?_)
    (fun q => (q.aside_raise _).trans (aside_laneEvent _ _ _ _)) h
  · rwa [p.modLane_self l id rfl] at hc
  · exact ((hr p h).1 l).down (hoff hr) _

theorem Kept.enterOff (l : Lane) (reason : OffReason) {log : Part → Part} (hlog : ∀ q : Part, q.Aside (log q)) :
    I (p.enterOff l reason log) :=
  hI.changeLane h l .off (by simp) (fun _ hr => hr.out (.inr (.inr rfl)) fun _ => rfl) hlog

theorem Kept.mismatch (l : Lane) (reason : Nat) (port : Byte) : I (p.mismatch l reason port) :=
  hI.enterOff h l _ (aside_laneEvent _ _ _)

end

/-! ### The threshold evaluation of one lane -/

/-- With every lane in the state it had, the streams follow nothing. -/
theorem Part.streamsFollow_of_states {q was : Part} (h : ∀ l, (q.lane l).state = (was.lane l).state) :
    q.streamsFollow was = q := by
  simp [Part.streamsFollow, Lane.all, h]

/-- With one lane in a new state, the streams follow that lane. -/
theorem Part.streamsFollow_of_one {q was : Part} {l : Lane} (hne : ∀ m, m ≠ l → (q.lane m).state = (was.lane m).state)
    (hl : (q.lane l).state ≠ (was.lane l).state) :
    q.streamsFollow was = q.streamsTake l (was.lane l).state (q.lane l).state := by
  have hothers : ∀ m, m ≠ l → ((q.lane m).state == .active && (was.lane m).state != .active) = false := by
    intro m hm; rw [hne m hm]; cases (was.lane m).state <;> rfl
  have hserve : ∀ m, m ≠ l → ¬((was.lane m).state.inService = true ∧ (q.lane m).state.inService = false) := by
    intro m hm; rw [hne m hm]; simp
  unfold Part.streamsFollow Part.streamsTake
  have a0 := hothers .a0; have a1 := hothers .a1; have b0 := hothers .b0; have b1 := hothers .b1
  have s0 := hserve .a0; have s1 := hserve .a1; have s2 := hserve .b0; have s3 := hserve .b1
  have t0 := hne .a0; have t1 := hne .a1; have t2 := hne .b0; have t3 := hne .b1
  cases l <;> simp_all [Lane.all]

@[simp] theorem Part.noteLoss_lanes (p : Part) (l : Lane) : (p.noteLoss l).lanes = p.lanes := by simp [Part.noteLoss]
@[simp] theorem Part.markSuspect_lanes (p : Part) (d : Side) : (p.markSuspect d).lanes = p.lanes := by
  simp [Part.markSuspect]
@[simp] theorem Part.updateSide_lanes (p : Part) (l : Lane) : (p.updateSide l).lanes = p.lanes := by
  unfold Part.updateSide; dsimp only; split
  · simp
  · split <;> simp
@[simp] theorem Part.sideTakes_lanes (p : Part) (l : Lane) (old new : LaneState) :
    (p.sideTakes l old new).lanes = p.lanes := by
  unfold Part.sideTakes; dsimp only; rw [Part.updateSide_lanes]; split <;> split <;> simp

/-- A change of lane state leaves its lane the record entered, and every other lane its own (R66). -/
theorem Part.moveLane_lanes (p : Part) (l : Lane) (new : LaneState) (enter : LaneRec → LaneRec) {log : Part → Part}
    (hlog : ∀ q : Part, (log q).lanes = q.lanes) :
    (p.moveLane l new enter log).lanes = (p.modLane l (fun r => enter (r.moved new))).lanes := by
  simp [Part.moveLane, hlog]

theorem Part.moveLane_lane_self (p : Part) (l : Lane) (new : LaneState) (enter : LaneRec → LaneRec) {log : Part → Part}
    (hlog : ∀ q : Part, (log q).lanes = q.lanes) :
    (p.moveLane l new enter log).lane l = enter ((p.lane l).moved new) := by
  rw [Part.lane, p.moveLane_lanes l new enter hlog]
  exact p.modLane_lane_self l _

theorem Part.moveLane_lane_of_ne (p : Part) {l m : Lane} (h : m ≠ l) (new : LaneState) (enter : LaneRec → LaneRec)
    {log : Part → Part} (hlog : ∀ q : Part, (log q).lanes = q.lanes) :
    (p.moveLane l new enter log).lane m = p.lane m := by
  rw [Part.lane, p.moveLane_lanes l new enter hlog]
  exact p.modLane_lane_of_ne h _

/-- The streams follow one change of lane state as they take it. -/
theorem Part.moveLane_streamsFollow (p : Part) {l : Lane} {new : LaneState} {enter : LaneRec → LaneRec}
    {log : Part → Part} (hlog : ∀ q : Part, (log q).lanes = q.lanes) (hnew : (enter ((p.lane l).moved new)).state = new)
    (hdiff : new ≠ (p.lane l).state) :
    (p.moveLane l new enter log).streamsFollow p = p.changeLane l new enter log := by
  have hself := p.moveLane_lane_self l new enter hlog
  rw [Part.streamsFollow_of_one (l := l) (fun m hm => by rw [p.moveLane_lane_of_ne hm _ _ hlog])
    (by rw [hself, hnew]; exact hdiff), hself, hnew]
  rfl

/-- The streams follow a suppressed move in nothing. -/
theorem Part.suppress_lane_state (p : Part) (l m : Lane) (d : BitVec 16) :
    ((p.suppress l d).lane m).state = (p.lane m).state := by
  unfold Part.suppress; split
  · rfl
  · by_cases hm : m = l
    · subst hm; simp
    · simp [p.modLane_lane_of_ne hm]

/-- What a threshold evaluation of one lane can be: nothing, a suppressed move, or a change to DOWN, DEGRADED or ACTIVE
(R86, R94). -/
theorem Part.evaluate_cases (p : Part) (l : Lane) :
    p.evaluate l = p ∨
    ((p.lane l).pin = .keep ∧ ∃ d, p.evaluate l = p.suppress l d) ∨
    ((p.lane l).state.inService = true ∧ p.evaluate l = p.enterDown l .distress 0) ∨
    ((p.lane l).state = .active ∧ p.evaluate l = p.changeLane l .degraded id
      (laneEvent .laneDegraded l (sat16 (p.lane l).figure))) ∨
    ((p.lane l).state = .degraded ∧
      p.evaluate l = p.changeLane l .active (fun r => r.freshStorm p.now) (laneEvent .laneUp l 2)) := by
  have hsuppress : ∀ d, (p.suppress l d).streamsFollow p = p.suppress l d := fun d =>
    Part.streamsFollow_of_states fun m => p.suppress_lane_state l m d
  have hdown : (p.lane l).state.inService = true → (p.downLane l .distress 0).streamsFollow p = p.enterDown l .distress 0 :=
    fun hs => p.moveLane_streamsFollow (fun q => by simp [laneEvent]) (by simp)
      (by intro hd; simp [← hd, LaneState.inService] at hs)
  unfold Part.evaluate Part.evaluateLane Part.distressDown Part.distressDegrade
  split
  · next hact =>
    split
    · split
      · next hkeep => exact .inr (.inl ⟨hkeep, _, hsuppress _⟩)
      · exact .inr (.inr (.inl ⟨by simp [hact, LaneState.inService], hdown (by simp [hact, LaneState.inService])⟩))
    · split
      · split
        · next hkeep => exact .inr (.inl ⟨hkeep, _, hsuppress _⟩)
        · exact .inr (.inr (.inr (.inl ⟨hact, p.moveLane_streamsFollow (fun q => by simp [laneEvent]) (by simp)
            (by simp [hact])⟩)))
      · exact .inl (Part.streamsFollow_of_states fun _ => rfl)
  · next hdeg =>
    split
    · split
      · next hkeep => exact .inr (.inl ⟨hkeep, _, hsuppress _⟩)
      · exact .inr (.inr (.inl ⟨by simp [hdeg, LaneState.inService], hdown (by simp [hdeg, LaneState.inService])⟩))
    · split
      · exact .inr (.inr (.inr (.inr ⟨hdeg, p.moveLane_streamsFollow (fun q => by simp [laneEvent])
          (by simp [LaneRec.freshStorm]) (by simp [hdeg])⟩)))
      · exact .inl (Part.streamsFollow_of_states fun _ => rfl)
  · exact .inl (Part.streamsFollow_of_states fun _ => rfl)

section

variable (hI : Kept I) {p : Part} (h : I p)
include hI h

theorem Kept.suppress (l : Lane) (d : BitVec 16) : I (p.suppress l d) := by
  unfold Part.suppress; split
  · exact h
  · exact hI.event (hI.modLane h l _ rfl fun _ hr => hr) _ _ _ _

theorem Kept.evaluate (l : Lane) : I (p.evaluate l) := by
  rcases p.evaluate_cases l with he | ⟨-, d, he⟩ | ⟨hs, he⟩ | ⟨hs, he⟩ | ⟨hs, he⟩
  · rw [he]; exact h
  · rw [he]; exact hI.suppress h l d
  · rw [he]
    refine hI.enterDown h l _ _ fun hr => ((hr p h).1 l).requalify_ne fun ho => ?_
    simp [ho, LaneState.inService] at hs
  · rw [he]
    exact hI.changeLane h l _ (by simp) (fun _ hr => hr.degraded hs) (aside_laneEvent _ _ _)
  · rw [he]
    exact hI.changeLane h l _ (by simp [LaneRec.freshStorm]) (fun _ hr => hr.recovered hs p.now) (aside_laneEvent _ _ _)

end

end Sys2Proof.Machine
end

section
/-! The events of lanes, frames and timers keep what the moves keep. -/

namespace Sys2Proof.Machine

variable {I : Part → Prop}

/-! ### Where a lane's numbers go -/

/-- A counter is raised alike before and after an edit of a lane. -/
theorem Part.raise_modLane (p : Part) (l : Lane) (f : LaneRec → LaneRec) (c : CounterId) :
    (p.modLane l f).raise c = (p.raise c).modLane l f := by
  by_cases hc : p.counter c = 0x7FFFFFFF#32 ∧ p.params.halfWatched c = true
  · rw [show p.raise c = _ from if_pos hc]; exact if_pos hc
  · rw [show p.raise c = _ from if_neg hc]; exact if_neg hc

theorem Training.sees_seen (t : Training) (g : BasePage) : (t.sees g).seen ≤ 2 := by
  unfold Training.sees; split
  · exact min_le_left _ _
  · exact Nat.le_succ 1

theorem Training.sees_resends (t : Training) (g : BasePage) : (t.sees g).resends = t.resends := by
  unfold Training.sees; split <;> rfl

/-- An entry into service from QUALIFY, with its count of storms, failures and errors afresh (R77). -/
theorem LaneRec.rangesHold.qualified {r : LaneRec} (hr : r.rangesHold) (hchk : r.checker = none) (hheld : r.state ≠ .held)
    (now : Micros) :
    ({ (r.moved .active).freshStorm now with figure := 0, latency := 100, requalify := 0 } : LaneRec).rangesHold := by
  have hheld' := hr.held_none (new := .active) hheld
  have hchk' : (r.moved .active).checker = none := by
    rcases r.moved_checker .active with hm | hm
    · exact hm
    · rw [hm, hchk]
  obtain ⟨⟨-, -, herr, hseen, hres⟩, -⟩ := hr
  refine ⟨⟨by simp, by simp, by simpa [LaneRec.freshStorm] using herr, by simpa [LaneRec.freshStorm] using hseen,
    by simpa [LaneRec.freshStorm] using hres⟩, by simp, by simp [LaneRec.freshStorm], ?_, ?_⟩
  · simp [LaneRec.freshStorm, hheld']
  · simp [LaneRec.freshStorm, hchk']

section

variable (hI : Kept I) {p : Part} (h : I p)
include hI h

/-! ### Weights, storms and the leak -/

theorem Kept.addWeight (l : Lane) (w : Nat) : I (p.addWeight l w) := by
  unfold Part.addWeight; split
  · refine hI.evaluate (hI.modLane h l _ rfl fun _ hr => ?_) l
    obtain ⟨⟨-, hrest⟩, hmore⟩ := hr
    exact ⟨⟨min_le_left _ _, hrest⟩, hmore⟩
  · exact h

theorem Kept.leak (l : Lane) : I (p.leak l) := by
  unfold Part.leak; split
  · exact h
  · refine hI.evaluate (hI.modLane h l _ rfl fun _ hr => ?_) l
    obtain ⟨⟨hfig, hrest⟩, hmore⟩ := hr
    exact ⟨⟨(Nat.sub_le _ _).trans hfig, hrest⟩, hmore⟩

theorem Kept.leakAll : I p.leakAll := hI.leak (hI.leak (hI.leak (hI.leak h _) _) _) _

theorem Kept.stormTaken (l : Lane) : I (p.stormTaken l) := by
  unfold Part.stormTaken; split
  · next hserve =>
    dsimp only
    rw [p.raise_modLane]
    have hraised := hI.raise h (.lane l .stormReports)
    split
    · refine hI.change l _ _ .held _ rfl (by simp) (fun hr => ?_) (aside_laneEvent _ _ _) hraised
      obtain ⟨hnum, ⟨hq, hq3⟩, ⟨hs, hs62⟩, hheld, hchk⟩ := (hr p h).1 l
      have hchecker : ∀ b, (p.lane l).checker = some b → b.owner ≠ .qualify := fun b hb ho => by
        rw [hchk b hb ho] at hserve; simp [LaneState.inService] at hserve
      have hne : (p.lane l).requalify ≠ 3 := fun h3 => by rw [hq3 h3] at hserve; simp [LaneState.inService] at hserve
      have hs' := hs62 hserve
      refine ⟨by simpa using hnum, ⟨by simpa using hq, by simpa using hne⟩,
        ⟨by simp; omega, by simp [LaneState.inService]⟩, by simp, ?_⟩
      rcases LaneRec.moved_checker { p.lane l with storm := (p.lane l).storm + 1 } .held with hm | hm
      · simp [hm]
      · simpa [hm] using fun b hb ho => hchecker b hb ho
    · next hbelow =>
      refine hI.modLane hraised l _ rfl fun hlimit hr => ?_
      obtain ⟨hnum, hq, ⟨hs, -⟩, hheld, hchk⟩ := hr
      have hlow : (p.lane l).storm + 1 < p.params.stormRewinds := by simpa using hbelow
      have hlim : p.params.stormRewinds ≤ 63 := by simpa using hlimit
      refine ⟨hnum, hq, ⟨?_, fun _ => ?_⟩, hheld, hchk⟩
      · simp only [Part.raise_lane]; omega
      · simp only [Part.raise_lane]; omega
  · exact h

theorem Kept.sampleTaken (l : Lane) (us : BitVec 16) : I (p.sampleTaken l us) := by
  unfold Part.sampleTaken
  refine hI.modLane (hI.raise h _) l _ (by split <;> rfl) fun _ hr => ?_
  obtain ⟨⟨hfig, hlat, hrest⟩, hmore⟩ := hr
  split
  · refine ⟨⟨hfig, ?_, hrest⟩, hmore⟩
    have hle := smooth_le_max (p.lane l).latency us.toNat
    have hus := us.isLt
    simp only [Part.raise_lane] at hlat ⊢
    omega
  · exact ⟨⟨hfig, hlat, hrest⟩, hmore⟩

/-! ### Partner states and training -/

theorem Kept.forceDown (l : Lane) (c : DownCause) (hoff : Ranged I → (p.lane l).state ≠ .off) : I (p.forceDown l c) := by
  refine hI.enterDown (hI.modLane h l _ rfl fun _ hr => ?_) l c 0 fun hr => ?_
  · obtain ⟨⟨hfig, hrest⟩, hmore⟩ := hr
    refine ⟨⟨?_, hrest⟩, hmore⟩
    dsimp only
    split
    · exact le_refl _
    · exact hfig
  · rw [Part.modLane_lane_self]
    exact ((hr p h).1 l).requalify_ne (hoff hr)

theorem Kept.partnerOffline (l : Lane) : I (p.partnerOffline l) := by
  have hset := hI.event (hI.modLane h l (fun r => { r with partnerLeaving := true }) rfl fun _ hr => hr)
    .partnerOffline (some l) none (BitVec.ofNat 16 (p.lane l).state.code)
  unfold Part.partnerOffline; split
  · exact h
  · dsimp only
    refine hI.judgeReturns ?_ l
    split
    · exact hset
    · exact hI.leavingMoves hset l

theorem Kept.takePartner (l : Lane) (c : PartnerState) (hoff : Ranged I → (p.lane l).state ≠ .off) :
    I (p.takePartner l c) := by
  have hq := hI.modLane h l (fun r => r.withPartner c) rfl fun _ hr => hr
  cases c with
  | ok => exact hI.judgeReturns (hI.modLane hq l _ rfl fun _ hr => hr) l
  | offline => exact hI.partnerOffline hq l
  | linkFail => exact hI.forceDown hq l _ fun hr => by simpa [LaneRec.withPartner] using hoff hr
  | configError => exact hI.mismatch hq l _ _

theorem Kept.startPageTimer (l : Lane) : I (p.startPageTimer l) := hI.modLane h l _ rfl fun _ hr => hr

theorem Kept.startTraining (l : Lane) (hoff : Ranged I → (p.lane l).state = .quiet) : I (p.startTraining l) := by
  refine hI.startPageTimer (hI.place ?_ l _) l
  have hc := hI.change (p := p) l id (fun r => { r with
    training := { next := false, ownAck := false, seen := 0, last := none, toggle := !r.training.toggle, resends := 0 },
    timers := { r.timers with probe := none } }) .training id rfl (by simp) (fun hr => ?_) Part.Aside.refl h
  · rwa [p.modLane_self l id rfl] at hc
  · have hst := hoff hr
    obtain ⟨⟨hfig, hlat, herr, -, -⟩, ⟨hq, hq3⟩, ⟨hs, -⟩, hheld, hchk⟩ := (hr p h).1 l
    have hne : (p.lane l).requalify ≠ 3 := fun h3 => by simp [hst] at hq3; exact hq3 h3
    refine ⟨⟨by simpa using hfig, by simpa using hlat, by simpa using herr, by simp, by simp⟩,
      ⟨by simpa using hq, by simpa using hne⟩, ⟨by simpa using hs, by simp [LaneState.inService]⟩, ?_, ?_⟩
    · rcases (p.lane l).moved_held .training with hm | hm
      · simp [hm]
      · simpa [hm, hst] using hheld
    · rcases (p.lane l).moved_checker .training with hm | hm
      · simp [hm]
      · simpa [hm, hst] using hchk

theorem Kept.setAck (l : Lane) : I (p.setAck l) := by
  refine hI.startPageTimer (hI.place (hI.modLane h l _ rfl fun _ hr => ?_) l _) l
  obtain ⟨⟨hfig, hlat, herr, hseen, -⟩, hmore⟩ := hr
  exact ⟨⟨hfig, hlat, herr, hseen, Nat.zero_le 8⟩, hmore⟩

theorem Kept.startNext (l : Lane) : I (p.startNext l) := by
  refine hI.startPageTimer (hI.place (hI.modLane h l _ rfl fun _ hr => ?_) l _) l
  obtain ⟨⟨hfig, hlat, herr, hseen, -⟩, hmore⟩ := hr
  exact ⟨⟨hfig, hlat, herr, hseen, Nat.zero_le 8⟩, hmore⟩

theorem Kept.trainBase (l : Lane) (ack : Bool) (g : BasePage) : I (p.trainBase l ack g) := by
  have hq := hI.modLane h l (fun r => { r with training := r.training.sees g }) rfl fun _ hr => by
    obtain ⟨⟨hfig, hlat, herr, -, hres⟩, hmore⟩ := hr
    exact ⟨⟨hfig, hlat, herr, Training.sees_seen _ _, by simpa [Training.sees_resends] using hres⟩, hmore⟩
  unfold Part.trainBase
  dsimp only
  split
  · exact hq
  · split
    · split
      · exact hI.startNext hq l
      · exact hq
    · split
      · exact hI.setAck hq l
      · exact hq

theorem Kept.takeBasePage (l : Lane) (ack : Bool) (g : BasePage) (hoff : Ranged I → (p.lane l).state ≠ .off) :
    I (p.takeBasePage l ack g) := by
  unfold Part.takeBasePage; split
  · exact hI.mismatch (hI.modLane h l _ rfl fun _ hr => hr) l _ _
  · have hq := hI.modLane (hI.takePartner h l g.partner hoff) l (fun r => { r with page := some g }) rfl fun _ hr => hr
    dsimp only
    split
    · exact hI.trainBase hq l ack g
    · exact hq

/-! ### Qualification -/

theorem Kept.startQualify (l : Lane) (hoff : Ranged I → (p.lane l).state ≠ .off) : I (p.startQualify l) := by
  have hc := fun enter henter hrange => hI.change (p := p) l id enter .qualify id rfl henter hrange Part.Aside.refl h
  rw [p.modLane_self l id rfl] at hc
  refine hc _ (by simp) fun hr => ?_
  obtain ⟨⟨hfig, hlat, -, hseen, hres⟩, ⟨hq, hq3⟩, ⟨hs, -⟩, -, -⟩ := (hr p h).1 l
  have hne : (p.lane l).requalify ≠ 3 := fun h3 => hoff hr (hq3 h3)
  exact ⟨⟨by simpa using hfig, by simpa using hlat, by simp, by simpa using hseen, by simpa using hres⟩,
    ⟨by simpa using hq, by simpa using hne⟩, ⟨by simpa using hs, by simp [LaneState.inService]⟩, by simp, by simp⟩

theorem Kept.qualifyFail (l : Lane) (hstate : Ranged I → (p.lane l).state = .qualify) : I (p.qualifyFail l) := by
  have hraised := hI.raise h (.lane l .qualifyFailures)
  unfold Part.qualifyFail
  dsimp only
  split
  · refine hI.change l (fun r => { r with requalify := r.requalify + 1 }) _ .off _ rfl (by simp) (fun hr => ?_)
      (aside_laneEvent _ _ _) hraised
    have hlane := (hr p h).1 l
    have hne : (p.lane l).requalify ≠ 3 := hlane.requalify_ne (by simp [hstate hr])
    obtain ⟨hnum, ⟨hq, -⟩, ⟨hs, -⟩, -, -⟩ := hlane
    have hout := LaneRec.moved_out (r := { p.lane l with requalify := (p.lane l).requalify + 1 }) (new := .off)
      (.inr (.inr rfl))
    refine ⟨by simpa using hnum, ⟨by simp; omega, by simp⟩, ⟨by simpa using hs, by simp [LaneState.inService]⟩,
      by simp [hout.1, Timers.stopped], by simp [hout.2.1]⟩
  · next hbelow =>
    refine hI.enterDown (hI.modLane hraised l _ rfl fun _ hr => ?_) l _ _ fun hr => ?_
    · obtain ⟨hnum, -, hmore⟩ := hr
      have hlow : (p.lane l).requalify ≤ 1 := by simpa using hbelow
      refine ⟨hnum, ⟨?_, ?_⟩, hmore⟩ <;> simp only [Part.raise_lane] <;> omega
    · simp only [Part.modLane_lane_self, Part.raise_lane] at hbelow ⊢
      omega

theorem Kept.judgeQualify (l : Lane) (hstate : Ranged I → (p.lane l).state = .qualify)
    (hchk : Ranged I → (p.lane l).checker = none) : I (p.judgeQualify l) := by
  unfold Part.judgeQualify; split
  · have hc := fun enter henter hrange => hI.change (p := p.raise (.lane l .qualifyPasses)) l id enter .active
      (laneEvent .laneUp l 1) rfl henter hrange (aside_laneEvent _ _ _) (hI.raise h _)
    rw [Part.modLane_self _ l id rfl] at hc
    refine hc _ (by simp [LaneRec.freshStorm]) fun hr => ?_
    simpa using ((hr p h).1 l).qualified (hchk hr) (by simp [hstate hr]) p.now
  · exact hI.qualifyFail h l hstate

theorem Kept.endDiagnostic (l : Lane) (b : Burst) : I (p.endDiagnostic l b) := by
  have hport : p.Aside { p with port := { p.port with burst := none } } := .of_eq rfl rfl rfl rfl rfl rfl
  exact hI.aside (hport.trans (Part.aside_respond _ _ _)) h

theorem Kept.endBurst (l : Lane) (b : Burst) (hstate : Ranged I → b.owner = .qualify → (p.lane l).state = .qualify) :
    I (p.endBurst l b) := by
  have hq := hI.modLane h l (fun r => { r with checker := none, timers := { r.timers with qualify := none } }) rfl
    fun _ hr => by
      obtain ⟨hnum, hrq, hs, hheld, -⟩ := hr
      exact ⟨hnum, hrq, hs, hheld, by simp⟩
  unfold Part.endBurst
  dsimp only
  split
  · next ho => exact hI.judgeQualify hq l (fun hr => by simpa using hstate hr ho) (fun _ => by simp)
  · exact hI.endDiagnostic hq l b

theorem Kept.check (l : Lane) (payload : List Byte) : I (p.check l payload) := by
  unfold Part.check; split
  · exact hI.raise h _
  · next b hb =>
    have hq := hI.modLane h l (fun r =>
      { r with errorBytes := min 255 (r.errorBytes + differing payload (burstPayload b.compared)),
               checker := some { b with compared := b.compared + 1 } }) rfl fun _ hr => by
      obtain ⟨⟨hfig, hlat, -, hrest⟩, hrq, hs, hheld, hchk⟩ := hr
      refine ⟨⟨hfig, hlat, min_le_left _ _, hrest⟩, hrq, hs, hheld, fun b' hb' ho => hchk b hb ?_⟩
      obtain rfl : { b with compared := b.compared + 1 } = b' := by simpa using hb'
      exact ho
    dsimp only
    split
    · exact hI.endBurst hq l _ fun hr ho => by simpa using ((hr p h).1 l).2.2.2.2 b hb ho
    · exact hq

theorem Kept.expireBurst (l : Lane) (b : Burst) (hb : (p.lane l).checker = some b) : I (p.expireBurst l b) := by
  refine hI.endBurst (hI.modLane h l _ rfl fun _ hr => ?_) l b fun hr ho => ?_
  · obtain ⟨⟨hfig, hlat, -, hrest⟩, hmore⟩ := hr
    exact ⟨⟨hfig, hlat, min_le_left _ _, hrest⟩, hmore⟩
  · simpa using ((hr p h).1 l).2.2.2.2 b hb ho

/-! ### Restarts -/

theorem Kept.restartLane (l : Lane) : I (p.restartLane l) := hI.enterQuiet h l (aside_laneEvent _ _ _)

theorem Kept.judgeRestart (l : Lane) : I (p.judgeRestart l) := by
  unfold Part.judgeRestart; split
  · exact hI.restartLane h l
  · exact h

theorem Kept.judgeRestarts : I p.judgeRestarts :=
  hI.judgeRestart (hI.judgeRestart (hI.judgeRestart (hI.judgeRestart h _) _) _) _

theorem Kept.judgeQuiesce : I p.judgeQuiesce := hI.aside p.aside_judgeQuiesce h

theorem Kept.settle : I p.settle := hI.judgeQuiesce (hI.judgeRestarts h)

/-! ### Departures -/

theorem Kept.poison (o : Owner) : I (p.poison o) := by
  unfold Part.poison; split
  · split
    · exact h
    · split
      · exact h
      · exact hI.event (hI.stream _ _ rfl rfl (fun _ => .of_map rfl (fun x _ => by
          split
          · exact ⟨rfl, rfl, rfl, fun _ ha => ha⟩
          · exact .refl x) rfl rfl) h) _ _ _ _
  · split
    · exact h
    · split
      · exact h
      · refine hI.event (hI.stream _ _ rfl rfl (fun _ => ⟨forall₂_like_refl _, forall₂_like_map_held fun x _ => ?_,
          .inl rfl⟩) h) _ _ _ _
        split
        · exact ⟨rfl, rfl, rfl⟩
        · exact .refl x

theorem Kept.checkBlock (b : BlockIx) (c : BlockCheck) : I (p.checkBlock b c) := by
  cases c with
  | clean => exact h
  | corrected => exact hI.raise h _
  | uncorrectable asRead =>
    unfold Part.checkBlock
    dsimp only
    split
    · exact hI.poison (hI.aside (p.aside_writeBlock b asRead) h) _
    · exact hI.aside (p.aside_writeBlock b _) h

omit h in
theorem Kept.checkBlocks (bs : List BlockIx) (cs : List BlockCheck) : ∀ {p : Part}, I p → I (p.checkBlocks bs cs) := by
  induction bs generalizing cs with
  | nil => exact id
  | cons b bs ih =>
    intro p h
    cases cs with
    | nil => exact h
    | cons c cs => exact ih cs (hI.checkBlock h b c)

theorem Kept.readBlocks (bs : List BlockIx) (reads : List BlockCheck) : I (p.readBlocks bs reads) := by
  unfold Part.readBlocks; split
  · exact h
  · exact hI.checkBlocks bs reads h

theorem Kept.emit (l : Lane) (f : Frame) (queue : List Frame) : I (p.emit l f queue) :=
  hI.raise (hI.modLane h l _ rfl fun _ hr => hr) _

theorem Kept.noteSent (l : Lane) (n : StreamId) (s : Seq) (epoch : Epoch) : I (p.noteSent l n s epoch) := by
  refine hI.stream n _ rfl rfl (fun _ => .of_map rfl (fun e _ => ?_) rfl rfl) h
  split
  · refine ⟨rfl, rfl, rfl, fun m ha => ?_⟩
    obtain ⟨hstream, hfate⟩ := ha
    exact ⟨hstream, by simp [OttEntry.sent, hfate]⟩
  · exact .refl e

theorem Kept.departRequest (l : Lane) (f : Frame) (queue : List Frame) (reads : List BlockCheck) :
    I (p.departRequest l f queue reads) := by
  unfold Part.departRequest
  dsimp only
  split
  · exact hI.emit h l f queue
  · exact hI.settle (hI.judgeReplay (hI.noteSent (hI.emit (hI.readBlocks h _ _) _ _ _) _ _ _ _) _)

theorem Kept.departAsk (l : Lane) (f : Frame) (queue : List Frame) : I (p.departAsk l f queue) := by
  refine hI.edit (hI.emit h l f queue) _ _ ?_ ?_ ?_ ?_ ?_ <;> split <;> rfl

theorem Kept.departTest (l : Lane) (f : Frame) (queue : List Frame) : I (p.departTest l f queue) := by
  refine hI.modLane (hI.emit h l f queue) l _ ?_ fun _ hr => ?_
  · split
    · rfl
    · split <;> rfl
  · split
    · exact hr
    · next b hb =>
      split
      · obtain ⟨hnum, hrq, hs, hheld, hchk⟩ := hr
        refine ⟨hnum, hrq, hs, hheld, fun b' hb' ho => hchk b hb ?_⟩
        obtain rfl : { b with sent := b.sent + 1 } = b' := by simpa using hb'
        exact ho
      · exact hr

theorem Kept.depart (l : Lane) (reads : List BlockCheck) : I (p.depart l reads) := by
  unfold Part.depart; split
  · exact h
  · split
    · exact hI.departRequest h l _ _ reads
    · exact hI.departAsk h l _ _
    · exact hI.departTest h l _ _
    · exact hI.emit h l _ _

end

end Sys2Proof.Machine
end

section
/-! What an event leaves of the stream records besides its own work: return timers judged again, held requests
dispatched. -/

namespace Sys2Proof.Machine

/-! ### Return timers -/

/-- Nothing but return timers has changed (R141). -/
structure Part.Retimed (p q : Part) : Prop where
  rest : q = { p with engine := { p.engine with streams := q.engine.streams } }
  stream : ∀ n, q.stream n = { p.stream n with returnTimer := (q.stream n).returnTimer }

theorem Part.Retimed.refl (p : Part) : p.Retimed p := ⟨rfl, fun _ => rfl⟩

theorem Part.Retimed.trans {p q r : Part} (h : p.Retimed q) (k : q.Retimed r) : p.Retimed r where
  rest := calc r = { q with engine := { q.engine with streams := r.engine.streams } } := k.rest
    _ = { p with engine := { p.engine with streams := r.engine.streams } } := by rw [h.rest]
  stream n := calc r.stream n = { q.stream n with returnTimer := (r.stream n).returnTimer } := k.stream n
    _ = { p.stream n with returnTimer := (r.stream n).returnTimer } := by rw [h.stream n]

theorem Part.Retimed.lanes {p q : Part} (h : p.Retimed q) : q.lanes = p.lanes := by rw [h.rest]
theorem Part.Retimed.lane {p q : Part} (h : p.Retimed q) (l : Lane) : q.lane l = p.lane l := by rw [h.rest]; rfl
theorem Part.Retimed.log {p q : Part} (h : p.Retimed q) : q.log = p.log := by rw [h.rest]
theorem Part.Retimed.sides {p q : Part} (h : p.Retimed q) : q.sides = p.sides := by rw [h.rest]

theorem Part.Retimed.streamsOnly {p q : Part} (h : p.Retimed q) : p.StreamsOnly q := by
  constructor
  case lane => intro l; rw [h.lane l]
  all_goals rw [h.rest]

theorem Part.retimed_modStream (p : Part) (n : StreamId) (t : Option Micros) :
    p.Retimed (p.modStream n (fun r => { r with returnTimer := t })) where
  rest := rfl
  stream m := by rw [Part.modStream_stream]; split <;> rfl

theorem Part.retimed_judgeReturn (p : Part) (n : StreamId) : p.Retimed (p.judgeReturn n) := by
  unfold Part.judgeReturn; split
  · split
    · exact .refl p
    · exact p.retimed_modStream n _
  · exact p.retimed_modStream n _

theorem Part.retimed_foldl {α : Type} (f : Part → α → Part) (hf : ∀ (q : Part) (x : α), q.Retimed (f q x)) (xs : List α) :
    ∀ p : Part, p.Retimed (xs.foldl f p) := by
  induction xs with
  | nil => exact Part.Retimed.refl
  | cons x xs ih => exact fun p => (hf p x).trans (ih (f p x))

theorem Part.retimed_judgeReturns (p : Part) (l : Lane) : p.Retimed (p.judgeReturns l) :=
  Part.retimed_foldl _ (fun q n => by
    split
    · exact q.retimed_judgeReturn n
    · exact .refl q) _ p

/-! ### Lanes that carry nothing -/

theorem Part.carries_eq_false_iff (p : Part) (l : Lane) :
    p.carries l = false ↔ ∀ n, (p.stream n).carrier ≠ some l := by
  simp [Part.carries, allStreams, List.any_eq_false]

/-- A fold that each stream leaves alone. -/
theorem foldl_eq_self {α β : Type} {f : α → β → α} {xs : List β} {a : α} (h : ∀ x ∈ xs, f a x = a) : xs.foldl f a = a := by
  induction xs with
  | nil => rfl
  | cons x xs ih =>
    rw [List.foldl_cons, h x (List.mem_cons_self ..)]
    exact ih fun y hy => h y (List.mem_cons_of_mem _ hy)

/-- With no stream on a lane there is nothing to take into failover (R115). -/
theorem Part.failoverAll_of_not_carried (p : Part) (l : Lane) (h : ∀ n, (p.stream n).carrier ≠ some l) :
    p.failoverAll l = p :=
  foldl_eq_self fun n _ => if_neg (h n)

@[simp] theorem Part.updateSide_engine (p : Part) (l : Lane) : (p.updateSide l).engine = p.engine := by
  unfold Part.updateSide; dsimp only; split
  · simp
  · split <;> simp

@[simp] theorem Part.sideTakes_engine (p : Part) (l : Lane) (old new : LaneState) :
    (p.sideTakes l old new).engine = p.engine := by
  unfold Part.sideTakes; dsimp only; rw [Part.updateSide_engine]
  split <;> split <;> simp [Part.noteLoss, Part.markSuspect]

/-- A change of lane state reaches no stream by itself. -/
theorem Part.moveLane_engine (p : Part) (l : Lane) (new : LaneState) (enter : LaneRec → LaneRec) {log : Part → Part}
    (hlog : ∀ q : Part, (log q).engine = q.engine) : (p.moveLane l new enter log).engine = p.engine := by
  simp [Part.moveLane, hlog]

theorem Part.moveLane_stream (p : Part) (l : Lane) (new : LaneState) (enter : LaneRec → LaneRec) {log : Part → Part}
    (hlog : ∀ (q : Part) n, (log q).stream n = q.stream n) (n : StreamId) :
    (p.moveLane l new enter log).stream n = p.stream n := by
  rw [Part.moveLane, Part.stream, Part.sideTakes_engine]
  exact hlog _ n

theorem laneEvent_engine (k : EventKind) (l : Lane) (d : BitVec 16) (p : Part) : (laneEvent k l d p).engine = p.engine := rfl
theorem laneEvent_stream (k : EventKind) (l : Lane) (d : BitVec 16) (p : Part) (n : StreamId) :
    (laneEvent k l d p).stream n = p.stream n := rfl
theorem laneEvent_lanes (k : EventKind) (l : Lane) (d : BitVec 16) (p : Part) : (laneEvent k l d p).lanes = p.lanes := rfl

theorem Part.streamsOnly_streamsTake (p : Part) (l : Lane) (old new : LaneState) : p.StreamsOnly (p.streamsTake l old new) := by
  have hfail : p.StreamsOnly (if old.inService = true ∧ new.inService = false then p.failoverAll l else p) := by
    split
    · exact p.streamsOnly_failoverAll l
    · exact .refl p
  unfold Part.streamsTake
  dsimp only
  refine Part.StreamsOnly.trans ?_ (Part.streamsOnly_judgeReturns _ l)
  split
  · exact hfail.trans (Part.streamsOnly_releaseStalled _)
  · exact hfail

/-- The record of a lane after a change of its state, but for its queue, to which the streams may add ASK frames. -/
theorem Part.changeLane_lane_self (p : Part) (l : Lane) (new : LaneState) (enter : LaneRec → LaneRec) {log : Part → Part}
    (hlog : ∀ q : Part, (log q).lanes = q.lanes) :
    (p.changeLane l new enter log).lane l =
      { enter ((p.lane l).moved new) with queue := ((p.changeLane l new enter log).lane l).queue } := by
  rw [← p.moveLane_lane_self l new enter hlog]
  exact (Part.streamsOnly_streamsTake _ l _ new).lane l

theorem Part.changeLane_state (p : Part) (l : Lane) (new : LaneState) (enter : LaneRec → LaneRec) {log : Part → Part}
    (hlog : ∀ q : Part, (log q).lanes = q.lanes) :
    ((p.changeLane l new enter log).lane l).state = (enter ((p.lane l).moved new)).state := by
  rw [p.changeLane_lane_self l new enter hlog]

theorem Part.changeLane_lane_of_ne (p : Part) {l m : Lane} (h : m ≠ l) (new : LaneState) (enter : LaneRec → LaneRec)
    {log : Part → Part} (hlog : ∀ q : Part, (log q).lanes = q.lanes) :
    (p.changeLane l new enter log).lane m =
      { p.lane m with queue := ((p.changeLane l new enter log).lane m).queue } := by
  rw [← p.moveLane_lane_of_ne h new enter hlog]
  exact (Part.streamsOnly_streamsTake _ l _ new).lane m

/-- The streams that no lane in OFF, QUIET or DOWN carries take nothing of a change to such a state but their return
timers. -/
theorem Part.streamsTake_of_not_carried (p : Part) (l : Lane) (old new : LaneState) (hnew : new ≠ .active)
    (h : ∀ n, (p.stream n).carrier ≠ some l) : p.Retimed (p.streamsTake l old new) := by
  have hfail : (if old.inService = true ∧ new.inService = false then p.failoverAll l else p) = p := by
    rw [p.failoverAll_of_not_carried l h, ite_self]
  unfold Part.streamsTake
  dsimp only
  rw [hfail, if_neg fun hc => hnew hc.1]
  exact p.retimed_judgeReturns l

theorem Part.restartLane_streams (p : Part) (l : Lane) (h : p.carries l = false) (n : StreamId) :
    (p.restartLane l).stream n = { p.stream n with returnTimer := ((p.restartLane l).stream n).returnTimer } := by
  have hcarry := (p.carries_eq_false_iff l).mp h
  unfold Part.restartLane Part.enterQuiet Part.changeLane
  dsimp only
  generalize hq : p.moveLane l .quiet _ _ = q
  have hmove : ∀ m, q.stream m = p.stream m := fun m =>
    hq ▸ p.moveLane_stream l .quiet _ (laneEvent_stream .laneRestarted l 0) m
  rw [← hmove n]
  exact (q.streamsTake_of_not_carried l _ .quiet (by simp) fun m => by rw [hmove m]; exact hcarry m).stream n

theorem Part.judgeRestart_stream (p : Part) (l : Lane) (n : StreamId) :
    (p.judgeRestart l).stream n = { p.stream n with returnTimer := ((p.judgeRestart l).stream n).returnTimer } := by
  unfold Part.judgeRestart; split
  · next hc => exact p.restartLane_streams l hc.2 n
  · rfl

/-- What ends an event of the stream engine leaves the streams but for their return timers (R87, R143). -/
theorem Part.settle_stream (p : Part) (n : StreamId) :
    (p.settle).stream n = { p.stream n with returnTimer := ((p.settle).stream n).returnTimer } := by
  have haside := (Part.aside_judgeQuiesce p.judgeRestarts).stream n
  have h0 := p.judgeRestart_stream .a0 n
  have h1 := (p.judgeRestart .a0).judgeRestart_stream .a1 n
  have h2 := ((p.judgeRestart .a0).judgeRestart .a1).judgeRestart_stream .b0 n
  have h3 := (((p.judgeRestart .a0).judgeRestart .a1).judgeRestart .b0).judgeRestart_stream .b1 n
  unfold Part.settle
  rw [haside]
  unfold Part.judgeRestarts
  rw [h2, h1, h0] at h3
  exact h3

/-! ### Held requests dispatched -/

/-- From `r` on a stream has dispatched the oldest of its held requests, as far as `r'` shows, and nothing else has
happened to it; a stream away from BOUND has dispatched none (R27). -/
structure StreamRec.Dispatched (r r' : StreamRec) : Prop where
  rest : r' = { r with hold := r'.hold, inflight := r'.inflight, nextSeq := r'.nextSeq }
  dispatched : r.dispatchedTo r'
  away : r.state ≠ .bound → r' = r

theorem StreamRec.dispatchedTo_trans {r r' r'' : StreamRec} (h : r.dispatchedTo r') (k : r'.dispatchedTo r'') :
    r.dispatchedTo r'' := by
  obtain ⟨hs, es, hhold, hin, hbecome, hseq, hnext⟩ := h
  obtain ⟨hs', es', hhold', hin', hbecome', hseq', hnext'⟩ := k
  refine ⟨hs ++ hs', es ++ es', by rw [hhold, hhold', List.append_assoc], by rw [hin', hin, List.append_assoc],
    List.rel_append hbecome hbecome', ?_, ?_⟩
  · rw [List.map_append, hseq, hseq', List.length_append, List.range_add, List.map_append, List.map_map, hnext]
    refine congrArg _ (List.map_congr_left fun k _ => ?_)
    simp [BitVec.ofNat_add, BitVec.add_assoc]
  · rw [hnext', hnext, List.length_append, BitVec.ofNat_add, BitVec.add_assoc]

theorem StreamRec.Dispatched.refl (r : StreamRec) : r.Dispatched r := ⟨rfl, StreamRec.dispatchedTo_refl r, fun _ => rfl⟩

theorem StreamRec.Dispatched.trans {r r' r'' : StreamRec} (h : r.Dispatched r') (k : r'.Dispatched r'') :
    r.Dispatched r'' where
  rest := calc r'' = { r' with hold := r''.hold, inflight := r''.inflight, nextSeq := r''.nextSeq } := k.rest
    _ = { r with hold := r''.hold, inflight := r''.inflight, nextSeq := r''.nextSeq } := by rw [h.rest]
  dispatched := StreamRec.dispatchedTo_trans h.dispatched k.dispatched
  away hne := by
    have hr' := h.away hne
    rw [k.away (hr' ▸ hne), hr']

theorem StreamRec.Dispatched.state {r r' : StreamRec} (h : r.Dispatched r') : r'.state = r.state := by rw [h.rest]
theorem StreamRec.Dispatched.carrier {r r' : StreamRec} (h : r.Dispatched r') : r'.carrier = r.carrier := by rw [h.rest]

theorem Part.headReady_bound {p : Part} {n : StreamId} (h : p.headReady n = true) : (p.stream n).state = .bound := by
  unfold Part.headReady at h
  split at h
  · simp at h
  · simpa using (Bool.and_eq_true_iff.mp h).1

theorem Part.headReady_hold {p : Part} {n : StreamId} (h : p.headReady n = true) :
    ∃ x hs, (p.stream n).hold = x :: hs := by
  unfold Part.headReady at h
  split at h
  · simp at h
  · next x hs heq => exact ⟨x, hs, heq⟩

theorem Part.newEntry_of_held (p : Part) (n : StreamId) (i : EntryIx) (h : Held) : h.becomes (p.newEntry n i h.work) :=
  ⟨rfl, rfl, rfl, rfl, rfl, rfl, rfl, rfl, rfl, rfl⟩

theorem Part.dispatchHead_dispatched (p : Part) (n : StreamId) (hready : p.headReady n = true)
    (hfree : p.engine.freeEntries ≠ []) (m : StreamId) : (p.stream m).Dispatched ((p.dispatchHead n).stream m) := by
  obtain ⟨x, hs, hhold⟩ := Part.headReady_hold hready
  obtain ⟨i, rest, hfree⟩ := List.exists_cons_of_ne_nil hfree
  rw [p.dispatchHead_stream hhold hfree]
  split
  · next hm =>
    subst hm
    refine ⟨rfl, ⟨[x], [p.newEntry m i x.work], by simp [hhold], rfl, .cons (p.newEntry_of_held m i x) .nil, ?_, rfl⟩,
      fun hne => absurd (Part.headReady_bound hready) hne⟩
    simp [Part.newEntry]
  · exact .refl _

theorem Part.dispatchHeld_dispatched (n : StreamId) (k : Nat) : ∀ (p : Part) (m : StreamId),
    (p.stream m).Dispatched ((p.dispatchHeld n k).stream m) := by
  induction k with
  | zero => exact fun p m => .refl _
  | succ k ih =>
    intro p m
    unfold Part.dispatchHeld; split
    · next hc => exact (p.dispatchHead_dispatched n hc.1 hc.2 m).trans (ih _ m)
    · exact .refl _

theorem Part.arbitrate_dispatched (k : Nat) : ∀ (p : Part) (m : StreamId),
    (p.stream m).Dispatched ((p.arbitrate k).stream m) := by
  induction k with
  | zero => exact fun p m => .refl _
  | succ k ih =>
    intro p m
    unfold Part.arbitrate; split
    · exact .refl _
    · next hfree =>
      split
      · exact .refl _
      · next n hn =>
        have hrest := ih ((p.dispatchHead n).modEngine (fun g => { g with lastServed := n })) m
        rw [Part.modEngine_stream _ _ rfl] at hrest
        exact (p.dispatchHead_dispatched n (List.find?_some hn) hfree m).trans hrest

/-- The arbiter does nothing to a stream but dispatch the oldest of its held requests (R28). -/
theorem Part.serve_dispatched (p : Part) (n : StreamId) : (p.stream n).Dispatched (p.serve.stream n) :=
  p.arbitrate_dispatched 64 n

end Sys2Proof.Machine
end

section
/-! The events of the stream engine, the timers, the patrol, the intake and the management port keep what the moves
keep, and so does every command. -/

namespace Sys2Proof.Machine

variable {I : Part → Prop}

section

variable (hI : Kept I) {p : Part} (h : I p)
include hI h

/-! ### Answers -/

theorem Kept.compareRejections (n : StreamId) (l : Lane) (count : BitVec 8) : I (p.compareRejections n l count) := by
  unfold Part.compareRejections; split
  · exact h
  · exact hI.event (hI.edit h n _ rfl rfl rfl rfl rfl) _ _ _ _

theorem Kept.noteRejections (n : StreamId) (l : Lane) (e : OttEntry) (st : AnswerStatus) (count : BitVec 8) :
    I (p.noteRejections n l e st count) := by
  unfold Part.noteRejections
  refine hI.compareRejections ?_ n l count
  split
  · exact hI.edit h n _ rfl rfl rfl rfl rfl
  · exact h

theorem Kept.applyMark (n : StreamId) (s : Seq) : I (p.applyMark n s) :=
  hI.retireWrites (hI.edit h n (fun r => { r with mark := some (advanceMark (p.stream n).mark s) }) rfl rfl rfl rfl rfl)
    n _ _

theorem Kept.judgeMissing (n : StreamId) (s : Seq) : I (p.judgeMissing n s) := by
  unfold Part.judgeMissing; split
  · exact hI.rewind h n _
  · exact h

theorem Kept.retireAnswered (n : StreamId) (e : OttEntry)
    (he : Pooled I → e.kind ≠ .write → ∃ x ∈ (p.stream n).inflight, x.index = e.index ∧ x.blocks = e.blocks) :
    I (p.retireAnswered n e) := by
  unfold Part.retireAnswered; split
  · exact h
  · next hw => exact hI.retire n e (fun hp => he hp hw) h

theorem Kept.afterAnswer (n : StreamId) (freeBefore : Nat) : I (p.afterAnswer n freeBefore) :=
  hI.settle (hI.judgeDrain (hI.judgeReplay (hI.serve (hI.dispatchHeld n freeBefore h)) n) n)

end

/-- A rewind leaves each entry's place and blocks. -/
theorem Part.rewind_inflight (p : Part) (n : StreamId) (c : RewindCause) {e : OttEntry} (he : e ∈ (p.stream n).inflight) :
    ∃ x ∈ ((p.rewind n c).stream n).inflight, x.index = e.index ∧ x.blocks = e.blocks := by
  unfold Part.rewind; split
  · refine ⟨e.requeued, ?_, rfl, rfl⟩
    simp only [Part.rewindOn, Part.report_stream, Part.bind_stream_self, StreamRec.rebound_inflight, Part.raise_stream,
      Part.event_stream]
    exact List.mem_map_of_mem he
  · exact ⟨e, he, rfl, rfl⟩

/-- An answered READ or SWAP stays on the in-flight list until it retires: the mark retires WRITEs alone. -/
theorem Part.answered_in_flight (p : Part) (n : StreamId) (l : Lane) (s : Seq) (st : AnswerStatus) (payload : List Byte)
    {e : OttEntry} (hpool : p.poolsHold) (he : e ∈ (p.stream n).inflight) (hw : e.kind ≠ .write) :
    ∃ x ∈ ((((p.applyMark n s).judgeMissing n s).completeEntry n l e st payload).stream n).inflight,
      x.index = e.index ∧ x.blocks = e.blocks := by
  have hmark : e ∈ ((p.applyMark n s).stream n).inflight := by
    unfold Part.applyMark
    dsimp only
    rw [Part.retireWrites_stream _ _ _ _ _ (by simpa using hpool.index_nodup n), if_pos rfl]
    exact List.mem_filter.mpr ⟨by simpa using he, by simp [hw]⟩
  rw [(Part.aside_completeEntry _ n l e st payload).stream n]
  unfold Part.judgeMissing; split
  · exact Part.rewind_inflight _ n _ hmark
  · exact ⟨e, hmark, rfl, rfl⟩

section

variable (hI : Kept I) {p : Part} (h : I p)
include hI h

theorem Kept.takeMatched (n : StreamId) (l : Lane) (e : OttEntry) (hd : Header) (payload : List Byte)
    (he : e ∈ (p.stream n).inflight) : I (p.takeMatched n l e hd payload) := by
  have hcompleted := hI.aside (Part.aside_completeEntry _ n l e (answerStatus e hd payload) payload)
    (hI.judgeMissing (hI.applyMark h n hd.seq) n hd.seq)
  exact hI.afterAnswer (hI.aside (Part.aside_sampleOf _ l e) (hI.noteRejections (hI.retireAnswered hcompleted n e
    fun hp hw => p.answered_in_flight n l hd.seq _ payload (hp p h) he hw) n l e _ _)) n _

theorem Kept.takeAnswer (n : StreamId) (l : Lane) (hd : Header) (payload : List Byte) :
    I (p.takeAnswer n l hd payload) := by
  have hq := hI.aside (p.aside_countDuplicate n hd) h
  unfold Part.takeAnswer
  dsimp only
  split
  · exact hI.raise hq _
  · next e he =>
    refine hI.takeMatched hq n l e hd payload ?_
    rw [(p.aside_countDuplicate n hd).stream n]
    exact List.mem_of_find?_eq_some he

/-! ### TELL and GAP -/

theorem Kept.filtered (n : StreamId) (l : Lane) (hd : Header) (takes : StreamState → Bool) {act : Part → Part}
    (hact : (p.stream n).carrier = some l → I (act p)) : I (p.filtered n l hd takes act) := by
  unfold Part.filtered; split
  · exact hI.raise h _
  · split
    · exact hI.raise h _
    · next hc => exact hact (Classical.not_not.mp fun hne => hc (.inl hne))

end

/-- The mark's retirements leave a stream its carrier. -/
theorem Part.retireWrites_carrier (p : Part) (n m : StreamId) (mark : Seq) (own : Option Seq) :
    ((p.retireWrites n mark own).stream m).carrier = (p.stream m).carrier := by
  unfold Part.retireWrites
  rw [Part.foldl_retireWrite_stream]
  split <;> rfl

theorem Part.compareRejections_stream (p : Part) (n m : StreamId) (l : Lane) (count : BitVec 8) :
    (p.compareRejections n l count).stream m =
      if m = n then { p.stream m with rejections := count } else p.stream m := by
  unfold Part.compareRejections; split
  · next heq =>
    split
    · next hm => subst hm; rw [← heq]
    · rfl
  · simp [Part.modStream_stream]

theorem Part.startTraining_state (p : Part) (l : Lane) : ((p.startTraining l).lane l).state = .training := by
  simp [Part.startTraining, Part.startPageTimer, p.changeLane_state l .training _ (log := id) fun _ => rfl]

section

variable (hI : Kept I) {p : Part} (h : I p)
include hI h

theorem Kept.continueBinding (n : StreamId) (hc : (p.stream n).carrier ≠ none ∨ (p.stream n).state.carried = true) :
    I (p.continueBinding n) := by
  unfold Part.continueBinding; split
  · exact hI.endBinding h n hc
  · exact hI.replay h n hc

theorem Kept.acceptTell (n : StreamId) (l : Lane) (hd : Header) (hc : (p.stream n).carrier ≠ none) :
    I (p.acceptTell n l hd) := by
  refine hI.continueBinding (hI.serve (hI.compareRejections (hI.edit (hI.retireWrites
    (hI.edit h n (fun r => { r with mark := some hd.mark }) rfl rfl rfl rfl rfl) n _ _) n _ rfl rfl rfl rfl rfl) n l _))
    n (.inl ?_)
  rw [(Part.serve_dispatched _ n).carrier, Part.compareRejections_stream, if_pos rfl]
  simpa [Part.retireWrites_carrier] using hc

theorem Kept.judgeTell (n : StreamId) (l : Lane) (hd : Header) (hc : (p.stream n).carrier ≠ none) :
    I (p.judgeTell n l hd) := by
  unfold Part.judgeTell; split
  · next hfresh =>
    refine hI.endBinding (hI.stream n _ rfl rfl (fun _ => ?_) h) n (.inl (by simpa [StreamRec.freshTell] using hc))
    exact ⟨forall₂_like_refl _, forall₂_held_refl _, .inr hfresh.2⟩
  · split
    · exact hI.fault (hI.compareRejections h n l _) n _ _
    · exact hI.acceptTell h n l hd hc

theorem Kept.takeTell (n : StreamId) (l : Lane) (hd : Header) (hc : (p.stream n).carrier ≠ none) :
    I (p.takeTell n l hd) :=
  hI.settle (hI.judgeTell (hI.edit h n (fun r => { r with askTimer := none, askAttempts := 0 }) rfl rfl rfl rfl rfl) n l hd
    (by simpa using hc))

theorem Kept.takeGap (n : StreamId) : I (p.takeGap n) := hI.settle (hI.rewind h n _)

theorem Kept.engineTakes (l : Lane) (f : Frame) : I (p.engineTakes l f) := by
  unfold Part.engineTakes
  dsimp only
  split
  · exact hI.filtered h _ _ _ _ fun _ => hI.takeAnswer h _ _ _ _
  · exact hI.filtered h _ _ _ _ fun hc => hI.takeTell h _ _ _ (by simp [hc])
  · exact hI.filtered h _ _ _ _ fun _ => hI.takeGap h _
  · exact h

/-! ### Frames received -/

theorem Kept.takeBeat (l : Lane) (c : PartnerState) : I (p.takeBeat l c) := by
  unfold Part.takeBeat
  cases hs : (p.lane l).state with
  | off | quiet | down => exact h
  | training | qualify | active | degraded | held => exact hI.takePartner h l c fun _ => by simp [hs]

theorem Kept.takeBase (l : Lane) (f : Frame) : I (p.takeBase l f) := by
  unfold Part.takeBase
  dsimp only
  cases hs : (p.lane l).state with
  | off | down => exact h
  | quiet =>
    refine hI.takeBasePage (hI.startTraining h l fun _ => hs) l _ _ fun _ => ?_
    rw [p.startTraining_state]
    simp
  | training => exact hI.takeBasePage h l _ _ fun _ => by simp [hs]
  | qualify | active | degraded | held => exact hI.takePartner h l _ fun _ => by simp [hs]

theorem Kept.takeNext (l : Lane) (f : Frame) : I (p.takeNext l f) := by
  unfold Part.takeNext
  dsimp only
  split
  · next hc =>
    refine hI.startQualify (hI.modLane h l _ rfl fun _ hr => ?_) l fun _ => by simp [hc.1]
    obtain ⟨⟨hfig, hlat, herr, hseen, -⟩, hmore⟩ := hr
    exact ⟨⟨hfig, hlat, herr, hseen, Nat.zero_le 8⟩, hmore⟩
  · exact h

theorem Kept.takePause (l : Lane) (time : BitVec 16) : I (p.takePause l time) := by
  unfold Part.takePause; split
  · exact hI.raise (hI.modLane h l _ rfl fun _ hr => hr) _
  · exact h

theorem Kept.byKind (l : Lane) (f : Frame) : I (p.byKind l f) := by
  unfold Part.byKind
  cases f.kind with
  | answer | tell | gap => exact hI.engineTakes h l f
  | beat => exact hI.takeBeat h l _
  | page =>
    dsimp only
    split
    · exact hI.takeBase h l f
    · exact hI.takeNext h l f
  | test =>
    dsimp only
    split
    · exact hI.place h l _
    · exact hI.check h l _
  | pause => exact hI.takePause h l _
  | request | ask | probe | other => exact hI.raise h _

theorem Kept.inService (l : Lane) (f : Frame) : I (p.inService l f) := by
  unfold Part.inService; split
  · exact hI.raise h _
  · split
    · exact hI.raise h _
    · exact hI.byKind h l f

theorem Kept.inOff (l : Lane) (f : Frame) : I (p.inOff l f) := by
  unfold Part.inOff; split
  · exact hI.enterQuiet h l (aside_laneEvent _ _ _)
  · exact h

theorem Kept.inLoopback (l : Lane) (f : Frame) : I (p.inLoopback l f) := by
  unfold Part.inLoopback; split
  · exact hI.check h l _
  · exact hI.raise h _

theorem Kept.violated (l : Lane) (violation : Bool) : I (p.violated l violation) := by
  unfold Part.violated; split
  · exact hI.addWeight (hI.raise h _) l 2
  · exact h

theorem Kept.unloop (l : Lane) : I (p.modLane l LaneRec.unloop) := by
  refine hI.modLane h l _ ?_ fun _ hr => ?_ <;> unfold LaneRec.unloop <;> split
  · rfl
  · rfl
  · exact hr
  · exact hr

theorem Kept.arrive (l : Lane) (f : Frame) (violation : Bool) : I (p.arrive l f violation) := by
  have hheard : I ((((p.modLane l LaneRec.unloop).raise (.lane l .framesReceived)).violated l violation).heard l) :=
    hI.modLane (hI.violated (hI.raise (hI.unloop h l) _) l violation) l _ rfl fun _ hr => hr
  unfold Part.arrive Part.receive
  dsimp only
  split
  · split
    · exact hI.inLoopback hheard l f
    · split
      · exact hI.inOff hheard l f
      · exact hI.inService hheard l f
  · exact h

theorem Kept.arriveBad (l : Lane) (violation : Bool) : I (p.arriveBad l violation) := by
  have hbad := hI.raise (hI.unloop h l) (.lane l .badFrames)
  unfold Part.arriveBad Part.receiveBad
  dsimp only
  split
  · split
    · exact hI.addWeight (hI.raise hbad _) l 10
    · exact hI.addWeight hbad l 8
  · exact h

theorem Kept.loseLine (l : Lane) : I (p.loseLine l) := by
  unfold Part.loseLine
  cases hs : (p.lane l).state with
  | off | quiet | down => exact h
  | training | qualify | active | degraded | held => exact hI.forceDown h l _ fun _ => by simp [hs]

/-! ### Timers -/

theorem Kept.expire (timer : Option Micros) {act : Part → Part} (hact : ∀ t, timer = some t → I (p.reach t) → I (act (p.reach t))) :
    I (p.expire timer act) := by
  unfold Part.expire; split
  · exact h
  · next t => exact hact t rfl (hI.reach h t)

theorem Kept.modTimers (l : Lane) (f : Timers → Timers) (hheld : ∀ t, (f t).held = t.held) : I (p.modTimers l f) :=
  hI.modLane h l _ rfl fun _ hr => by
    obtain ⟨hnum, hrq, hs, hh, hchk⟩ := hr
    exact ⟨hnum, hrq, hs, by simpa [hheld] using hh, hchk⟩

theorem Kept.judgePageTimer (l : Lane) : I (p.judgePageTimer l) := by
  unfold Part.judgePageTimer; split
  · next hlow =>
    refine hI.startPageTimer (hI.modLane (hI.place h l _) l _ rfl fun _ hr => ?_) l
    obtain ⟨⟨hfig, hlat, herr, hseen, -⟩, hmore⟩ := hr
    refine ⟨⟨hfig, hlat, herr, hseen, ?_⟩, hmore⟩
    simp only [Part.place_lane_self]
    omega
  · exact hI.enterQuiet h l (aside_laneEvent _ _ _)

theorem Kept.silent (l : Lane) : I (p.silent l) := by
  have hq := hI.raise (hI.modTimers h l (fun t => { t with silence := some (p.now + 2 * p.params.beatUs) }) fun _ => rfl)
    (.lane l .silenceExpiries)
  unfold Part.silent
  dsimp only
  split
  · exact hI.addWeight hq l 128
  · exact hI.addWeight hq l 128
  · next hs => exact hI.enterDown hq l _ _ fun hr => ((hr _ hq).1 l).requalify_ne (by rw [hs]; simp)
  · next hs => exact hI.enterDown hq l _ _ fun hr => ((hr _ hq).1 l).requalify_ne (by rw [hs]; simp)
  all_goals exact hq

theorem Kept.askExpired (n : StreamId) : I (p.askExpired n) := by
  have hq := fun l => hI.report (hI.edit h n (fun r => { r with askTimer := none }) rfl rfl rfl rfl rfl)
    (.weight l .resumeTimeout)
  unfold Part.askExpired; split
  · exact h
  · next l _ =>
    dsimp only
    split
    · exact hI.place (hI.edit (hq l) n _ rfl rfl rfl rfl rfl) l _
    · exact hI.migrated (hI.bind n _ _ (.of_eq rfl rfl rfl) (hq l)) n l

theorem Kept.abandonMove (n : StreamId) (hdrain : (p.stream n).state = .draining) : I (p.abandonMove n) := by
  unfold Part.abandonMove; split
  · exact h
  · exact hI.afterBound (hI.event (hI.carried n _ rfl (.inr (by simp [hdrain, StreamState.carried])) rfl
      (.of_eq rfl rfl rfl) h) _ _ _ _) n

theorem Kept.forceMove (n : StreamId) : I (p.forceMove n) := by
  unfold Part.forceMove; split
  · exact h
  · exact hI.migrated (hI.bind n _ _ (.of_eq rfl rfl rfl) (hI.event h _ _ _ _)) n _

/-! ### The patrol -/

end

/-- What the checks do to a head they do not pass: it is refused or waits (R6). -/
theorem Part.aside_takeVerdict (p : Part) (q : HostRecord) (v : Verdict) (hv : ∀ k r, v ≠ .passes k r) :
    p.Aside (p.takeVerdict q v) := by
  unfold Part.takeVerdict
  cases v with
  | restricted => exact p.aside_refuse q .restricted Part.Aside.refl fun x => x.aside_drop none
  | malformed reason =>
    exact p.aside_refuse q .malformed (fun x => x.aside_event .malformed none none (bytePair reason q.tag.toNat))
      Part.Aside.refl
  | unrouted =>
    exact p.aside_refuse q .unrouted (fun x => x.aside_event .unrouted none none (bytePair 0 q.tag.toNat)) Part.Aside.refl
  | denied ix =>
    exact p.aside_refuse q .denied (fun x => x.aside_event .denied none none (bytePair ix.val q.tag.toNat)) Part.Aside.refl
  | faulted n => exact p.aside_refuse q .pathLost Part.Aside.refl fun x => x.aside_drop (some n)
  | waits => exact p.aside_wait
  | passes k r => exact absurd rfl (hv k r)

/-- A drain deadline runs in DRAINING alone (R131). -/
theorem Part.drainExpiry_draining {p : Part} {n : StreamId} {causes : MoveCause → Bool} {t : Micros}
    (h : p.drainExpiry n causes = some t) : (p.stream n).state = .draining := by
  unfold Part.drainExpiry at h
  split at h
  · next hs _ => exact hs
  · simp at h

theorem Part.fault_state (p : Part) (n : StreamId) (reason : BitVec 16) (failed : Option EntryIx) :
    ((p.fault n reason failed).stream n).state = .faulted := by
  rw [Part.fault, (Part.serve_dispatched _ n).state, Part.enterFaulted, Part.modStream_stream_self]
  rfl

/-- A control-state failure leaves its stream FAULTED (R170). -/
theorem Part.controlFailure_state (p : Part) (n : StreamId) (src : FailureSource) :
    ((p.controlFailure n src).stream n).state = .faulted := by
  unfold Part.controlFailure
  dsimp only
  rw [Part.settle_stream]
  dsimp only
  rw [(Part.aside_enterRestricted _ n src).stream n]
  split
  · next hf => exact hf
  · exact Part.fault_state _ n _ _

section

variable (hI : Kept I) {p : Part} (h : I p)
include hI h

theorem Kept.controlFailure (n : StreamId) (src : FailureSource) : I (p.controlFailure n src) := by
  have hnoted := hI.aside (p.aside_flushForRestriction.trans (Part.aside_modPatrol _ (fun t => { t with failed := true }))) h
  refine hI.settle (hI.aside (Part.aside_enterRestricted _ n src) ?_)
  split
  · exact hnoted
  · exact hI.fault hnoted n _ _

theorem Kept.checkRecord (n : StreamId) (c : RecordCheck) : I (p.checkRecord n c) := by
  cases c with
  | clean => exact h
  | corrected => exact hI.raise h _
  | uncorrectable epoch nextSeq rejections =>
    have hread : ∀ q : Part, I q → (q.stream n).state = .faulted →
        I (q.modStream n (fun r => r.asRead epoch nextSeq rejections)) := fun q hq hs =>
      hI.stream n _ rfl rfl (fun hp => ⟨forall₂_like_refl _, forall₂_held_refl _, .inr ((hp q hq).out n (.inr hs)).1⟩) hq
    exact hread _ (hI.controlFailure h n .record) (p.controlFailure_state n _)

theorem Kept.checkEntry (i : EntryIx) (c : EntryCheck) : I (p.checkEntry i c) := by
  cases c with
  | clean => exact h
  | corrected => exact hI.raise h _
  | uncorrectable =>
    unfold Part.checkEntry
    dsimp only
    split
    · exact hI.controlFailure h _ _
    · exact h

theorem Kept.checkItem (c : ItemCheck) : I (p.checkItem c) := by
  cases c with
  | record n found => exact hI.checkRecord h n found
  | entry i found => exact hI.checkEntry h i found
  | block b found => exact hI.checkBlock h b found

/-! ### The intake -/

/-- Removing held requests in turn, each on the list and none twice. -/
theorem Kept.foldl_unhold (n : StreamId) (hs : List Held)
    (hhs : Pooled I → (∀ x ∈ hs, x ∈ (p.stream n).hold) ∧ (hs.map Held.slot).Nodup) :
    I (hs.foldl (fun q x => q.unhold n x) p) := by
  induction hs generalizing p with
  | nil => exact h
  | cons x hs ih =>
    refine ih (hI.unhold n x (fun hp => (hhs hp).1 x (List.mem_cons_self ..)) h) fun hp => ?_
    obtain ⟨hmem, hnodup⟩ := hhs hp
    rw [List.map_cons, List.nodup_cons] at hnodup
    refine ⟨fun y hy => ?_, hnodup.2⟩
    rw [Part.unhold_stream, if_pos rfl]
    refine List.mem_filter.mpr ⟨hmem y (List.mem_cons_of_mem _ hy), bne_iff_ne.mpr fun heq => hnodup.1 ?_⟩
    exact heq ▸ List.mem_map_of_mem hy

theorem Kept.orphanStream (n : StreamId) : I (p.orphanStream n) := by
  refine hI.stream n _ rfl rfl (fun _ => .of_map rfl (fun e _ => ⟨rfl, rfl, rfl, fun m ha => ?_⟩) rfl rfl)
    (hI.foldl_unhold h n _ fun hp => ⟨fun _ hx => (List.mem_filter.mp hx).1,
      ((hp p h).slot_nodup n).sublist (List.Sublist.map _ List.filter_sublist)⟩)
  obtain ⟨hstream, hfate⟩ := ha
  exact ⟨hstream, by simp [OttEntry.orphaned, hfate]⟩

theorem Kept.orphan : I p.orphan :=
  foldl_keeps (f := fun q n => q.dispatchHeld n 64) (fun _ n hq => Kept.dispatchHeld hI n 64 hq) _
    (foldl_keeps (f := fun q n => q.orphanStream n) (fun q n hq => Kept.orphanStream (p := q) hI hq n) _ h)

/-- The examination of the intake's head: what a hand-over keeps is asked for. -/
theorem Kept.examine (hpass : ∀ q k r, q ∈ p.intake.queue → p.verdict q = .passes k r → I (p.handOver q k r)) : I p.examine := by
  unfold Part.examine
  split
  · exact h
  · next q rest hq =>
    refine hI.judgeQuiesce ?_
    by_cases hv : ∃ k r, p.verdict q = .passes k r
    · obtain ⟨k, r, hv⟩ := hv
      rw [hv]
      exact hpass q k r (by simp [hq]) hv
    · exact hI.aside (p.aside_takeVerdict q _ fun k r hkr => hv ⟨k, r, hkr⟩) h

/-! ### Management -/

theorem Kept.withOperand {α : Type} (operand : Option α) {f : α → Part} (hf : ∀ a, operand = some a → I (f a)) :
    I (p.withOperand operand f) := by
  cases operand with
  | none => exact hI.reply h _
  | some a => exact hf a rfl

theorem Kept.unbind (n : StreamId) : I (p.unbind n) := by
  unfold Part.unbind; split
  · next hc =>
    obtain ⟨hin, hhold⟩ : (p.stream n).inflight = [] ∧ (p.stream n).hold = [] := by
      simpa [StreamRec.isEmpty] using hc.2
    exact hI.ended n _ (.inl rfl) (.inl rfl) (fun _ => ⟨hin, hhold, hin, hhold⟩) h
  · exact h

theorem Kept.unbindUnrouted (n : StreamId) : I (p.unbindUnrouted n) := by
  unfold Part.unbindUnrouted; split
  · exact h
  · exact hI.unbind h n

theorem Kept.takeRoute (r : Route) : I (p.takeRoute r) := by
  have hq := hI.edit h r.stream (fun x =>
    { x with node := r.node, preferred := r.preferred, policy := r.policy,
             returnTimer := if (p.stream r.stream).preferred = r.preferred then x.returnTimer else none })
    rfl rfl rfl rfl rfl
  unfold Part.takeRoute
  dsimp only
  refine hI.judgeReturn ?_ _
  split
  · exact hq
  · exact hI.unbind hq _

theorem Kept.writeRoute (hroute : ∀ ix r, I (p.setRoute ix r)) (ix : RouteIx) (r : Route) : I (p.writeRoute ix r) := by
  have htaken := hI.takeRoute (hroute ix r) r
  unfold Part.writeRoute Part.acceptRoute
  dsimp only
  split
  · exact hI.reply h _
  · split
    · exact hI.reply h _
    · split
      · exact hI.reply h _
      · split
        · exact hI.reply h _
        · refine hI.reply ?_ _
          split
          · exact hI.unbindUnrouted htaken _
          · exact htaken

theorem Kept.clearRoute (hroute : ∀ ix r, I (p.setRoute ix r)) (ix : RouteIx) : I (p.clearRoute ix) := by
  unfold Part.clearRoute
  dsimp only
  split
  · exact hI.reply h _
  · split
    · exact hI.reply h _
    · split
      · exact hI.reply h _
      · exact hI.reply (hI.unbindUnrouted (hroute ix _) _) _

theorem Kept.moveStream (n : StreamId) (l : Lane) : I (p.moveStream n l) := by
  unfold Part.moveStream; split
  · exact hI.reply h _
  · split
    · exact hI.reply h _
    · split
      · exact hI.reply h _
      · split
        · exact hI.reply h _
        · exact hI.reply (hI.settle (hI.startMove h n _ _)) _

theorem Kept.resetStream (n : StreamId) : I (p.resetStream n) := by
  unfold Part.resetStream
  cases hs : (p.stream n).state with
  | faulted =>
    exact hI.reply (hI.ended n _ (.inl rfl) (.inr ⟨rfl, by simp [hs, StreamState.carried]⟩) (fun hp =>
      have hout := (hp p h).out n (.inr hs)
      ⟨hout.1, hout.2, hout.1, hout.2⟩) h) _
  | idle | binding | replaying | bound | draining | stalled => exact hI.reply h _

theorem Kept.disableLane (l : Lane) : I (p.disableLane l) := by
  unfold Part.disableLane; split
  · exact hI.modLane h l _ rfl fun _ hr => hr
  · exact hI.enterOff h l _ (aside_laneEvent _ _ _)

theorem Kept.leavingUnless (l : Lane) (b : Bool) : I (if b then p else p.leavingMoves l) := by
  split
  · exact h
  · exact hI.leavingMoves h l

theorem Kept.pendRestart (l : Lane) : I (p.pendRestart l) :=
  hI.settle (hI.judgeReturns (hI.leavingUnless (hI.modLane h l (fun r => { r with restartPending := true }) rfl
    fun _ hr => hr) l _) l)

theorem Kept.restartCommand (l : Lane) : I (p.restartCommand l) := by
  unfold Part.restartCommand; split
  · exact hI.reply h _
  · split
    · exact hI.reply h _
    · split
      · exact hI.reply (hI.pendRestart h l) _
      · exact hI.reply (hI.restartLane h l) _

theorem Kept.leaveKeep (l : Lane) : I (p.leaveKeep l) := by
  unfold Part.leaveKeep; split
  · exact hI.evaluate (hI.modLane h l _ rfl fun _ hr => hr) l
  · exact h

theorem Kept.pinOut (l : Lane) : I (p.pinOut l) := by
  unfold Part.pinOut; split
  · exact h
  · exact hI.settle (hI.judgeReturns (hI.leavingUnless (hI.modLane (hI.leaveKeep h l) l (fun r => { r with pin := .out })
      rfl fun _ hr => hr) l _) l)

theorem Kept.unpinLane (l : Lane) : I (p.unpinLane l) :=
  hI.judgeReturns (hI.modLane (hI.leaveKeep h l) l (fun r => { r with pin := .unpinned }) rfl fun _ hr => hr) l

theorem Kept.setLoopback (l : Lane) (on : Bool) : I (p.setLoopback l on) := by
  unfold Part.setLoopback; split
  · split
    · exact hI.reply (hI.modLane h l _ rfl fun _ hr => hr) _
    · exact hI.reply h _
  · exact hI.reply (hI.modLane h l _ rfl fun _ hr => hr) _

theorem Kept.runDiagnostic (l : Lane) (count : Nat) : I (p.runDiagnostic l count) := by
  unfold Part.runDiagnostic; split
  · exact hI.reply h _
  · split
    · exact hI.reply h _
    · have hport : ∀ q : Part, q.Aside { q with port := { q.port with burst := some l } } :=
        fun q => .of_eq rfl rfl rfl rfl rfl rfl
      refine hI.aside (hport _) (hI.modLane h l _ rfl fun _ hr => ?_)
      obtain ⟨⟨hfig, hlat, -, hrest⟩, hrq, hs, hheld, -⟩ := hr
      exact ⟨⟨hfig, hlat, Nat.zero_le 255, hrest⟩, hrq, hs, hheld, by simp⟩

theorem Kept.afterWrite (k : Param) (changed : Bool) : I (p.afterWrite k changed) := by
  have hevaluate : I (if changed then p.evaluateAll else p) := by
    split
    · exact hI.evaluateAll h
    · exact h
  cases k with
  | clearLevel | warnLevel | downLevel => exact hevaluate
  | streamWindow => exact hI.serve h
  | beatInterval | leak | holdDown | qualTolerance | margin | deadlineMin | deadlineMax | stallLimit | drainLimit
  | suspectWindow | returnDelay | stormRewinds | sourceNode | fabricIdentity | attentionSet | counterHalfSet => exact h

theorem Kept.writeParam (hparam : ∀ k v, I { p with params := p.params.store k (p.params.clamped k v) }) (k : Param)
    (value : List Byte) : I (p.writeParam k value) := by
  unfold Part.writeParam; split
  · exact hI.reply h _
  · split
    · exact hI.reply h _
    · split
      · exact hI.reply h _
      · exact hI.reply (hI.afterWrite (hparam k _) k _) _

theorem Kept.warmRestart : I p.warmRestart := by
  have hstreams : I p.restartIntake.restartStreams :=
    hI.aside (Part.aside_served _ 63) (foldl_keeps (f := fun q n => q.restartStream n)
      (fun q n hq => Kept.restartStream (p := q) hI hq n) _ (hI.aside p.aside_restartIntake h))
  have hrest : ∀ q : Part, q.Aside (q.closeTags.restartService.startPass .restart) := fun q =>
    ((q.aside_modIntake _ rfl).trans (Part.aside_modIntake _ _ (by simp))).trans (Part.aside_startPass _ _)
  exact hI.aside (hrest _) (hI.judgeRestarts (hI.unqueue hstreams _))

omit hI in
theorem Kept.managed {f : Part → Part} (hf : I (f p)) : I (p.managed f) := by
  unfold Part.managed; split
  · exact h
  · exact hf

end

end Sys2Proof.Machine
end

section
/-! Every command keeps what the moves keep, and so does every step. -/

namespace Sys2Proof.Machine

variable {I : Part → Prop}

/-! ### The hand-over (R11) -/

/-- The request that a record gives the stream engine (R11). -/
def Part.workOf (p : Part) (q : HostRecord) (k : ReqKind) (r : Route) : Work :=
  { tag := q.tag, kind := k, address := r.translate q.address, length := q.length.toNat,
    blocks := p.engine.freeBlocks.take (k.blocksNeeded q.length.toNat), poisoned := false }

/-- A record out of the queue, with its blocks taken and written and its tag open (R11). -/
def Part.withRequest (p : Part) (q : HostRecord) (k : ReqKind) : Part :=
  let blocks := p.engine.freeBlocks.take (k.blocksNeeded q.length.toNat)
  let p1 := p.leaveQueue.modEngine (fun g =>
    { g with freeBlocks := g.freeBlocks.drop blocks.length, buffer := g.buffer.store blocks q.data })
  if k = .write then p1 else p1.setTag q.tag true

/-- The request given to its stream, dispatched or held (R11, R26). -/
def Part.given (p : Part) (q : HostRecord) (k : ReqKind) (r : Route) : Part :=
  if p.dispatches r.stream k then (p.withRequest q k).dispatch r.stream (p.workOf q k r)
  else (p.withRequest q k).holdWork r.stream (p.workOf q k r)

theorem Part.handOver_eq (p : Part) (q : HostRecord) (k : ReqKind) (r : Route) :
    p.handOver q k r = (if (p.stream r.stream).state = .idle then (p.given q k r).bind r.stream .plain
      else p.given q k r).flushIfEmpty := rfl

section

variable (p : Part) (q : HostRecord) (k : ReqKind)

theorem Part.withRequest_log : (p.withRequest q k).log = p.log := by unfold Part.withRequest; dsimp only; split <;> rfl
theorem Part.withRequest_params : (p.withRequest q k).params = p.params := by
  unfold Part.withRequest; dsimp only; split <;> rfl
theorem Part.withRequest_lanes : (p.withRequest q k).lanes = p.lanes := by
  unfold Part.withRequest; dsimp only; split <;> rfl
theorem Part.withRequest_sides : (p.withRequest q k).sides = p.sides := by
  unfold Part.withRequest; dsimp only; split <;> rfl
theorem Part.withRequest_engine : (p.withRequest q k).engine =
    { p.engine with
      freeBlocks := p.engine.freeBlocks.drop (p.engine.freeBlocks.take (k.blocksNeeded q.length.toNat)).length,
      buffer := p.engine.buffer.store (p.engine.freeBlocks.take (k.blocksNeeded q.length.toNat)) q.data } := by
  unfold Part.withRequest; dsimp only; split <;> rfl
theorem Part.withRequest_stream (n : StreamId) : (p.withRequest q k).stream n = p.stream n := by
  simp [Part.stream, p.withRequest_engine q k]

end

theorem Part.holdWork_stream (p : Part) (n m : StreamId) (w : Work) {i : SlotIx} {rest : List SlotIx}
    (h : p.engine.freeSlots = i :: rest) : (p.holdWork n w).stream m =
      if m = n then { p.stream m with hold := (p.stream m).hold ++ [Held.mk i n w] } else p.stream m := by
  unfold Part.holdWork
  rw [h]
  simp only [Part.modStream_stream, Part.own_stream]
  rfl

theorem Part.holdWork_engine (p : Part) (n : StreamId) (w : Work) {i : SlotIx} {rest : List SlotIx}
    (h : p.engine.freeSlots = i :: rest) : (p.holdWork n w).engine =
      { p.engine with streams := (p.holdWork n w).engine.streams, freeSlots := rest,
                      owners := markBlocks p.engine.owners w.blocks (some (.slot i)) } := by
  unfold Part.holdWork
  rw [h]
  rfl

/-- What the checks have found of a request that they pass (R6 to R11). -/
theorem Part.verdict_passes {p : Part} {q : HostRecord} {k : ReqKind} {r : Route} (h : p.verdict q = .passes k r) :
    k.blocksNeeded q.length.toNat ≤ p.engine.freeBlocks.length ∧
    (p.dispatches r.stream k = false → p.engine.freeSlots ≠ []) ∧ (p.stream r.stream).state ≠ .faulted := by
  unfold Part.verdict at h
  split at h
  · simp at h
  · split at h
    · simp at h
    · simp at h
    · split at h
      · simp at h
      · dsimp only at h
        split at h
        · simp at h
        · split at h
          · simp at h
          · next hstate =>
            unfold Part.resources at h
            split at h
            · simp at h
            · next hblocks =>
              split at h
              · simp at h
              · next hslots =>
                obtain ⟨rfl, rfl⟩ : _ ∧ _ := by simpa using h
                exact ⟨Nat.le_of_not_lt hblocks, fun hd hs => hslots ⟨hd, hs⟩, hstate⟩

/-- A request handed over is dispatched into the first free entry, or held in the first free slot (R11, R26). -/
theorem Part.given_cases {p : Part} {q : HostRecord} {k : ReqKind} {r : Route} (h : p.verdict q = .passes k r) :
    (p.dispatches r.stream k = true ∧ ∃ i rest, p.engine.freeEntries = i :: rest ∧
      p.given q k r = (p.withRequest q k).dispatchInto r.stream i rest (p.workOf q k r)) ∨
    (p.dispatches r.stream k = false ∧ ∃ i rest, p.engine.freeSlots = i :: rest ∧
      p.given q k r = (p.withRequest q k).holdWork r.stream (p.workOf q k r)) := by
  obtain ⟨-, hslots, -⟩ := Part.verdict_passes h
  cases hd : p.dispatches r.stream k with
  | true =>
    have hfree : p.engine.freeEntries ≠ [] := by
      simp only [Part.dispatches, Bool.and_eq_true] at hd
      simpa using hd.1.2
    obtain ⟨i, rest, hfree⟩ := List.exists_cons_of_ne_nil hfree
    refine .inl ⟨rfl, i, rest, hfree, ?_⟩
    have hfree' : (p.withRequest q k).engine.freeEntries = i :: rest := by rw [p.withRequest_engine]; exact hfree
    simp only [Part.given, hd, if_true, Part.dispatch, hfree']
  | false =>
    obtain ⟨i, rest, hfree⟩ := List.exists_cons_of_ne_nil (hslots hd)
    exact .inr ⟨rfl, i, rest, hfree, by simp [Part.given, hd]⟩

/-- What a hand-over leaves of the stream records before a first binding: one request dispatched or held, on the request's
stream alone. -/
theorem Part.given_stream {p : Part} {q : HostRecord} {k : ReqKind} {r : Route} (h : p.verdict q = .passes k r)
    (m : StreamId) :
    (p.given q k r).stream m = { p.stream m with
      hold := ((p.given q k r).stream m).hold, inflight := ((p.given q k r).stream m).inflight,
      nextSeq := ((p.given q k r).stream m).nextSeq } ∧
    (m ≠ r.stream → (p.given q k r).stream m = p.stream m) := by
  rcases Part.given_cases h with ⟨-, i, rest, hfree, hg⟩ | ⟨-, i, rest, hfree, hg⟩
  · rw [hg, Part.dispatchInto_stream, p.withRequest_stream]
    exact ⟨by split <;> rfl, fun hm => if_neg hm⟩
  · rw [hg, Part.holdWork_stream (i := i) (rest := rest) _ _ _ _ (by rw [p.withRequest_engine]; exact hfree),
      p.withRequest_stream]
    exact ⟨by split <;> rfl, fun hm => if_neg hm⟩

/-- What is asked of a property that a command keeps, beyond its moves: the commands that set tables, give a request to
the engine, shorten the log or put everything at its power-on value. -/
structure KeptBy (I : Part → Prop) (c : Instr) (p : Part) : Prop where
  powerOn : ∀ pins, c = .powerOn pins → I (Part.powerOn pins)
  passes : c = .intakeChecks → ∀ q k r, q ∈ p.intake.queue → p.verdict q = .passes k r → I (p.handOver q k r)
  route : ((∃ i b u t n s l o a, c = .rtwr i b u t n s l o a) ∨ ∃ i, c = .rtcl i) → ∀ ix r, I (p.setRoute ix r)
  param : (∃ id value, c = .pmwr id value) → ∀ k v, I { p with params := p.params.store k (p.params.clamped k v) }
  pop : c = .evpp → I { p with log := p.log.pop }
  clear : c = .evcl → I { p with log := p.log.clear }

theorem Kept.exec (hI : Kept I) {c : Instr} {p : Part} {w : List Instr} {s : State} (hc : KeptBy I c p) (h : I p)
    (hx : exec c ⟨p, w⟩ = .next s) : I s.part := by
  have hnext : ∀ q : Part, Machine.exec c ⟨p, w⟩ = .next ⟨q, w⟩ → I q → I s.part := fun q hq hi => by
    obtain rfl := Host.Outcome.next.inj (hx.symm.trans hq)
    exact hi
  cases c with
  | powerOn pins => exact hnext _ rfl (hc.powerOn pins rfl)
  | initDone =>
    refine hnext _ rfl ?_
    dsimp only
    split
    · exact hI.aside (p.aside_setService _) h
    · exact h
  | hostRequest q =>
    refine hnext _ rfl ?_
    dsimp only
    split
    · exact hI.aside (Part.aside_refuseUncredited _ q) (hI.raise h _)
    · exact hI.aside (Part.aside_modIntake _ _ rfl) (hI.raise h _)
  | intakeChecks => exact hnext _ rfl (hI.examine h (hc.passes rfl))
  | hostLinkReset =>
    exact hnext _ rfl (hI.judgeQuiesce (hI.raise (hI.event (hI.orphan
      (hI.aside (p.aside_flushTally.trans (Part.aside_modIntake _ _ rfl)) h)) _ _ _ _) _))
  | hostLinkUp => exact hnext _ rfl (hI.aside (p.aside_modIntake _ (by split <;> simp)) h)
  | frameDeparture l reads => exact hnext _ rfl (hI.depart h l reads)
  | badFrame l v => exact hnext _ rfl (hI.arriveBad h l v)
  | unexpectedFrame | receiveAnswer | receiveTell | receiveGap | receiveBeat | receiveBasePage | receiveNextPage
  | receiveTestReflect | receiveTestReturn | receivePause | frameInOff => exact hnext _ rfl (hI.arrive h _ _ _)
  | linkLoss l => exact hnext _ rfl (hI.loseLine (hI.raise h _) l)
  | probeTimerExpiry l =>
    exact hnext _ rfl (hI.expire h _ fun t _ hq => hI.modTimers (hI.place hq l _) l _ fun _ => rfl)
  | pageTimerExpiry l => exact hnext _ rfl (hI.expire h _ fun t _ hq => hI.judgePageTimer hq l)
  | qualifyTimerExpiry l =>
    refine hnext _ rfl (hI.expire h _ fun t _ hq => ?_)
    split
    · next b hb => exact hI.expireBurst hq l b hb
    · exact hq
  | beatTimerExpiry l =>
    exact hnext _ rfl (hI.expire h _ fun t _ hq => hI.modTimers (hI.place hq l _) l _ fun _ => rfl)
  | silenceTimerExpiry l => exact hnext _ rfl (hI.expire h _ fun t _ hq => hI.silent hq l)
  | stormPeriodExpiry l =>
    refine hnext _ rfl (hI.expire h _ fun t _ hq => hI.modLane hq l _ rfl fun _ hr => ?_)
    obtain ⟨hnum, hrq, -, hheld, hchk⟩ := hr
    exact ⟨hnum, hrq, ⟨Nat.zero_le 63, fun _ => Nat.zero_le 62⟩, hheld, hchk⟩
  | heldTimerExpiry l =>
    refine hnext _ rfl (hI.expire h _ fun t ht hq => hI.startQualify hq l fun hr => ?_)
    have hheld := ((hr p h).1 l).2.2.2.1 (by simp [ht])
    rw [Part.reach_lane, hheld]
    simp
  | holdDownExpiry l => exact hnext _ rfl (hI.expire h _ fun t _ hq => hI.enterQuiet hq l Part.Aside.refl)
  | pauseExpiry l => exact hnext _ rfl (hI.expire h _ fun t _ hq => hI.modTimers hq l _ fun _ => rfl)
  | leakTick =>
    have hat : ∀ q : Part, q.Aside { q with leakAt := p.leakAt + 1000 } := fun q => .of_eq rfl rfl rfl rfl rfl rfl
    exact hnext _ rfl (hI.leakAll (hI.aside (hat _) (hI.reach h _)))
  | distressWeight l cause => exact hnext _ rfl (hI.addWeight (hI.aside (p.aside_takeReport _) h) l _)
  | stormReport l => exact hnext _ rfl (hI.stormTaken (hI.aside (p.aside_takeReport _) h) l)
  | latencySample l us => exact hnext _ rfl (hI.sampleTaken (hI.aside (p.aside_takeReport _) h) l us)
  | deadlineExpiry n seq => exact hnext _ rfl (hI.expire h _ fun t _ hq => hI.settle (hI.rewind hq n _))
  | askAttemptExpiry n => exact hnext _ rfl (hI.expire h _ fun t _ hq => hI.settle (hI.askExpired hq n))
  | stallDeadlineExpiry n => exact hnext _ rfl (hI.expire h _ fun t _ hq => hI.settle (hI.expireStall hq n))
  | moveAbandoned n =>
    exact hnext _ rfl (hI.expire h _ fun t ht hq => hI.settle (hI.abandonMove hq n (Part.drainExpiry_draining (p := p) ht)))
  | moveForced n => exact hnext _ rfl (hI.expire h _ fun t _ hq => hI.settle (hI.forceMove hq n))
  | returnTimerExpiry n => exact hnext _ rfl (hI.expire h _ fun t _ hq => hI.settle (hI.startMove hq n _ _))
  | suspectExpiry d =>
    exact hnext _ rfl (hI.expire h _ fun t _ hq => hI.aside (Part.aside_modSide _ d _ fun _ => rfl) hq)
  | patrolCheck read =>
    refine hnext _ rfl ?_
    dsimp only
    split
    · exact h
    · exact hI.checkItem (hI.aside (p.aside_noteRead read) h) _
  | patrolPassEnd => exact hnext _ rfl (hI.aside p.aside_endPass h)
  | idnt | stat | evpk => exact hnext _ rfl (Kept.managed h (hI.respond h _ _))
  | rtwr index base units target node stream preferred policy access =>
    exact hnext _ rfl (Kept.managed h (hI.withOperand h _ fun ix _ => hI.withOperand h _ fun r _ =>
      hI.writeRoute h (hc.route (.inl ⟨_, _, _, _, _, _, _, _, _, rfl⟩)) ix r))
  | rtrd index => exact hnext _ rfl (Kept.managed h (hI.withOperand h _ fun ix _ => hI.respond h _ _))
  | rtcl index =>
    exact hnext _ rfl (Kept.managed h (hI.withOperand h _ fun ix _ => hI.clearRoute h (hc.route (.inr ⟨_, rfl⟩)) ix))
  | smrd stream found =>
    refine hnext _ rfl (Kept.managed h (hI.withOperand h _ fun n _ => hI.respond ?_ _ _))
    unfold Part.readRecord
    split
    · exact h
    · exact hI.checkRecord h n found
  | smov stream target =>
    exact hnext _ rfl (Kept.managed h (hI.withOperand h _ fun n _ => hI.withOperand h _ fun l _ => hI.moveStream h n l))
  | srst stream => exact hnext _ rfl (Kept.managed h (hI.withOperand h _ fun n _ => hI.resetStream h n))
  | lnrd lane => exact hnext _ rfl (Kept.managed h (hI.withOperand h _ fun l _ => hI.respond h _ _))
  | enable lane =>
    refine hnext _ rfl (Kept.managed h (hI.withOperand h _ fun l _ => hI.reply ?_ _))
    split
    · exact hI.enterQuiet h l Part.Aside.refl
    · exact h
  | disable lane => exact hnext _ rfl (Kept.managed h (hI.withOperand h _ fun l _ => hI.reply (hI.disableLane h l) _))
  | restart lane => exact hnext _ rfl (Kept.managed h (hI.withOperand h _ fun l _ => hI.restartCommand h l))
  | pinOut lane => exact hnext _ rfl (Kept.managed h (hI.withOperand h _ fun l _ => hI.reply (hI.pinOut h l) _))
  | pinKeep lane =>
    exact hnext _ rfl (Kept.managed h (hI.withOperand h _ fun l _ =>
      hI.reply (hI.judgeReturns (hI.modLane h l _ rfl fun _ hr => hr) l) _))
  | unpin lane => exact hnext _ rfl (Kept.managed h (hI.withOperand h _ fun l _ => hI.reply (hI.unpinLane h l) _))
  | dglp lane setting =>
    exact hnext _ rfl (Kept.managed h (hI.withOperand h _ fun l _ => hI.withOperand h _ fun on _ => hI.setLoopback h l on))
  | dgpt lane frames => exact hnext _ rfl (Kept.managed h (hI.withOperand h _ fun l _ => hI.runDiagnostic h l _))
  | pmwr id value =>
    exact hnext _ rfl (Kept.managed h (hI.withOperand h _ fun k _ => hI.writeParam h (hc.param ⟨_, _, rfl⟩) k value))
  | pmrd id => exact hnext _ rfl (Kept.managed h (hI.withOperand h _ fun k _ => hI.respond h _ _))
  | evpp => exact hnext _ rfl (Kept.managed h (hI.respond (hc.pop rfl) _ _))
  | evcl => exact hnext _ rfl (Kept.managed h (hI.reply (hc.clear rfl) _))
  | ctrd first number clear =>
    refine hnext _ rfl (Kept.managed h ?_)
    split
    · exact hI.reply h _
    · exact hI.withOperand h _ fun c _ => hI.withOperand h _ fun cs _ => hI.aside (p.aside_readCounters cs c) h
  | qsce =>
    refine hnext _ rfl (Kept.managed h ?_)
    split
    · exact hI.reply (hI.judgeQuiesce (hI.aside ((p.aside_setService _).trans (Part.aside_modIntake _ _ rfl)) h)) _
    all_goals exact hI.reply h _
  | rlse =>
    refine hnext _ rfl (Kept.managed h ?_)
    split
    · exact hI.reply (hI.aside (p.aside_setService _) h) _
    · exact hI.reply (hI.aside (p.aside_setService _) h) _
    all_goals exact hI.reply h _
  | lvrs =>
    refine hnext _ rfl (Kept.managed h ?_)
    split
    · exact hI.reply (hI.aside (p.aside_startPass _) h) _
    · exact hI.reply h _
  | svrs => exact hnext _ rfl (Kept.managed h (hI.reply (hI.warmRestart h) _))
  | badCommand frame =>
    refine hnext _ rfl (Kept.managed h ?_)
    split
    · exact hI.reply h _
    · exact h
    · exact h

theorem Part.aside_tick (p : Part) : p.Aside p.tick := .of_eq rfl rfl rfl rfl rfl rfl

/-- Every step keeps what the moves keep, when each command does. -/
theorem Kept.step (hI : Kept I) {s s' : State} (hc : ∀ c, KeptBy I c s.part) (h : I s.part)
    (hx : step s = .next s') : I s'.part := by
  unfold Machine.step State.idle at hx
  split at hx
  · split at hx
    · next c _ _ => exact hI.exec (p := s.part) (w := s.pending) (hc c) h hx
    · obtain rfl := Host.Outcome.next.inj hx
      exact hI.aside s.part.aside_tick h
  · next c rest _ => exact hI.exec (p := s.part) (w := rest) (hc c) h hx

end Sys2Proof.Machine
end

section
/-! O57: the event log stays sound. An event keeps it so, and nothing but events, EVPP, EVCL and POWER_ON reaches it. -/

namespace Sys2Proof.Machine

/-! ### What follows a binding, whatever is kept -/

/-- A property that bindings, return timers and what stands aside keep: enough for all that the streams take of changes
of lanes. -/
structure KeptByBindings (I : Part → Prop) : Prop where
  aside : ∀ {p q : Part}, p.Aside q → I p → I q
  retimed : ∀ {p q : Part}, p.Retimed q → I p → I q
  bind : ∀ {p : Part} (n : StreamId) (f : StreamRec → StreamRec) (k : BindingKind),
    (p.stream n).HoldsAs (f (p.stream n)) → I p → I ((p.modStream n f).bind n k)

section

variable {I : Part → Prop} (hI : KeptByBindings I) {p : Part} (h : I p)
include hI h

theorem KeptByBindings.failoverAll (l : Lane) : I (p.failoverAll l) :=
  foldl_keeps (fun q n hq => by
    split
    · exact hI.aside (Part.aside_migrated _ n l) (hI.bind n _ _ (.of_eq rfl rfl rfl) hq)
    · exact hq) _ h

theorem KeptByBindings.releaseStalled : I p.releaseStalled :=
  foldl_keeps (fun q n hq => by
    split
    · exact hI.bind n _ _ (.of_eq rfl rfl rfl) hq
    · exact hq) _ h

theorem KeptByBindings.streamsTake (l : Lane) (old new : LaneState) : I (p.streamsTake l old new) := by
  have hfail : I (if old.inService = true ∧ new.inService = false then p.failoverAll l else p) := by
    split
    · exact hI.failoverAll h l
    · exact h
  unfold Part.streamsTake
  dsimp only
  refine hI.retimed (Part.retimed_judgeReturns _ l) ?_
  split
  · exact hI.releaseStalled hfail
  · exact hfail

omit h in
theorem KeptByBindings.changeLane {l : Lane} {new : LaneState} {enter : LaneRec → LaneRec} {log : Part → Part}
    (h : I (p.moveLane l new enter log)) : I (p.changeLane l new enter log) := hI.streamsTake h l _ new

theorem KeptByBindings.streamsFollow (was : Part) : I (p.streamsFollow was) := by
  have hfail : I (Lane.all.foldl (fun q l => if (was.lane l).state.inService = true ∧ (p.lane l).state.inService = false
      then q.failoverAll l else q) p) :=
    foldl_keeps (fun q l hq => by
      split
      · exact hI.failoverAll hq l
      · exact hq) _ h
  unfold Part.streamsFollow
  dsimp only
  refine foldl_keeps (fun q l hq => by
    split
    · exact hq
    · exact hI.retimed (q.retimed_judgeReturns l) hq) _ ?_
  split
  · exact hI.releaseStalled hfail
  · exact hfail

end

/-- What a threshold evaluation does at a lane and its side: nothing, a suppressed move, or a change to DOWN, DEGRADED or
ACTIVE (R86, R94). -/
theorem Part.evaluateLane_cases (p : Part) (l : Lane) :
    p.evaluateLane l = p ∨
    ((p.lane l).pin = .keep ∧ ∃ d, p.evaluateLane l = p.suppress l d) ∨
    ((p.lane l).state.inService = true ∧ p.evaluateLane l = p.downLane l .distress 0) ∨
    ((p.lane l).state = .active ∧ p.evaluateLane l = p.degradeLane l) ∨
    ((p.lane l).state = .degraded ∧ p.evaluateLane l = p.recoverLane l) := by
  unfold Part.evaluateLane Part.distressDown Part.distressDegrade
  split
  · next hact =>
    split
    · split
      · next hkeep => exact .inr (.inl ⟨hkeep, _, rfl⟩)
      · exact .inr (.inr (.inl ⟨by simp [hact, LaneState.inService], rfl⟩))
    · split
      · split
        · next hkeep => exact .inr (.inl ⟨hkeep, _, rfl⟩)
        · exact .inr (.inr (.inr (.inl ⟨hact, rfl⟩)))
      · exact .inl rfl
  · next hdeg =>
    split
    · split
      · next hkeep => exact .inr (.inl ⟨hkeep, _, rfl⟩)
      · exact .inr (.inr (.inl ⟨by simp [hdeg, LaneState.inService], rfl⟩))
    · split
      · exact .inr (.inr (.inr (.inr ⟨hdeg, rfl⟩)))
      · exact .inl rfl
  · exact .inl rfl

/-! ### The log grows by events alone -/

/-- Between two parts nothing has happened to the log but events. -/
def Part.Logs (p q : Part) : Prop := p.log.Grows q.log

theorem Part.Logs.refl (p : Part) : p.Logs p := EventLog.Grows.refl _
theorem Part.Logs.trans {p q r : Part} (h : p.Logs q) (k : q.Logs r) : p.Logs r := EventLog.Grows.trans h k
theorem Part.Logs.of_eq {p q : Part} (h : q.log = p.log) : p.Logs q := by unfold Part.Logs; rw [h]; exact .refl _
/-- What comes after a part with the same log. -/
theorem Part.Logs.after {p q r : Part} (k : q.Logs r) (h : q.log = p.log) : p.Logs r := by
  unfold Part.Logs; rw [← h]; exact k
theorem Part.Aside.logs {p q : Part} (h : p.Aside q) : p.Logs q := h.log

theorem Part.logs_event (p : Part) (k : EventKind) (l : Option Lane) (n : Option StreamId) (d : BitVec 16) :
    p.Logs (p.event k l n d) := (p.aside_event k l n d).logs
theorem Part.logs_raise (p : Part) (c : CounterId) : p.Logs (p.raise c) := (p.aside_raise c).logs

theorem Part.logs_queueRequest (p : Part) (n : StreamId) (e : OttEntry) : p.Logs (p.queueRequest n e) := by
  unfold Part.queueRequest; split <;> exact .refl _

theorem Part.logs_dispatch (p : Part) (n : StreamId) (w : Work) : p.Logs (p.dispatch n w) := by
  unfold Part.dispatch; split
  · exact .refl p
  · exact Part.Logs.after ((Part.logs_queueRequest _ _ _).trans (Part.logs_raise _ _)) rfl

theorem Part.logs_holdWork (p : Part) (n : StreamId) (w : Work) : p.Logs (p.holdWork n w) := by
  unfold Part.holdWork; split <;> exact .refl p

theorem Part.logs_dispatchHead (p : Part) (n : StreamId) : p.Logs (p.dispatchHead n) := by
  unfold Part.dispatchHead; split
  · exact .refl p
  · exact Part.Logs.after (Part.logs_dispatch _ _ _) rfl

theorem Part.logs_abandonAtStall (p : Part) (n : StreamId) : p.Logs (p.abandonAtStall n) := by
  unfold Part.abandonAtStall; split
  · exact .refl p
  · exact Part.Logs.after (Part.logs_event _ _ _ _ _) rfl

theorem Part.logs_startStall (p : Part) (n : StreamId) : p.Logs (p.startStall n) := by
  unfold Part.startStall; split
  · exact .refl p
  · exact Part.Logs.after (Part.logs_event _ _ _ _ _) rfl

theorem Part.logs_bind (p : Part) (n : StreamId) (k : BindingKind) : p.Logs (p.bind n k) := by
  have hopen : p.Logs (p.openBinding n k) := Part.Logs.after (Part.logs_raise _ _) rfl
  have hstall : ∀ q : Part, q.Logs (q.stall n) := fun q =>
    (q.logs_abandonAtStall n).trans (Part.Logs.after (Part.logs_startStall _ n) rfl)
  unfold Part.bind Part.settleChoice
  split
  · exact hopen.trans (.of_eq rfl)
  · exact hopen.trans (hstall _)

theorem Part.logs_modSide (p : Part) (d : Side) (f : SideRec → SideRec) : p.Logs (p.modSide d f) := .of_eq (by simp)

theorem Part.logs_updateSide (p : Part) (l : Lane) : p.Logs (p.updateSide l) := by
  unfold Part.updateSide; dsimp only; split
  · exact ((Part.logs_modSide _ _ _).trans (Part.logs_modSide _ _ _)).trans (Part.logs_event _ _ _ _ _)
  · split
    · exact (Part.logs_modSide _ _ _).trans (Part.logs_event _ _ _ _ _)
    · exact Part.logs_modSide _ _ _

theorem Part.logs_sideTakes (p : Part) (l : Lane) (old new : LaneState) : p.Logs (p.sideTakes l old new) := by
  unfold Part.sideTakes; dsimp only
  refine Part.Logs.after (Part.logs_updateSide _ l) ?_
  split <;> split <;> simp [Part.noteLoss, Part.markSuspect]

theorem Part.logs_moveLane (p : Part) (l : Lane) (new : LaneState) (enter : LaneRec → LaneRec) {log : Part → Part}
    (hlog : ∀ q : Part, q.Logs (log q)) : p.Logs (p.moveLane l new enter log) :=
  Part.Logs.after ((hlog _).trans (Part.logs_sideTakes _ _ _ _)) rfl

theorem Part.logs_evaluateLane (p : Part) (l : Lane) : p.Logs (p.evaluateLane l) := by
  rcases p.evaluateLane_cases l with he | ⟨-, d, he⟩ | ⟨-, he⟩ | ⟨-, he⟩ | ⟨-, he⟩ <;> rw [he]
  · exact .refl p
  · unfold Part.suppress; split
    · exact .refl p
    · exact Part.Logs.trans (.of_eq rfl) (Part.logs_event _ _ _ _ _)
  · exact p.logs_moveLane l _ _ fun q => (q.logs_raise _).trans (Part.logs_event _ _ _ _ _)
  · exact p.logs_moveLane l _ _ fun q => q.logs_event _ _ _ _
  · exact p.logs_moveLane l _ _ fun q => q.logs_event _ _ _ _

theorem Part.Logs.keeps {P : EventLog → Prop} (htake : ∀ log k l n d t, P log → P (log.take k l n d t)) {p q : Part}
    (h : p.Logs q) (hp : P p.log) : P q.log := by
  unfold Part.Logs at h
  generalize q.log = log at h ⊢
  induction h with
  | refl => exact hp
  | tail _ hstep ih => obtain ⟨k, l, n, d, t, rfl⟩ := hstep; exact htake _ _ _ _ _ _ ih

/-- A property of the log that every event keeps is kept by every move. -/
theorem kept_log {P : EventLog → Prop} (htake : ∀ log k l n d t, P log → P (log.take k l n d t)) :
    Kept (fun p => P p.log) := by
  have hlogs : ∀ {p q : Part}, p.Logs q → P p.log → P q.log := fun h => h.keeps htake
  have hbindings : KeptByBindings (fun p => P p.log) :=
    { aside := fun h => hlogs h.logs
      retimed := fun h hp => by rw [h.log]; exact hp
      bind := fun n f k _ => hlogs (Part.Logs.after (Part.logs_bind _ n k) rfl) }
  exact
  { aside := fun h => hlogs h.logs
    lanes := fun _ _ hp => hp
    change := fun {p} l edit enter new log _ _ _ hlog hp => hbindings.changeLane (p := p.modLane l edit)
      (hlogs ((p.modLane l edit).logs_moveLane l new enter fun q => (hlog q).logs) hp)
    stream := fun _ _ _ _ _ hp => hp
    carried := fun _ _ _ _ _ _ hp => hp
    ended := fun _ _ _ _ _ hp => hp
    bind := hbindings.bind
    dispatchHead := fun n _ _ => hlogs (Part.logs_dispatchHead _ n)
    retire := fun _ _ _ hp => hp
    unhold := fun _ _ _ hp => hp
    emptyStream := fun _ _ hp => hp
    evaluateAll := fun hp => hbindings.streamsFollow
      (hlogs ((((Part.logs_evaluateLane _ .a0).trans (Part.logs_evaluateLane _ .a1)).trans
        (Part.logs_evaluateLane _ .b0)).trans (Part.logs_evaluateLane _ .b1)) hp) _ }

/-! ### A sound log -/

/-- Event numbers run on exactly when each is one more than the one before it, up to the next. -/
theorem numbersRun_iff (es : List LogEntry) (next : BitVec 16) :
    numbersRun es next ↔ (es.map LogEntry.number ++ [next]).IsChain (fun a b => a + 1 = b) := by
  induction es with
  | nil => simp [numbersRun]
  | cons e es ih =>
    cases es with
    | nil => simp [numbersRun]
    | cons f es => simpa [numbersRun] using fun _ => ih

/-- An appended event takes the next number. -/
theorem numbersRun_append {es : List LogEntry} {next : BitVec 16} (h : numbersRun es next) {e : LogEntry}
    (he : e.number = next) : numbersRun (es ++ [e]) (next + 1) := by
  rw [numbersRun_iff] at h ⊢
  rw [List.map_append, List.map_singleton, he]
  exact List.IsChain.append h (.singleton _) (by simp)

theorem numbersRun_tail {es : List LogEntry} {next : BitVec 16} (h : numbersRun es next) : numbersRun es.tail next := by
  cases es with
  | nil => trivial
  | cons e es =>
    rw [numbersRun_iff] at h ⊢
    exact h.tail

theorem EventLog.sound.append {log : EventLog} (h : log.sound) (k : EventKind) (l : Option Lane) (n : Option StreamId)
    (d : BitVec 16) (t : BitVec 32) : (log.append k l n d t).sound := by
  have hone : ∀ e : LogEntry, e.repeats = 1 → 1 ≤ e.repeats ∧ e.repeats ≤ 255 := fun e he => by omega
  rcases h.short.lt_or_eq with hroom | hfull
  · rw [EventLog.append_of_not_full k l n d t hroom]
    refine ⟨by simpa using hroom, ?_, numbersRun_append h.numbers rfl, fun _ => rfl, h.overflow⟩
    intro e he
    rcases List.mem_append.mp he with he | he
    · exact h.repeats e he
    · exact hone e (by rw [List.mem_singleton.mp he])
  · rw [EventLog.append_of_full k l n d t hfull]
    refine ⟨by simp [hfull], ?_, numbersRun_append (numbersRun_tail h.numbers) rfl, fun _ => rfl, ?_⟩
    · intro e he
      rcases List.mem_append.mp he with he | he
      · exact h.repeats e (List.mem_of_mem_tail he)
      · exact hone e (by rw [List.mem_singleton.mp he])
    · simp

/-- An event keeps the log sound (R145 to R147). -/
theorem EventLog.sound.take {log : EventLog} (h : log.sound) (k : EventKind) (l : Option Lane) (n : Option StreamId)
    (d : BitVec 16) (t : BitVec 32) : (log.take k l n d t).sound := by
  rcases log.take_cases k l n d t with ⟨old, e, hlog, -, -, -, htake⟩ | ⟨-, htake⟩
  · have hnumbers := h.numbers
    rw [numbersRun_iff] at hnumbers
    have hrepeats := h.repeats
    rw [hlog] at hnumbers hrepeats
    rw [htake]
    refine ⟨by simpa [hlog] using h.short, fun x hx => ?_, (numbersRun_iff _ _).mpr (by simpa using hnumbers),
      fun _ => h.ever (by simp [hlog]), h.overflow⟩
    rcases List.mem_append.mp hx with hx | hx
    · exact hrepeats x (List.mem_append_left _ hx)
    · have he := hrepeats e (by simp)
      rw [List.mem_singleton.mp hx]
      dsimp only
      omega
  · exact htake ▸ h.append k l n d t

theorem EventLog.sound_of_empty {log : EventLog} (h : log.entries = [])
    (hover : (log.overflowed = true ↔ log.overflow ≠ 0) ∧ log.overflow ≤ 255) : log.sound :=
  ⟨by simp [h], by simp [h], by simp [h, numbersRun], by simp [h], hover⟩

theorem EventLog.sound.pop {log : EventLog} (h : log.sound) : log.pop.sound :=
  ⟨(by simpa [EventLog.pop] using h.short.trans (Nat.le_succ 32)), fun e he => h.repeats e (List.mem_of_mem_tail he),
    numbersRun_tail h.numbers, fun hne => h.ever fun hnil => hne (by simp [EventLog.pop, hnil]), h.overflow⟩

/-- A hand-over logs events alone. -/
theorem Part.logs_handOver (p : Part) (q : HostRecord) (k : ReqKind) (r : Route) : p.Logs (p.handOver q k r) := by
  have hgiven : p.Logs (p.given q k r) := by
    unfold Part.given; split
    · exact Part.Logs.after (Part.logs_dispatch _ _ _) (p.withRequest_log q k)
    · exact Part.Logs.after (Part.logs_holdWork _ _ _) (p.withRequest_log q k)
  rw [p.handOver_eq]
  refine Part.Logs.trans ?_ (Part.aside_flushIfEmpty _).logs
  split
  · exact hgiven.trans (Part.logs_bind _ _ _)
  · exact hgiven

theorem keptBy_log {c : Instr} {p : Part} (h : p.log.sound) : KeptBy (fun q => q.log.sound) c p where
  powerOn _ _ := EventLog.sound_of_empty rfl (by simp [Part.powerOn, EventLog.powerOn])
  passes _ q k r _ _ := Part.Logs.keeps (fun _ _ _ _ _ _ hs => hs.take _ _ _ _ _) (p.logs_handOver q k r) h
  route _ _ _ := h
  param _ _ _ := h
  pop _ := h.pop
  clear _ := EventLog.sound_of_empty rfl (by simp [EventLog.clear, EventLog.powerOn])

/-- Settles O57: events keep the log sound, and only EVPP, EVCL and POWER_ON reach it otherwise. -/
theorem stepKeepsLog : Obligations.StepKeepsLog := fun s _ h hx =>
  (kept_log fun _ _ _ _ _ _ hs => hs.take _ _ _ _ _).step (fun _ => keptBy_log h) h hx

end Sys2Proof.Machine
end

section
/-! O58: lane numbers, thresholds, side states and the data buffer stay sound. Only changes of lanes, hand-overs and
parameter writes reach them. -/

namespace Sys2Proof.Machine

/-- The numbers of the lanes in range, the thresholds in order, the sides as their lanes give them, and the buffer in
its canonical form. -/
structure Part.rangesSound (p : Part) : Prop where
  lanes : p.laneRanges
  ordered : p.params.ordered
  storms : p.params.stormRewinds ≤ 63
  sides : p.sidesHold
  buffer : p.engine.buffer.wf = true

/-! ### Sides follow their lanes (R103) -/

theorem Part.derivedSide_congr {p q : Part} (d : Side) (h : ∀ l : Lane, l.side = d → (q.lane l).state = (p.lane l).state) :
    q.derivedSide d = p.derivedSide d := by
  cases d with
  | a => simp only [Part.derivedSide]; rw [show q.lanes.a0.state = _ from h .a0 rfl, show q.lanes.a1.state = _ from h .a1 rfl]; rfl
  | b => simp only [Part.derivedSide]; rw [show q.lanes.b0.state = _ from h .b0 rfl, show q.lanes.b1.state = _ from h .b1 rfl]; rfl

theorem Part.derivedSide_of_lanes {p q : Part} (h : q.lanes = p.lanes) (d : Side) : q.derivedSide d = p.derivedSide d :=
  Part.derivedSide_congr d fun l _ => by simp [Part.lane, h]

theorem Part.sidesHold.congr {p q : Part} (h : p.sidesHold) (hs : ∀ d, (q.side d).state = (p.side d).state)
    (hl : ∀ l, (q.lane l).state = (p.lane l).state) : q.sidesHold := fun d => by
  rw [hs, h d]
  exact (Part.derivedSide_congr d fun l _ => hl l).symm

/-- The side monitor gives a lane's side the state that its lanes have, and no other side another state (R103). -/
theorem Part.updateSide_side_state (p : Part) (l : Lane) (d : Side) :
    ((p.updateSide l).side d).state = if d = l.side then p.derivedSide d else (p.side d).state := by
  have hset : ∀ (q : Part) (f : SideRec → SideRec) (x : SideState), (∀ r, (f r).state = x) →
      ((q.modSide l.side f).side d).state = if d = l.side then x else (q.side d).state := fun q f x hf => by
    split
    · next hd => subst hd; simp [hf]
    · next hd => rw [q.modSide_side_of_ne hd]
  unfold Part.updateSide
  dsimp only
  have hstate := hset p (fun r => { r with state := p.derivedSide l.side }) (p.derivedSide l.side) fun _ => rfl
  have hgoal : (if d = l.side then p.derivedSide l.side else (p.side d).state) =
      if d = l.side then p.derivedSide d else (p.side d).state := by
    split
    · next hd => rw [hd]
    · rfl
  rw [← hgoal, ← hstate]
  split
  · rw [Part.event_side]
    by_cases hd : d = l.side
    · subst hd; simp
    · rw [Part.modSide_side_of_ne _ hd]
  · split
    · rw [Part.event_side]
    · rfl

theorem Part.sideTakes_side_state (p : Part) (l : Lane) (old new : LaneState) (d : Side) :
    ((p.sideTakes l old new).side d).state = if d = l.side then p.derivedSide d else (p.side d).state := by
  have hnote : ∀ q : Part, ((q.noteLoss l).side d).state = (q.side d).state := fun q =>
    (q.aside_modSide l.side _ fun r => by split <;> rfl).sides d
  have hmark : ∀ q : Part, ((q.markSuspect l.side).side d).state = (q.side d).state := fun q =>
    (q.aside_modSide l.side (fun r => { r with suspectUntil :=
      if q.params.suspectWindow = 0 then none else some (q.now + q.params.suspectWindow * 1000) }) fun _ => rfl).sides d
  unfold Part.sideTakes
  dsimp only
  rw [Part.updateSide_side_state, Part.derivedSide_of_lanes (p := p) (by split <;> split <;> simp)]
  congr 1
  split <;> split <;> simp only [hnote, hmark]

/-! ### The moves -/

/-- What the stream engine does reaches none of this. -/
theorem Part.rangesSound.streamsOnly {p q : Part} (h : p.rangesSound) (k : p.StreamsOnly q) : q.rangesSound where
  lanes l := by rw [k.lane l]; exact h.lanes l
  ordered := k.params ▸ h.ordered
  storms := k.params ▸ h.storms
  sides := h.sides.congr (fun d => by rw [k.side d]) k.state
  buffer := k.buffer ▸ h.buffer

theorem Part.rangesSound.aside {p q : Part} (h : p.rangesSound) (k : p.Aside q) : q.rangesSound where
  lanes l := k.lane l ▸ h.lanes l
  ordered := k.params ▸ h.ordered
  storms := k.params ▸ h.storms
  sides := h.sides.congr k.sides fun l => by rw [k.lane l]
  buffer := k.buffer h.buffer

/-- Other lane records with the same states. -/
theorem Part.rangesSound.withLanes {p : Part} (h : p.rangesSound) (ls : Lanes)
    (hls : ∀ l, (ls.get l).state = (p.lane l).state ∧ (ls.get l).rangesHold) :
    ({ p with lanes := ls } : Part).rangesSound where
  lanes l := (hls l).2
  ordered := h.ordered
  storms := h.storms
  sides := h.sides.congr (fun d => by cases d <;> rfl) fun l => (hls l).1
  buffer := h.buffer

theorem Part.rangesSound.modLane {p : Part} (h : p.rangesSound) (l : Lane) (f : LaneRec → LaneRec)
    (hstate : (f (p.lane l)).state = (p.lane l).state) (hrange : (f (p.lane l)).rangesHold) :
    (p.modLane l f).rangesSound := by
  refine h.withLanes _ fun m => ?_
  by_cases hm : m = l
  · subst hm
    rw [Lanes.get_set_self]
    exact ⟨hstate, hrange⟩
  · rw [Lanes.get_set_of_ne _ hm]
    exact ⟨rfl, h.lanes m⟩

/-- A change of lane state, at the lane and its side, after an edit of the lane's record (R66, R103). -/
theorem Part.rangesSound.moveLane {p : Part} (h : p.rangesSound) (l : Lane) (edit enter : LaneRec → LaneRec)
    (new : LaneState) {log : Part → Part} (hrange : (enter ((edit (p.lane l)).moved new)).rangesHold)
    (hlog : ∀ q : Part, q.Aside (log q)) : ((p.modLane l edit).moveLane l new enter log).rangesSound := by
  have hlanes : ∀ q : Part, (log q).lanes = q.lanes := fun q => (hlog q).lanes
  have hself := (p.modLane l edit).moveLane_lane_self l new enter hlanes
  have hothers := fun m (hm : m ≠ l) => ((p.modLane l edit).moveLane_lane_of_ne hm new enter hlanes).trans
    (p.modLane_lane_of_ne hm edit)
  have hparams : ((p.modLane l edit).moveLane l new enter log).params = p.params := by
    simp [Part.moveLane, (Part.laneWork_sideTakes _ _ _ _).params, (hlog _).params]
  have hstate := fun d => (log ((p.modLane l edit).modLane l (fun r => enter (r.moved new)))).sideTakes_side_state l
    ((p.modLane l edit).lane l).state new d
  refine ⟨fun m => ?_, hparams ▸ h.ordered, hparams ▸ h.storms, fun d => ?_, ?_⟩
  · by_cases hm : m = l
    · subst hm
      rw [hself, Part.modLane_lane_self]
      exact hrange
    · exact hothers m hm ▸ h.lanes m
  · rw [Part.moveLane, hstate]
    split
    · exact (Part.derivedSide_of_lanes (Part.sideTakes_lanes _ _ _ _) d).symm
    · next hd =>
      rw [(hlog _).sides, Part.modLane_side, Part.modLane_side, h.sides d]
      refine (Part.derivedSide_congr d fun m hm => ?_).symm
      have hne : m ≠ l := fun hml => hd (hml ▸ hm.symm)
      have heq := hothers m hne
      rw [Part.moveLane] at heq
      rw [heq]
  · rw [Part.moveLane, Part.sideTakes_engine]
    exact (hlog _).buffer h.buffer

theorem Part.rangesSound.evaluateLane {p : Part} (h : p.rangesSound) (l : Lane) : (p.evaluateLane l).rangesSound := by
  have hmove := fun enter new log hrange (hlog : ∀ q : Part, q.Aside (log q)) =>
    h.moveLane l id enter new (log := log) hrange hlog
  rw [p.modLane_self l id rfl] at hmove
  rcases p.evaluateLane_cases l with he | ⟨-, d, he⟩ | ⟨hs, he⟩ | ⟨hs, he⟩ | ⟨hs, he⟩ <;> rw [he]
  · exact h
  · unfold Part.suppress; split
    · exact h
    · exact (h.modLane l _ rfl (h.lanes l)).aside (Part.aside_event _ _ _ _ _)
  · refine hmove _ .down _ ((h.lanes l).down ((h.lanes l).requalify_ne fun ho => ?_) _)
      fun q => (q.aside_raise _).trans (aside_laneEvent _ _ _ _)
    simp [ho, LaneState.inService] at hs
  · exact hmove id .degraded _ ((h.lanes l).degraded hs) (aside_laneEvent _ _ _)
  · exact hmove _ .active _ ((h.lanes l).recovered hs p.now) (aside_laneEvent _ _ _)

theorem Part.streamsOnly_unhold (p : Part) (n : StreamId) (h : Held) : p.StreamsOnly (p.unhold n h) :=
  ((p.streamsOnly_modStream _ _).trans (Part.streamsOnly_freeSlot _ _)).trans (Part.streamsOnly_freeBlocks _ _)

theorem ranged_rangesSound : Ranged Part.rangesSound := fun _ h => ⟨h.lanes, h.storms⟩

theorem keptByBindings_rangesSound : KeptByBindings Part.rangesSound where
  aside k h := h.aside k
  retimed k h := h.streamsOnly k.streamsOnly
  bind n f k _ h := h.streamsOnly ((Part.streamsOnly_modStream _ n f).trans (Part.streamsOnly_bind _ n k))

theorem kept_rangesSound : Kept Part.rangesSound where
  aside k h := h.aside k
  lanes ls hls h := h.withLanes ls fun l => ⟨(hls l).1, (hls l).2 ranged_rangesSound⟩
  change l edit enter new log _ _ hrange hlog h :=
    keptByBindings_rangesSound.changeLane (h.moveLane l edit enter new (hrange ranged_rangesSound) hlog)
  stream n f _ _ _ h := h.streamsOnly (Part.streamsOnly_modStream _ n f)
  carried n f _ _ _ _ h := h.streamsOnly (Part.streamsOnly_modStream _ n f)
  ended n f _ _ _ h := h.streamsOnly (Part.streamsOnly_modStream _ n f)
  bind := keptByBindings_rangesSound.bind
  dispatchHead n _ _ h := h.streamsOnly (Part.streamsOnly_dispatchHead _ n)
  retire n e _ h := h.streamsOnly (Part.streamsOnly_retire _ n e)
  unhold n x _ h := h.streamsOnly (Part.streamsOnly_unhold _ n x)
  emptyStream n failed h := h.streamsOnly (Part.streamsOnly_emptyStream _ n failed)
  evaluateAll h := keptByBindings_rangesSound.streamsFollow
    ((((h.evaluateLane .a0).evaluateLane .a1).evaluateLane .b0).evaluateLane .b1) _

/-! ### The commands that set them -/

/-- A clamped value keeps the thresholds in order and the storm limit in its range (R81, R96). -/
theorem Params.store_sound {q : Params} (hord : q.ordered) (hstorm : q.stormRewinds ≤ 63) (k : Param) (v : Nat) :
    (q.store k (q.clamped k v)).ordered ∧ (q.store k (q.clamped k v)).stormRewinds ≤ 63 := by
  obtain ⟨hclear, hwarn, hdown⟩ := hord
  cases k with
  | clearLevel | warnLevel | downLevel | stormRewinds =>
    simp only [Params.store, Params.ordered, Params.clamped, Param.range, clampTo]
    omega
  | beatInterval | leak | holdDown | qualTolerance | margin | deadlineMin | deadlineMax | streamWindow | stallLimit
  | drainLimit | suspectWindow | returnDelay | sourceNode | fabricIdentity | attentionSet | counterHalfSet =>
    exact ⟨⟨hclear, hwarn, hdown⟩, hstorm⟩

theorem rangesSound_powerOn (pins : BitVec 3) : (Part.powerOn pins).rangesSound where
  lanes l := by
    have h : LaneRec.powerOn.rangesHold := by
      simp [LaneRec.rangesHold, LaneRec.powerOn, LaneState.inService, Timers.stopped]
    cases l <;> exact h
  ordered := by simp [Part.powerOn, Params.powerOn, Params.ordered]
  storms := by simp [Part.powerOn, Params.powerOn]
  sides d := by cases d <;> rfl
  buffer := rfl

theorem Part.rangesSound.handOver {p : Part} (h : p.rangesSound) (q : HostRecord) (k : ReqKind) (r : Route) :
    (p.handOver q k r).rangesSound := by
  have hrequest : (p.withRequest q k).rangesSound :=
    { lanes := fun l => by rw [Part.lane, p.withRequest_lanes]; exact h.lanes l
      ordered := p.withRequest_params q k ▸ h.ordered
      storms := p.withRequest_params q k ▸ h.storms
      sides := h.sides.congr (fun d => by cases d <;> simp [Part.side, p.withRequest_sides])
        (fun l => by simp [Part.lane, p.withRequest_lanes])
      buffer := by rw [p.withRequest_engine]; exact Memory.store_wf h.buffer _ _ }
  have hgiven : (p.given q k r).rangesSound := by
    unfold Part.given; split
    · exact hrequest.streamsOnly (Part.streamsOnly_dispatch _ _ _)
    · exact hrequest.streamsOnly (Part.streamsOnly_holdWork _ _ _)
  rw [p.handOver_eq]
  refine Part.rangesSound.aside ?_ (Part.aside_flushIfEmpty _)
  split
  · exact hgiven.streamsOnly (Part.streamsOnly_bind _ _ _)
  · exact hgiven

theorem keptBy_rangesSound {c : Instr} {p : Part} (h : p.rangesSound) : KeptBy Part.rangesSound c p where
  powerOn pins _ := rangesSound_powerOn pins
  passes _ q k r _ _ := h.handOver q k r
  route _ _ _ := ⟨h.lanes, h.ordered, h.storms, h.sides.congr (fun d => by cases d <;> rfl) fun _ => rfl, h.buffer⟩
  param _ k v :=
    have hparams := Params.store_sound h.ordered h.storms k v
    ⟨h.lanes, hparams.1, hparams.2, h.sides.congr (fun d => by cases d <;> rfl) fun _ => rfl, h.buffer⟩
  pop _ := ⟨h.lanes, h.ordered, h.storms, h.sides.congr (fun d => by cases d <;> rfl) fun _ => rfl, h.buffer⟩
  clear _ := ⟨h.lanes, h.ordered, h.storms, h.sides.congr (fun d => by cases d <;> rfl) fun _ => rfl, h.buffer⟩

/-- Settles O58: `rangesSound` is kept by every move, so by every step. -/
theorem stepKeepsRanges : Obligations.StepKeepsRanges := by
  rintro s s' ⟨hlanes, hord, hstorm, hsides, hbuf⟩ hx
  have h : s.part.rangesSound := ⟨hlanes, hord, hstorm, hsides, hbuf⟩
  obtain ⟨hlanes', hord', hstorm', hsides', hbuf'⟩ := kept_rangesSound.step (fun _ => keptBy_rangesSound h) h hx
  exact ⟨hlanes', hord', hstorm', hsides', hbuf'⟩

end Sys2Proof.Machine
end

section
/-! What the events that reach every stream leave of each of them, and O59: carriers stand exactly where the states have
them. -/

namespace Sys2Proof.Machine

/-! ### Every stream in turn -/

theorem Part.StreamsOnly.stallEnd {p q : Part} (h : p.StreamsOnly q) : q.stallEnd = p.stallEnd := by
  simp [Part.stallEnd, h.now, h.params]

/-- An edit of a stream's record and then its entry to BINDING (R114). -/
theorem Part.modStream_bind_stream_self (p : Part) (n : StreamId) (f : StreamRec → StreamRec) (k : BindingKind) :
    ((p.modStream n f).bind n k).stream n = (f (p.stream n)).rebound p.now k p.stallEnd
      (p.choose (f (p.stream n)).preferred (f (p.stream n)).tried k) := by
  rw [Part.bind_stream_self, Part.chooseFor, (p.streamsOnly_modStream n f).choose, (p.streamsOnly_modStream n f).stallEnd,
    Part.modStream_stream_self]
  rfl

theorem Part.modStream_bind_stream_of_ne (p : Part) {n m : StreamId} (h : m ≠ n) (f : StreamRec → StreamRec)
    (k : BindingKind) : ((p.modStream n f).bind n k).stream m = p.stream m := by
  rw [Part.bind_stream_of_ne _ h, p.modStream_stream_of_ne h]

/-- What a fold over the streams leaves of each, when each step reaches its own stream alone. -/
theorem Part.foldl_stream {f : Part → StreamId → Part} (p : Part) (g : StreamId → StreamRec)
    (honly : ∀ (q : Part) n, q.StreamsOnly (f q n)) (hothers : ∀ (q : Part) n m, m ≠ n → (f q n).stream m = q.stream m)
    (hself : ∀ (q : Part) n, p.StreamsOnly q → q.stream n = p.stream n → (f q n).stream n = g n) (n : StreamId) :
    (allStreams.foldl f p).stream n = g n := by
  have hrest : ∀ (xs : List StreamId) (q : Part), n ∉ xs → (xs.foldl f q).stream n = q.stream n := by
    intro xs
    induction xs with
    | nil => exact fun _ _ => rfl
    | cons x xs ih =>
      intro q hn
      rw [List.mem_cons, not_or] at hn
      rw [List.foldl_cons, ih _ hn.2, hothers q x n hn.1]
  have hfold : ∀ (xs : List StreamId) (q : Part), p.StreamsOnly q → q.stream n = p.stream n → xs.Nodup → n ∈ xs →
      (xs.foldl f q).stream n = g n := by
    intro xs
    induction xs with
    | nil => intro q _ _ _ hn; simp at hn
    | cons x xs ih =>
      intro q hq hqn hnodup hn
      rw [List.nodup_cons] at hnodup
      rw [List.foldl_cons]
      by_cases hx : n = x
      · subst hx
        rw [hrest xs _ hnodup.1, hself q n hq hqn]
      · refine ih _ (hq.trans (honly q x)) ((hothers q x n hx).trans hqn) hnodup.2 ?_
        exact (List.mem_cons.mp hn).resolve_left hx
  exact hfold allStreams p (.refl p) rfl (List.nodup_finRange 64) (List.mem_finRange n)

/-- What a failover off a lane leaves of a record on it (R115). -/
def Part.failedOver (p : Part) (l : Lane) (r : StreamRec) : StreamRec :=
  (r.lostCarrier l).rebound p.now ⟨r.manualTarget, none⟩ p.stallEnd
    (p.choose r.preferred (r.lostCarrier l).tried ⟨r.manualTarget, none⟩)

theorem Part.failover_stream_self (p : Part) (n : StreamId) (l : Lane) :
    (p.failover n l).stream n = p.failedOver l (p.stream n) := by
  rw [Part.failover]
  rw [Part.migrated_stream, Part.modStream_bind_stream_self]
  rfl

theorem Part.failover_stream_of_ne (p : Part) {n m : StreamId} (h : m ≠ n) (l : Lane) :
    (p.failover n l).stream m = p.stream m := by
  rw [Part.failover]
  rw [Part.migrated_stream, Part.modStream_bind_stream_of_ne _ h]

/-- A lane's failover takes up exactly the streams it carries (R115). -/
theorem Part.failoverAll_stream (p : Part) (l : Lane) (n : StreamId) :
    (p.failoverAll l).stream n =
      if (p.stream n).carrier = some l then p.failedOver l (p.stream n) else p.stream n := by
  refine p.foldl_stream (fun n => if (p.stream n).carrier = some l then p.failedOver l (p.stream n) else p.stream n)
    (fun q n => ?_) (fun q n m hm => ?_) (fun q n hq hqn => ?_) n
  · split
    · exact q.streamsOnly_failover n l
    · exact .refl q
  · split
    · exact q.failover_stream_of_ne hm l
    · rfl
  · rw [hqn]
    split
    · rw [q.failover_stream_self, hqn, Part.failedOver, hq.now, hq.stallEnd, hq.choose]
      rfl
    · exact hqn

/-- What a release leaves of a STALLED record (R126). -/
def Part.releasedTo (p : Part) (r : StreamRec) : StreamRec :=
  ({ r with tried := .empty } : StreamRec).rebound p.now .plain p.stallEnd (p.choose r.preferred .empty .plain)

/-- The release of STALLED streams takes up exactly those (R126). -/
theorem Part.releaseStalled_stream (p : Part) (n : StreamId) :
    p.releaseStalled.stream n = if (p.stream n).state = .stalled then p.releasedTo (p.stream n) else p.stream n := by
  refine p.foldl_stream (fun n => if (p.stream n).state = .stalled then p.releasedTo (p.stream n) else p.stream n)
    (fun q n => ?_) (fun q n m hm => ?_) (fun q n hq hqn => ?_) n
  · split
    · exact (q.streamsOnly_modStream n _).trans (Part.streamsOnly_bind _ _ _)
    · exact .refl q
  · split
    · exact q.modStream_bind_stream_of_ne hm _ _
    · rfl
  · rw [hqn]
    split
    · rw [Part.release, q.modStream_bind_stream_self, hqn, hq.now, hq.stallEnd, hq.choose]
      rfl
    · exact hqn

/-! ### Carriers -/

/-- A stream has a carrier exactly in the states that have one, and its carrier is in service or one of some lanes. -/
def Part.carriersBut (S : Lane → Prop) (p : Part) : Prop :=
  ∀ n, ((p.stream n).state.carried = true ↔ (p.stream n).carrier ≠ none) ∧
    ∀ l, (p.stream n).carrier = some l → (p.lane l).state.inService = true ∨ S l

theorem Part.carriersHold_iff (p : Part) : p.carriersHold ↔ p.carriersBut (fun _ => False) := by
  simp [Part.carriersHold, Part.carriersBut]

/-- The same of one record, with the lanes of a part. -/
theorem Part.carriersBut.congr {S T : Lane → Prop} {p q : Part} (h : p.carriersBut S)
    (hstream : ∀ n, (q.stream n).state = (p.stream n).state ∧ (q.stream n).carrier = (p.stream n).carrier)
    (hlane : ∀ n l, (p.stream n).carrier = some l → (p.lane l).state.inService = true ∨ S l →
      (q.lane l).state.inService = true ∨ T l) : q.carriersBut T := fun n => by
  obtain ⟨hs, hc⟩ := hstream n
  rw [hs, hc]
  exact ⟨(h n).1, fun l hl => hlane n l hl ((h n).2 l hl)⟩

theorem Part.carriersBut.of_eq {S : Lane → Prop} {p q : Part} (h : p.carriersBut S)
    (hstream : ∀ n, (q.stream n).state = (p.stream n).state ∧ (q.stream n).carrier = (p.stream n).carrier)
    (hlane : ∀ l, (q.lane l).state = (p.lane l).state) : q.carriersBut S :=
  h.congr hstream fun _ l _ hl => by rwa [hlane]

/-- One stream's record changes, no lane's state does. -/
theorem Part.carriersBut.one {S : Lane → Prop} {p q : Part} (h : p.carriersBut S) (n : StreamId)
    (hothers : ∀ m, m ≠ n → (q.stream m).state = (p.stream m).state ∧ (q.stream m).carrier = (p.stream m).carrier)
    (hlane : ∀ l, (q.lane l).state = (p.lane l).state)
    (hself : ((q.stream n).state.carried = true ↔ (q.stream n).carrier ≠ none) ∧
      ∀ l, (q.stream n).carrier = some l → (p.lane l).state.inService = true ∨ S l) : q.carriersBut S := fun m => by
  by_cases hm : m = n
  · subst hm
    exact ⟨hself.1, fun l hl => hlane l ▸ hself.2 l hl⟩
  · obtain ⟨hs, hc⟩ := hothers m hm
    rw [hs, hc]
    exact ⟨(h m).1, fun l hl => hlane l ▸ (h m).2 l hl⟩

/-- A choice finds lanes in service alone (R109). -/
theorem Part.choose_inService {p : Part} {pref : Lane} {tried : LaneSet} {k : BindingKind} {l : Lane}
    (h : p.choose pref tried k = some l) : (p.lane l).state.inService = true :=
  (LaneState.inService_iff _).mpr ((p.eligible_iff _ _ _).mp (p.choose_eligible _ _ _ _ h)).1

/-- A binding stands on a lane in service, or on none in STALLED (R114, R125). -/
theorem StreamRec.rebound_carries (r : StreamRec) (now : Micros) (k : BindingKind) (deadline : Micros) (c : Option Lane) :
    (r.rebound now k deadline c).state.carried = true ↔ (r.rebound now k deadline c).carrier ≠ none := by
  cases c <;> simp [StreamState.carried]

theorem Part.carriersBut.bind {S : Lane → Prop} {p : Part} (h : p.carriersBut S) (n : StreamId)
    (f : StreamRec → StreamRec) (k : BindingKind) : ((p.modStream n f).bind n k).carriersBut S := by
  have honly := (p.streamsOnly_modStream n f).trans (Part.streamsOnly_bind _ n k)
  refine h.one n (fun m hm => by simp [p.modStream_bind_stream_of_ne hm]) honly.state ?_
  rw [p.modStream_bind_stream_self]
  refine ⟨StreamRec.rebound_carries _ _ _ _ _, fun l hl => ?_⟩
  rw [StreamRec.rebound_carrier] at hl
  exact .inl (Part.choose_inService hl)

theorem keptByBindings_carriersBut (S : Lane → Prop) : KeptByBindings (Part.carriersBut S) where
  aside k h := h.of_eq (fun n => by simp [k.stream n]) fun l => by rw [k.lane l]
  retimed k h := h.of_eq (fun n => by rw [k.stream n]; simp) fun l => by rw [k.lane l]
  bind n f k _ h := h.bind n f k

/-- After its failover no stream is left on a lane out of service (R115). -/
theorem Part.carriersBut.failoverAll {S : Lane → Prop} {p : Part} (h : p.carriersBut S) (l : Lane) :
    (p.failoverAll l).carriersBut (fun m => S m ∧ m ≠ l) := by
  have hstate := (p.streamsOnly_failoverAll l).state
  intro n
  rw [p.failoverAll_stream]
  split
  · refine ⟨StreamRec.rebound_carries _ _ _ _ _, fun m hm => .inl ?_⟩
    rw [hstate]
    exact Part.choose_inService (by rwa [Part.failedOver, StreamRec.rebound_carrier] at hm)
  · next hc =>
    refine ⟨(h n).1, fun m hm => ?_⟩
    rw [hstate]
    exact ((h n).2 m hm).imp_right fun hs => ⟨hs, fun hml => hc (hml ▸ hm)⟩

/-- Once the streams have followed a change of lane state, every carrier is in service (R66). -/
theorem Part.carriersBut.streamsTake {p : Part} {l : Lane} {old new : LaneState}
    (h : p.carriersBut (fun m => m = l ∧ old.inService = true ∧ new.inService = false)) :
    (p.streamsTake l old new).carriersHold := by
  have hfail : (if old.inService = true ∧ new.inService = false then p.failoverAll l else p).carriersBut (fun _ => False) := by
    split
    · exact (h.failoverAll l).congr (fun _ => ⟨rfl, rfl⟩) fun _ m _ hm => hm.imp_right fun hs => hs.2 hs.1.1
    · next hc => exact h.congr (fun _ => ⟨rfl, rfl⟩) fun _ m _ hm => hm.imp_right fun hs => hc hs.2
  have hI := keptByBindings_carriersBut (fun _ => False)
  rw [Part.carriersHold_iff]
  unfold Part.streamsTake
  dsimp only
  refine hI.retimed (Part.retimed_judgeReturns _ l) ?_
  split
  · exact hI.releaseStalled hfail
  · exact hfail

/-- The same of the changes that one event has made at several lanes. -/
theorem Part.carriersBut.streamsFollow {p was : Part}
    (h : p.carriersBut (fun m => (was.lane m).state.inService = true ∧ (p.lane m).state.inService = false)) :
    (p.streamsFollow was).carriersHold := by
  have hfold : ∀ (ls : List Lane) (q : Part) (S : Lane → Prop), q.carriersBut S →
      (∀ m, S m → (was.lane m).state.inService = true ∧ (p.lane m).state.inService = false) →
      (ls.foldl (fun q l => if (was.lane l).state.inService = true ∧ (p.lane l).state.inService = false
        then q.failoverAll l else q) q).carriersBut (fun m => S m ∧ m ∉ ls) := by
    intro ls
    induction ls with
    | nil => exact fun q S hq _ => hq.congr (fun _ => ⟨rfl, rfl⟩) fun _ m _ hm => hm.imp_right fun hs => ⟨hs, by simp⟩
    | cons l ls ih =>
      intro q S hq hS
      rw [List.foldl_cons]
      refine (ih _ (fun m => S m ∧ m ≠ l) ?_ fun m hm => hS m hm.1).congr (fun _ => ⟨rfl, rfl⟩)
        fun _ m _ hm => hm.imp_right fun hs => ⟨hs.1.1, by simp [hs.1.2, hs.2]⟩
      split
      · exact hq.failoverAll l
      · next hc =>
        exact hq.congr (fun _ => ⟨rfl, rfl⟩) fun _ m _ hm => hm.imp_right fun hs => ⟨hs, fun hml => hc (hml ▸ hS m hs)⟩
  have hfail := (hfold Lane.all p _ h fun _ hm => hm).congr (T := fun _ => False) (fun _ => ⟨rfl, rfl⟩)
    fun _ m _ hm => hm.imp_right fun hs => hs.2 (by cases m <;> decide)
  have hI := keptByBindings_carriersBut (fun _ => False)
  rw [Part.carriersHold_iff]
  unfold Part.streamsFollow
  dsimp only
  refine foldl_keeps (fun q l hq => by
    split
    · exact hq
    · exact hI.retimed (q.retimed_judgeReturns l) hq) _ ?_
  split
  · exact hI.releaseStalled hfail
  · exact hfail

/-- A threshold evaluation at a lane and its side reaches no stream. -/
theorem Part.evaluateLane_engine (p : Part) (l : Lane) : (p.evaluateLane l).engine = p.engine := by
  rcases p.evaluateLane_cases l with he | ⟨-, d, he⟩ | ⟨-, he⟩ | ⟨-, he⟩ | ⟨-, he⟩ <;> rw [he]
  · unfold Part.suppress; split <;> rfl
  · exact p.moveLane_engine l _ _ fun q => by simp [laneEvent]
  · exact p.moveLane_engine l _ _ fun q => by simp [laneEvent]
  · exact p.moveLane_engine l _ _ fun q => by simp [laneEvent]

theorem kept_carriersHold : Kept Part.carriersHold := by
  have hI := keptByBindings_carriersBut (fun _ => False)
  have hone : ∀ {p : Part} (n : StreamId) (f : StreamRec → StreamRec), p.carriersHold →
      (((f (p.stream n)).state.carried = true ↔ (f (p.stream n)).carrier ≠ none) ∧
        ∀ l, (f (p.stream n)).carrier = some l → (p.lane l).state.inService = true) → (p.modStream n f).carriersHold :=
    fun {p} n f h hself => (Part.carriersHold_iff _).mpr (((Part.carriersHold_iff p).mp h).one n
      (fun m hm => by simp [p.modStream_stream_of_ne hm]) (fun _ => rfl) (by simpa using hself))
  have honly : ∀ {p q : Part}, p.StreamsOnly q → (∀ n, (q.stream n).state = (p.stream n).state ∧
      (q.stream n).carrier = (p.stream n).carrier) → p.carriersHold → q.carriersHold := fun k hs h =>
    (Part.carriersHold_iff _).mpr (((Part.carriersHold_iff _).mp h).of_eq hs k.state)
  refine
  { aside := fun k h => (Part.carriersHold_iff _).mpr (hI.aside k ((Part.carriersHold_iff _).mp h))
    lanes := fun ls hls h n => ⟨(h n).1, fun l hl => (hls l).1 ▸ (h n).2 l hl⟩
    change := ?change
    stream := fun n f hs hc _ h => hone n f h (hs ▸ hc ▸ h n)
    carried := fun {p} n f hs hc hsame _ h => hone n f h ?carried
    ended := fun {p} n f hs hc _ h => hone n f h ?ended
    bind := fun n f k hold h => (Part.carriersHold_iff _).mpr (hI.bind n f k hold ((Part.carriersHold_iff _).mp h))
    dispatchHead := fun {p} n hr hf => honly (p.streamsOnly_dispatchHead n) fun m =>
      have hd := p.dispatchHead_dispatched n hr hf m
      ⟨hd.state, hd.carrier⟩
    retire := fun {p} n e _ => honly (p.streamsOnly_retire n e) fun m => by
      rw [p.retire_stream]; split <;> exact ⟨rfl, rfl⟩
    unhold := fun {p} n x _ => honly (p.streamsOnly_unhold n x) fun m => by
      rw [p.unhold_stream]; split <;> exact ⟨rfl, rfl⟩
    emptyStream := fun {p} n failed => honly (p.streamsOnly_emptyStream n failed) fun m => by
      rw [p.emptyStream_stream]; split <;> exact ⟨rfl, rfl⟩
    evaluateAll := ?all }
  case change =>
    intro p l edit enter new log hedit henter _ hlog h
    have hstream := fun n => (p.modLane l edit).moveLane_stream l new enter (fun q m => (hlog q).stream m) n
    have hself := (p.modLane l edit).moveLane_lane_self l new enter fun q => (hlog q).lanes
    have hlanes := fun m (hm : m ≠ l) => (p.modLane l edit).moveLane_lane_of_ne hm new enter fun q => (hlog q).lanes
    refine Part.carriersBut.streamsTake fun n => ?_
    rw [hstream n]
    refine ⟨(h n).1, fun m hm => ?_⟩
    have hserve : (p.lane m).state.inService = true := (h n).2 m hm
    by_cases hml : m = l
    · subst hml
      rw [hself, Part.modLane_lane_self, henter, hedit]
      cases hnew : new.inService with
      | true => exact .inl rfl
      | false => exact .inr ⟨rfl, hserve, rfl⟩
    · rw [hlanes m hml, p.modLane_lane_of_ne hml]
      exact .inl hserve
  case carried =>
    rw [hsame]
    exact ⟨⟨fun _ => hc.elim id fun hst => (h n).1.mp hst, fun _ => hs⟩, (h n).2⟩
  case ended =>
    have hout : (f (p.stream n)).state.carried = false := by rcases hs with hs | hs <;> rw [hs] <;> rfl
    have hnone : (f (p.stream n)).carrier = none := by
      rcases hc with hc | ⟨hc, hst⟩
      · exact hc
      · rw [hc]
        exact Classical.not_not.mp fun hne => by simp [(h n).1.mpr hne] at hst
    simp [hout, hnone]
  case all =>
    intro p h
    refine Part.carriersBut.streamsFollow fun n => ?_
    have hstream : ∀ q : Part, q.engine = p.engine → q.stream n = p.stream n := fun q hq => by simp [Part.stream, hq]
    rw [hstream _ (by simp [Part.evaluateLane_engine])]
    refine ⟨(h n).1, fun l hl => ?_⟩
    cases hserve : ((((p.evaluateLane .a0).evaluateLane .a1).evaluateLane .b0).evaluateLane .b1 |>.lane l).state.inService with
    | true => exact .inl rfl
    | false => exact .inr ⟨(h n).2 l hl, hserve⟩

theorem carriersHold_powerOn (pins : BitVec 3) : (Part.powerOn pins).carriersHold := fun n => by
  have h : (Part.powerOn pins).stream n = StreamRec.powerOn := by simp [Part.stream, Part.powerOn]
  rw [h]
  simp [StreamRec.powerOn, StreamState.carried]

theorem Part.given_lane_state (p : Part) (q : HostRecord) (k : ReqKind) (r : Route) (l : Lane) :
    ((p.given q k r).lane l).state = (p.lane l).state := by
  have hlane : ((p.withRequest q k).lane l).state = (p.lane l).state := by simp [Part.lane, p.withRequest_lanes]
  unfold Part.given
  split
  · rw [(Part.streamsOnly_dispatch _ _ _).state, hlane]
  · rw [(Part.streamsOnly_holdWork _ _ _).state, hlane]

theorem Part.carriersHold.handOver {p : Part} (h : p.carriersHold) {q : HostRecord} {k : ReqKind} {r : Route}
    (hv : p.verdict q = .passes k r) : (p.handOver q k r).carriersHold := by
  have hgiven : (p.given q k r).carriersHold := by
    rw [Part.carriersHold_iff] at h ⊢
    refine h.of_eq (fun n => ?_) (p.given_lane_state q k r)
    rw [(Part.given_stream hv n).1]
    exact ⟨rfl, rfl⟩
  rw [p.handOver_eq]
  refine kept_carriersHold.aside (Part.aside_flushIfEmpty _) ?_
  split
  · exact kept_carriersHold.bindPlain hgiven _ _
  · exact hgiven

theorem keptBy_carriersHold {c : Instr} {p : Part} (h : p.carriersHold) : KeptBy Part.carriersHold c p where
  powerOn pins _ := carriersHold_powerOn pins
  passes _ _ _ _ _ hv := h.handOver hv
  route _ _ _ := h
  param _ _ _ := h
  pop _ := h
  clear _ := h

/-- Settles O59: a carrier comes only from a choice, which finds lanes in service, and a lane that leaves service loses
its streams to failover. -/
theorem stepKeepsCarriers : Obligations.StepKeepsCarriers := fun s _ h hx =>
  kept_carriersHold.step (fun _ => keptBy_carriersHold h) h hx

end Sys2Proof.Machine
end

section
/-! O4: parameters and routes move only by their own commands. Then what a step is (O1, O2, O3), the part at power-on (O5)
and the soundness it starts with (O56). -/

namespace Sys2Proof.Machine

/-! ### Parameters and routes -/

/-- Two parts with the same parameters and the same route table. -/
structure Part.SameTables (p q : Part) : Prop where
  params : q.params = p.params
  routes : q.intake.routes = p.intake.routes

theorem Part.SameTables.refl (p : Part) : p.SameTables p := ⟨rfl, rfl⟩
theorem Part.SameTables.trans {p q r : Part} (h : p.SameTables q) (k : q.SameTables r) : p.SameTables r :=
  ⟨k.params.trans h.params, k.routes.trans h.routes⟩
theorem Part.Aside.tables {p q : Part} (h : p.Aside q) : p.SameTables q := ⟨h.params, h.routes⟩
theorem Part.StreamsOnly.tables {p q : Part} (h : p.StreamsOnly q) : p.SameTables q := ⟨h.params, by rw [h.intake]⟩
theorem Part.LaneWork.tables {p q : Part} (h : p.LaneWork q) : p.SameTables q := ⟨h.params, by rw [h.intake]⟩

theorem Part.tables_changeLane (p : Part) (l : Lane) (new : LaneState) (enter : LaneRec → LaneRec) {log : Part → Part}
    (hlog : ∀ q : Part, q.Aside (log q)) : p.SameTables (p.changeLane l new enter log) :=
  ((p.laneWork_modLane l (fun r => enter (r.moved new))).tables.trans (hlog _).tables).trans
    ((Part.laneWork_sideTakes _ l _ new).trans (Part.laneWork_streamsTake _ l _ new)).tables

theorem Part.tables_evaluateAll (p : Part) : p.SameTables p.evaluateAll :=
  ((((p.laneWork_evaluateLane .a0).trans (Part.laneWork_evaluateLane _ .a1)).trans
    (Part.laneWork_evaluateLane _ .b0)).trans (Part.laneWork_evaluateLane _ .b1)).tables.trans
    (Part.streamsOnly_streamsFollow _ p).tables

/-- No move reaches the parameters or the routes. -/
theorem kept_tables (P : Params → Vector Route 32 → Prop) : Kept (fun p => P p.params p.intake.routes) := by
  have hkeep : ∀ {p q : Part}, p.SameTables q → P p.params p.intake.routes → P q.params q.intake.routes :=
    fun k h => by rw [k.params, k.routes]; exact h
  exact
  { aside := fun k h => hkeep k.tables h
    lanes := fun _ _ h => h
    change := fun {p} l edit enter new log _ _ _ hlog h => hkeep ((p.modLane l edit).tables_changeLane l new enter hlog) h
    stream := fun _ _ _ _ _ h => h
    carried := fun _ _ _ _ _ _ h => h
    ended := fun _ _ _ _ _ h => h
    bind := fun {p} n f k _ h => hkeep ((p.modStream n f).streamsOnly_bind n k).tables h
    dispatchHead := fun {p} n _ _ h => hkeep (p.streamsOnly_dispatchHead n).tables h
    retire := fun {p} n e _ h => hkeep (p.streamsOnly_retire n e).tables h
    unhold := fun {p} n x _ h => hkeep (p.streamsOnly_unhold n x).tables h
    emptyStream := fun {p} n failed h => hkeep (p.streamsOnly_emptyStream n failed).tables h
    evaluateAll := fun {p} h => hkeep p.tables_evaluateAll h }

theorem Part.tables_handOver (p : Part) (q : HostRecord) (k : ReqKind) (r : Route) : p.SameTables (p.handOver q k r) := by
  have hrequest : p.SameTables (p.withRequest q k) := by
    unfold Part.withRequest; dsimp only; split
    · exact p.aside_leaveQueue.tables.trans ⟨rfl, rfl⟩
    · exact p.aside_leaveQueue.tables.trans ⟨rfl, rfl⟩
  have hgiven : p.SameTables (p.given q k r) := by
    unfold Part.given; split
    · exact hrequest.trans (Part.streamsOnly_dispatch _ _ _).tables
    · exact hrequest.trans (Part.streamsOnly_holdWork _ _ _).tables
  rw [p.handOver_eq]
  refine Part.SameTables.trans ?_ (Part.aside_flushIfEmpty _).tables
  split
  · exact hgiven.trans (Part.streamsOnly_bind _ _ _).tables
  · exact hgiven

/-- Settles O4: no move reaches parameters or routes, and of the commands that do, each reaches its own. -/
theorem tablesMoveByCommand : Obligations.TablesMoveByCommand := by
  intro c p p' w hon hx
  refine ⟨fun hparam => ?_, fun hwrite hclear => ?_⟩
  · refine (kept_tables (fun params _ => params = p.params)).exec (p := p) ?_ rfl hx
    exact ⟨fun pins hc => absurd hc (hon pins), fun _ q k r _ _ => (p.tables_handOver q k r).params, fun _ _ _ => rfl,
      fun ⟨id, value, hc⟩ => absurd hc (hparam id value), fun _ => rfl, fun _ => rfl⟩
  · refine (kept_tables (fun _ routes => routes = p.intake.routes)).exec (p := p) ?_ rfl hx
    refine ⟨fun pins hc => absurd hc (hon pins), fun _ q k r _ _ => (p.tables_handOver q k r).routes, ?_, fun _ _ _ => rfl,
      fun _ => rfl, fun _ => rfl⟩
    rintro (⟨i, b, u, t, n, s, l, o, a, hc⟩ | ⟨i, hc⟩)
    · exact absurd hc (hwrite i b u t n s l o a)
    · exact absurd hc (hclear i)

/-! ### Steps -/

/-- Settles O1. -/
theorem stepTakesFront : Obligations.StepTakesFront := fun _ _ _ => rfl

/-- Settles O2, by the due events. -/
theorem idleStepTakesDueEvent : Obligations.IdleStepTakesDueEvent := fun p => by
  refine ⟨fun c cs hdue => ?_, fun hdue => ?_⟩
  · simp [step, State.idle, hdue]
  · simp [step, State.idle, hdue, Part.tick]

/-- Settles O3: every command is the application of a function to the part. -/
theorem everyCommandAnswersNext : Obligations.EveryCommandAnswersNext := fun c p w => by
  cases c <;> exact ⟨_, rfl⟩

/-! ### Power-on -/

theorem Part.powerOn_stream (pins : BitVec 3) (n : StreamId) : (Part.powerOn pins).stream n = StreamRec.powerOn := by
  simp [Part.stream, Part.powerOn]
theorem Part.powerOn_lane (pins : BitVec 3) (l : Lane) : (Part.powerOn pins).lane l = LaneRec.powerOn := by cases l <;> rfl
theorem Part.powerOn_side (pins : BitVec 3) (d : Side) : (Part.powerOn pins).side d = SideRec.powerOn := by cases d <;> rfl

/-- The fifteen kinds of R152. -/
theorem Params.powerOn_attention (k : Nat) : Params.powerOn.attentionSet.getLsbD k = true ↔
    k ∈ [0x03, 0x05, 0x06, 0x0C, 0x10, 0x11, 0x12, 0x13, 0x14, 0x15, 0x16, 0x1D, 0x1E, 0x1F, 0x20] := by
  by_cases hk : k < 64
  · have hall : ∀ i : Fin 64, Params.powerOn.attentionSet.getLsbD i.val = true ↔
        i.val ∈ [0x03, 0x05, 0x06, 0x0C, 0x10, 0x11, 0x12, 0x13, 0x14, 0x15, 0x16, 0x1D, 0x1E, 0x1F, 0x20] := by decide
    exact hall ⟨k, hk⟩
  · rw [BitVec.getLsbD_of_ge _ _ (Nat.le_of_not_lt hk)]
    simp only [Bool.false_eq_true, List.mem_cons, List.not_mem_nil, or_false, false_iff]
    omega

/-- Settles O5: POWER_ON replaces the part, so each value is read off the power-on records. -/
theorem powerOnValues : Obligations.PowerOnValues := by
  refine ⟨fun _ _ => rfl, fun pins p w => ⟨Part.powerOn pins, rfl, ?_⟩⟩
  refine ⟨rfl, rfl, rfl, rfl, fun t => ?_, fun i => ?_, fun n => ?_, fun l => ?_, fun d => ?_, rfl, fun c => ?_, rfl, rfl,
    ?_, ?_, ?_, rfl, ?_, Params.powerOn_attention, rfl, rfl, rfl⟩
  · simp [Part.powerOn, Intake.tagOpen]
  · simp [Part.powerOn]
  · rw [Part.powerOn_stream]
    exact ⟨rfl, rfl, rfl, rfl, rfl, rfl, rfl, rfl, rfl, rfl, rfl, rfl, rfl, fun l => by cases l <;> rfl, rfl, rfl, rfl, rfl⟩
  · rw [Part.powerOn_lane]
    exact ⟨rfl, rfl, rfl, rfl, rfl, rfl, rfl, rfl, rfl, rfl, rfl, by simp [LaneRec.powerOn], rfl, rfl, rfl, rfl⟩
  · exact Part.powerOn_side pins d
  · simp [Part.powerOn, Part.counter]
  · simp [Part.powerOn]
  · simp [Part.powerOn]
  · simp [Part.powerOn]
  · simp [Part.powerOn, Params.powerOn]

/-- At power-on every entry, slot and block is free, and no stream holds anything. -/
theorem Part.powerOn_poolsHold (pins : BitVec 3) : (Part.powerOn pins).poolsHold := by
  have hnone : ∀ {α : Type} (f : StreamId → List α), (∀ n, f n = []) → allStreams.flatMap f = [] := fun f hf => by
    simp [hf]
  have hin : ∀ n, ((Part.powerOn pins).stream n).inflight = [] := fun n => by rw [Part.powerOn_stream]; rfl
  have hhold : ∀ n, ((Part.powerOn pins).stream n).hold = [] := fun n => by rw [Part.powerOn_stream]; rfl
  refine ⟨?_, ?_, ?_, fun b o => ?_, fun n e he => ?_, fun n x hx => ?_, fun n _ => ⟨hin n, hhold n⟩⟩
  · rw [Part.entriesUsed, hnone _ fun n => by simp [hin], List.append_nil]; simp [Part.powerOn]
  · rw [Part.slotsUsed, hnone _ fun n => by simp [hhold], List.append_nil]; simp [Part.powerOn]
  · rw [Part.blocksUsed, hnone _ fun n => by simp [hin, hhold], List.append_nil]; simp [Part.powerOn]
  · have howner : (Part.powerOn pins).engine.owners.get b = none := by simp [Part.powerOn]
    rw [howner]
    cases o <;> simp [hin, hhold]
  · simp [hin] at he
  · simp [hhold] at hx

theorem Part.powerOn_seqsHold (pins : BitVec 3) : (Part.powerOn pins).seqsHold := fun n => by
  rw [Part.powerOn_stream]
  simp [StreamRec.powerOn]

/-- Settles O56. -/
theorem resetIsSound : Obligations.ResetIsSound :=
  have hranges := rangesSound_powerOn 0
  ⟨EventLog.sound_of_empty rfl (by simp [State.reset, Part.powerOn, EventLog.powerOn]), hranges.lanes, hranges.ordered,
    hranges.storms, hranges.buffer, hranges.sides, carriersHold_powerOn 0, Part.powerOn_poolsHold 0,
    Part.powerOn_seqsHold 0, rfl⟩

end Sys2Proof.Machine
end

section
/-! O60: the pools of the stream engine stay sound. What stands on the in-flight and hold lists is read as a list of
holdings, an owner with its blocks; every operation of the engine removes some, adds one, or leaves them. -/

namespace Sys2Proof.Machine

/-! ### Pools and holdings -/

/-- A holding: an OTT entry or a hold slot, with its data blocks. -/
abbrev Holding := Owner × List BlockIx

/-- Every OTT entry and every hold slot. -/
def allOwners : List Owner := (List.finRange 256).map Owner.entry ++ (List.finRange 64).map Owner.slot

/-- Sound pools of free owners and free blocks beside the holdings `H`: nothing lost, nothing twice, and every block
marked with its owner. -/
structure PoolsSound (free : List Owner) (blocks : List BlockIx) (mark : BlockIx → Option Owner) (H : List Holding) :
    Prop where
  owners : (free ++ H.map Prod.fst).Perm allOwners
  blocks : (blocks ++ H.flatMap Prod.snd).Perm (List.finRange 1024)
  marks : ∀ b o, mark b = some o ↔ ∃ x ∈ H, x.1 = o ∧ b ∈ x.2

theorem allOwners_nodup : allOwners.Nodup := by
  refine List.nodup_append.mpr ⟨(List.nodup_finRange 256).map fun _ _ h => Owner.entry.inj h,
    (List.nodup_finRange 64).map fun _ _ h => Owner.slot.inj h, ?_⟩
  simp

section

variable {free free' : List Owner} {blocks blocks' : List BlockIx} {mark : BlockIx → Option Owner} {H H' L R : List Holding}

theorem PoolsSound.perm (h : PoolsSound free blocks mark H) (hf : free'.Perm free) (hb : blocks'.Perm blocks)
    (hH : H'.Perm H) : PoolsSound free' blocks' mark H' where
  owners := (hf.append (hH.map _)).trans h.owners
  blocks := (hb.append (hH.flatMap_right _)).trans h.blocks
  marks b o := by rw [h.marks]; simp only [hH.mem_iff]

/-- The blocks of holdings let go lose their mark and return to the pool (R21, R23, R24). -/
theorem PoolsSound.remove (h : PoolsSound free blocks mark (L ++ R)) :
    PoolsSound (free ++ L.map Prod.fst) (blocks ++ L.flatMap Prod.snd)
      (fun b => if b ∈ L.flatMap Prod.snd then none else mark b) R where
  owners := by simpa [List.append_assoc] using h.owners
  blocks := by simpa [List.append_assoc] using h.blocks
  marks b o := by
    have hnodup := h.blocks.nodup_iff.mpr (List.nodup_finRange 1024)
    rw [List.flatMap_append, ← List.append_assoc] at hnodup
    have hapart : b ∈ L.flatMap Prod.snd → b ∉ R.flatMap Prod.snd := fun hl hr =>
      (List.nodup_append.mp hnodup).2.2 b (List.mem_append_right _ hl) b hr rfl
    split
    · next hb =>
      simp only [reduceCtorEq, false_iff, not_exists, not_and]
      exact fun x hx _ hbx => hapart hb (List.mem_flatMap.mpr ⟨x, hx, hbx⟩)
    · next hb =>
      rw [h.marks]
      refine ⟨fun ⟨x, hx, hxo, hbx⟩ => ?_, fun ⟨x, hx, hxo⟩ => ⟨x, List.mem_append_right _ hx, hxo⟩⟩
      rcases List.mem_append.mp hx with hx | hx
      · exact absurd (List.mem_flatMap.mpr ⟨x, hx, hbx⟩) hb
      · exact ⟨x, hx, hxo, hbx⟩

/-- A free owner takes free blocks, which it marks (R21, R23, R24). -/
theorem PoolsSound.add {o : Owner} {bs : List BlockIx} (h : PoolsSound (o :: free) (bs ++ blocks) mark R) :
    PoolsSound free blocks (fun b => if b ∈ bs then some o else mark b) ((o, bs) :: R) where
  owners := by
    refine List.Perm.trans ?_ h.owners
    simpa using List.perm_middle
  blocks := by
    refine List.Perm.trans ?_ h.blocks
    simpa [List.append_assoc] using (List.perm_append_comm_assoc blocks bs (R.flatMap Prod.snd))
  marks b o' := by
    have hnodup := h.blocks.nodup_iff.mpr (List.nodup_finRange 1024)
    have hapart : b ∈ bs → b ∉ R.flatMap Prod.snd := fun hl hr =>
      (List.nodup_append.mp hnodup).2.2 b (List.mem_append_left _ hl) b hr rfl
    split
    · next hb =>
      refine ⟨fun ho => ⟨(o, bs), List.mem_cons_self .., Option.some.inj ho, hb⟩, fun ⟨x, hx, hxo, hbx⟩ => ?_⟩
      rcases List.mem_cons.mp hx with rfl | hx
      · exact congrArg some hxo
      · exact absurd (List.mem_flatMap.mpr ⟨x, hx, hbx⟩) (hapart hb)
    · next hb =>
      rw [h.marks]
      refine ⟨fun ⟨x, hx, hxo⟩ => ⟨x, List.mem_cons_of_mem _ hx, hxo⟩, fun ⟨x, hx, hxo, hbx⟩ => ?_⟩
      rcases List.mem_cons.mp hx with rfl | hx
      · exact absurd hbx hb
      · exact ⟨x, hx, hxo, hbx⟩

/-- An owner stands beside one list of blocks. -/
theorem PoolsSound.owner_unique (h : PoolsSound free blocks mark H) {x y : Holding} (hx : x ∈ H) (hy : y ∈ H)
    (hxy : x.1 = y.1) : x = y := by
  have hnodup := h.owners.nodup_iff.mpr allOwners_nodup
  exact List.inj_on_of_nodup_map (List.nodup_append.mp hnodup).2.1 hx hy hxy

theorem PoolsSound.blocks_nodup (h : PoolsSound free blocks mark H) {x : Holding} (hx : x ∈ H) : x.2.Nodup := by
  have hnodup := (List.nodup_append.mp (h.blocks.nodup_iff.mpr (List.nodup_finRange 1024))).2.1
  exact (List.nodup_flatMap.mp hnodup).1 x hx

end

theorem markBlocks_get (owners : Vector (Option Owner) 1024) (bs : List BlockIx) (o : Option Owner) (b : BlockIx) :
    (markBlocks owners bs o).get b = if b ∈ bs then o else owners.get b := by
  unfold markBlocks
  induction bs generalizing owners with
  | nil => simp
  | cons c bs ih =>
    rw [List.foldl_cons, ih]
    by_cases hb : b ∈ bs
    · simp [hb]
    · by_cases hc : b = c
      · subst hc
        simp [Vector.get_eq_getElem]
      · have hval : c.val ≠ b.val := fun hv => hc (Fin.ext hv.symm)
        simp [hb, hc, Vector.get_eq_getElem, Vector.getElem_set_ne _ _ hval]

/-! ### The holdings of the part -/

/-- What a stream's record holds. -/
def StreamRec.holdings (r : StreamRec) : List Holding :=
  r.inflight.map (fun e => (Owner.entry e.index, e.blocks)) ++ r.hold.map (fun x => (Owner.slot x.slot, x.work.blocks))

/-- What the streams hold. -/
def Part.holdings (p : Part) : List Holding := allStreams.flatMap (fun n => (p.stream n).holdings)

/-- What the other streams hold. -/
def Part.othersHold (p : Part) (n : StreamId) : List Holding :=
  (allStreams.erase n).flatMap (fun m => (p.stream m).holdings)

theorem Part.holdings_perm (p : Part) (n : StreamId) : p.holdings.Perm ((p.stream n).holdings ++ p.othersHold n) :=
  (List.perm_cons_erase (List.mem_finRange n)).flatMap_right (fun m => (p.stream m).holdings)

theorem Part.othersHold_congr {p q : Part} {n : StreamId} (h : ∀ m, m ≠ n → q.stream m = p.stream m) :
    q.othersHold n = p.othersHold n := by
  unfold Part.othersHold
  refine List.flatMap_congr fun m hm => ?_
  rw [h m ((List.nodup_finRange 64).mem_erase_iff.mp hm).1]

/-- The owners not in use. -/
def Part.freeOwners (p : Part) : List Owner := p.engine.freeEntries.map Owner.entry ++ p.engine.freeSlots.map Owner.slot

/-- The pools of the part are sound, and what stands on a stream's lists is the stream's own (R21, R24, R166). -/
structure Part.poolsSound (p : Part) : Prop where
  pools : PoolsSound p.freeOwners p.engine.freeBlocks p.engine.owners.get p.holdings
  fates : ∀ n, ∀ e ∈ (p.stream n).inflight, e.agrees n
  holds : ∀ n, ∀ x ∈ (p.stream n).hold, x.stream = n

/-- A stream in IDLE or FAULTED holds nothing (R39, R129). -/
def Part.outEmpty (p : Part) : Prop :=
  ∀ n, (p.stream n).state = .idle ∨ (p.stream n).state = .faulted → (p.stream n).inflight = [] ∧ (p.stream n).hold = []

theorem Part.holdings_owners (p : Part) :
    (p.holdings.map Prod.fst).Perm (p.entriesUsed.map Owner.entry ++ p.slotsUsed.map Owner.slot) := by
  simp only [Part.holdings, Part.entriesUsed, Part.slotsUsed, StreamRec.holdings, List.map_flatMap, List.map_append,
    List.map_map]
  exact (List.flatMap_append_perm _ _ _).symm

theorem Part.holdings_blocks (p : Part) : p.holdings.flatMap Prod.snd = p.blocksUsed := by
  simp [Part.holdings, Part.blocksUsed, StreamRec.holdings, List.flatMap_assoc, List.flatMap_append, List.flatMap_map]

theorem Part.holdings_mem (p : Part) (x : Holding) : x ∈ p.holdings ↔ ∃ n, x ∈ (p.stream n).holdings := by
  simp [Part.holdings, allStreams]

theorem Part.freeOwners_perm (p : Part) : (p.freeOwners ++ p.holdings.map Prod.fst).Perm
    ((p.engine.freeEntries ++ p.entriesUsed).map Owner.entry ++ (p.engine.freeSlots ++ p.slotsUsed).map Owner.slot) := by
  refine (p.holdings_owners.append_left _).trans ?_
  simp only [Part.freeOwners, List.map_append, List.append_assoc]
  refine List.Perm.append_left _ ?_
  rw [← List.append_assoc, ← List.append_assoc]
  exact List.Perm.append_right _ List.perm_append_comm

theorem Part.marks_iff (p : Part) (b : BlockIx) (o : Owner) : (∃ x ∈ p.holdings, x.1 = o ∧ b ∈ x.2) ↔
    match o with
    | .entry i => ∃ n, ∃ e ∈ (p.stream n).inflight, e.index = i ∧ b ∈ e.blocks
    | .slot i => ∃ n, ∃ h ∈ (p.stream n).hold, h.slot = i ∧ b ∈ h.work.blocks := by
  simp only [p.holdings_mem, StreamRec.holdings, List.mem_append, List.mem_map]
  cases o with
  | entry i =>
    constructor
    · rintro ⟨x, ⟨n, ⟨e, he, rfl⟩ | ⟨y, hy, rfl⟩⟩, hxo, hb⟩
      · exact ⟨n, e, he, Owner.entry.inj hxo, hb⟩
      · simp at hxo
    · rintro ⟨n, e, he, rfl, hb⟩
      exact ⟨_, ⟨n, .inl ⟨e, he, rfl⟩⟩, rfl, hb⟩
  | slot i =>
    constructor
    · rintro ⟨x, ⟨n, ⟨e, he, rfl⟩ | ⟨y, hy, rfl⟩⟩, hxo, hb⟩
      · simp at hxo
      · exact ⟨n, y, hy, Owner.slot.inj hxo, hb⟩
    · rintro ⟨n, y, hy, rfl, hb⟩
      exact ⟨_, ⟨n, .inr ⟨y, hy, rfl⟩⟩, rfl, hb⟩

/-- The obligation's form of sound pools, as one list of owners and one of holdings. -/
theorem Part.poolsHold_iff (p : Part) : p.poolsHold ↔ p.poolsSound ∧ p.outEmpty := by
  have hentry : ∀ (es : List EntryIx) (ss : List SlotIx),
      (es.map Owner.entry ++ ss.map Owner.slot).filterMap (fun o => match o with | .entry i => some i | .slot _ => none) = es := by
    intro es ss; simp [List.filterMap_append, List.filterMap_map, Function.comp_def]
  have hslot : ∀ (es : List EntryIx) (ss : List SlotIx),
      (es.map Owner.entry ++ ss.map Owner.slot).filterMap (fun o => match o with | .entry _ => none | .slot i => some i) = ss := by
    intro es ss; simp [List.filterMap_append, List.filterMap_map, Function.comp_def]
  constructor
  · intro h
    refine ⟨⟨⟨p.freeOwners_perm.trans ((h.entries.map _).append (h.slots.map _)), p.holdings_blocks ▸ h.blocks, fun b o => ?_⟩,
      h.fates, h.holds⟩, h.out⟩
    rw [p.marks_iff]
    exact h.owners b o
  · rintro ⟨⟨⟨howners, hblocks, hmarks⟩, hfates, hholds⟩, hout⟩
    have hall := p.freeOwners_perm.symm.trans howners
    refine ⟨?_, ?_, p.holdings_blocks ▸ hblocks, fun b o => ?_, hfates, hholds, hout⟩
    · simpa only [hentry, allOwners] using hall.filterMap (fun o => match o with | .entry i => some i | .slot _ => none)
    · simpa only [hslot, allOwners] using hall.filterMap (fun o => match o with | .entry _ => none | .slot i => some i)
    · exact (hmarks b o).trans (p.marks_iff b o)

/-! ### The moves of the pools -/

theorem StreamRec.HoldsAs.holdings {r r' : StreamRec} (h : r.HoldsAs r') : r'.holdings = r.holdings := by
  have hin : ∀ {es es' : List OttEntry}, List.Forall₂ OttEntry.Like es es' →
      es'.map (fun e => (Owner.entry e.index, e.blocks)) = es.map (fun e => (Owner.entry e.index, e.blocks)) := fun hes => by
    induction hes with
    | nil => rfl
    | cons hlike _ ih => rw [List.map_cons, List.map_cons, ih, hlike.index, hlike.blocks]
  have hhold : ∀ {hs hs' : List Held}, List.Forall₂ Held.Like hs hs' →
      hs'.map (fun x => (Owner.slot x.slot, x.work.blocks)) = hs.map (fun x => (Owner.slot x.slot, x.work.blocks)) :=
    fun hhs => by
      induction hhs with
      | nil => rfl
      | cons hlike _ ih => rw [List.map_cons, List.map_cons, ih, hlike.slot, hlike.blocks]
  rw [StreamRec.holdings, StreamRec.holdings, hin h.inflight, hhold h.hold]

theorem forall₂_like_mem {es es' : List OttEntry} (h : List.Forall₂ OttEntry.Like es es') {e' : OttEntry} (he : e' ∈ es') :
    ∃ e ∈ es, e.Like e' := by
  induction h with
  | nil => simp at he
  | cons hlike _ ih =>
    rcases List.mem_cons.mp he with rfl | he
    · exact ⟨_, List.mem_cons_self .., hlike⟩
    · obtain ⟨e, hmem, hle⟩ := ih he
      exact ⟨e, List.mem_cons_of_mem _ hmem, hle⟩

theorem forall₂_held_mem {hs hs' : List Held} (h : List.Forall₂ Held.Like hs hs') {x' : Held} (hx : x' ∈ hs') :
    ∃ x ∈ hs, x.Like x' := by
  induction h with
  | nil => simp at hx
  | cons hlike _ ih =>
    rcases List.mem_cons.mp hx with rfl | hx
    · exact ⟨_, List.mem_cons_self .., hlike⟩
    · obtain ⟨x, hmem, hle⟩ := ih hx
      exact ⟨x, List.mem_cons_of_mem _ hmem, hle⟩

/-- Pools and streams unchanged. -/
theorem Part.poolsSound.of_eq {p q : Part} (h : p.poolsSound) (hstream : q.engine.streams = p.engine.streams)
    (he : q.engine.freeEntries = p.engine.freeEntries) (hs : q.engine.freeSlots = p.engine.freeSlots)
    (hb : q.engine.freeBlocks = p.engine.freeBlocks) (ho : q.engine.owners = p.engine.owners) : q.poolsSound := by
  have hstreams : ∀ n, q.stream n = p.stream n := fun n => by simp [Part.stream, hstream]
  have hholdings : q.holdings = p.holdings := by simp [Part.holdings, hstreams]
  refine ⟨?_, fun n => hstreams n ▸ h.fates n, fun n => hstreams n ▸ h.holds n⟩
  rw [hholdings, ho, hb, Part.freeOwners, he, hs]
  exact h.pools

/-- One stream's record changes, the others stay: what is asked of pools and holdings. -/
theorem Part.poolsSound.one {p q : Part} (h : p.poolsSound) (n : StreamId) (hothers : ∀ m, m ≠ n → q.stream m = p.stream m)
    (hpools : PoolsSound q.freeOwners q.engine.freeBlocks q.engine.owners.get ((q.stream n).holdings ++ p.othersHold n))
    (hfates : ∀ e ∈ (q.stream n).inflight, e.agrees n) (hholds : ∀ x ∈ (q.stream n).hold, x.stream = n) : q.poolsSound where
  pools := hpools.perm (.refl _) (.refl _) (by rw [← Part.othersHold_congr hothers]; exact q.holdings_perm n)
  fates m e he := by
    by_cases hm : m = n
    · subst hm; exact hfates e he
    · exact h.fates m e (hothers m hm ▸ he)
  holds m x hx := by
    by_cases hm : m = n
    · subst hm; exact hholds x hx
    · exact h.holds m x (hothers m hm ▸ hx)

/-- A record that holds what the one before it held. -/
theorem Part.poolsSound.like {p q : Part} (h : p.poolsSound) (n : StreamId) (hothers : ∀ m, m ≠ n → q.stream m = p.stream m)
    (hsame : p.SamePools q) (hold : (p.stream n).HoldsAs (q.stream n)) : q.poolsSound := by
  refine h.one n hothers ?_ (fun e' he' => ?_) fun x' hx' => ?_
  · rw [hold.holdings, Part.freeOwners, hsame]
    exact h.pools.perm (.refl _) (.refl _) (p.holdings_perm n).symm
  · obtain ⟨e, he, hlike⟩ := forall₂_like_mem hold.inflight he'
    exact hlike.agrees n (h.fates n e he)
  · obtain ⟨x, hx, hlike⟩ := forall₂_held_mem hold.hold hx'
    exact hlike.stream.trans (h.holds n x hx)

theorem Part.poolsSound.modStream {p : Part} (h : p.poolsSound) (n : StreamId) (f : StreamRec → StreamRec)
    (hold : (p.stream n).HoldsAs (f (p.stream n))) : (p.modStream n f).poolsSound :=
  h.like n (fun _ hm => p.modStream_stream_of_ne hm f) rfl (by simpa using hold)

theorem Part.poolsSound.bind {p : Part} (h : p.poolsSound) (n : StreamId) (k : BindingKind) : (p.bind n k).poolsSound := by
  refine h.like n (fun _ hm => p.bind_stream_of_ne hm k) (p.samePools_bind n k) ?_
  rw [p.bind_stream_self]
  exact .of_map (StreamRec.rebound_inflight _ _ _ _ _) (fun e _ => ⟨rfl, rfl, rfl, fun _ ha => ha⟩)
    (StreamRec.rebound_hold _ _ _ _ _) (StreamRec.rebound_nextSeq _ _ _ _ _)

/-- A list without one of its elements, by a key that none shares. -/
theorem perm_cons_filter_key {α β : Type} [DecidableEq β] {key : α → β} {xs : List α} (hnodup : (xs.map key).Nodup) {x : α}
    (hx : x ∈ xs) : xs.Perm (x :: xs.filter (fun y => key y != key x)) := by
  induction xs with
  | nil => simp at hx
  | cons y xs ih =>
    rw [List.map_cons, List.nodup_cons] at hnodup
    by_cases hxy : x = y
    · subst hxy
      have hrest : xs.filter (fun y => key y != key x) = xs :=
        List.filter_eq_self.mpr fun z hz => bne_iff_ne.mpr fun hk => hnodup.1 (hk ▸ List.mem_map_of_mem hz)
      rw [List.filter_cons_of_neg (by simp), hrest]
    · have hmem := (List.mem_cons.mp hx).resolve_left hxy
      have hkey : key y != key x := bne_iff_ne.mpr fun hk => hnodup.1 (hk ▸ List.mem_map_of_mem hmem)
      rw [List.filter_cons_of_pos (p := fun z => key z != key x) hkey]
      exact ((ih hnodup.2 hmem).cons y).trans (List.Perm.swap _ _ _)

theorem Part.poolsSound.retire {p : Part} (h : p.poolsSound) (n : StreamId) (e : OttEntry)
    (hnodup : ((p.stream n).inflight.map OttEntry.index).Nodup)
    (he : ∃ x ∈ (p.stream n).inflight, x.index = e.index ∧ x.blocks = e.blocks) : (p.retire n e).poolsSound := by
  obtain ⟨x, hx, hindex, hblocks⟩ := he
  have hstream := p.retire_stream n n e
  rw [if_pos rfl] at hstream
  have hsplit : (p.stream n).holdings.Perm ([(Owner.entry e.index, e.blocks)] ++ ((p.retire n e).stream n).holdings) := by
    have hperm := perm_cons_filter_key hnodup hx
    rw [hindex] at hperm
    rw [hstream]
    have hmap := (hperm.map (fun e => (Owner.entry e.index, e.blocks))).append_right
      ((p.stream n).hold.map (fun x => (Owner.slot x.slot, x.work.blocks)))
    rw [List.map_cons, hindex, hblocks] at hmap
    exact hmap
  have hpools := (h.pools.perm (.refl _) (.refl _) ((p.holdings_perm n).trans (hsplit.append_right _)).symm)
  rw [List.append_assoc] at hpools
  refine h.one n (fun m hm => by rw [p.retire_stream, if_neg hm]) ?_ (fun y hy => ?_) fun y hy => ?_
  · have hmark : (p.retire n e).engine.owners.get = fun b => if b ∈ [(Owner.entry e.index, e.blocks)].flatMap Prod.snd
        then none else p.engine.owners.get b := funext fun b => by
      rw [show (p.retire n e).engine.owners = markBlocks p.engine.owners e.blocks none from rfl, markBlocks_get]
      simp
    rw [hmark]
    refine hpools.remove.perm ?_ ?_ (.refl _)
    · show ((p.engine.freeEntries ++ [e.index]).map Owner.entry ++ p.engine.freeSlots.map Owner.slot).Perm
        (p.freeOwners ++ [Owner.entry e.index])
      rw [List.map_append, Part.freeOwners, List.append_assoc, List.append_assoc]
      exact List.Perm.append_left _ List.perm_append_comm
    · show (p.engine.freeBlocks ++ e.blocks).Perm _
      simp
  · rw [hstream] at hy
    exact h.fates n y (List.mem_filter.mp hy).1
  · rw [hstream] at hy
    exact h.holds n y hy

theorem Part.poolsSound.unhold {p : Part} (h : p.poolsSound) (n : StreamId) (x : Held)
    (hnodup : ((p.stream n).hold.map Held.slot).Nodup) (hx : x ∈ (p.stream n).hold) : (p.unhold n x).poolsSound := by
  have hstream := p.unhold_stream n n x
  rw [if_pos rfl] at hstream
  have hsplit : (p.stream n).holdings.Perm ([(Owner.slot x.slot, x.work.blocks)] ++ ((p.unhold n x).stream n).holdings) := by
    rw [hstream]
    have hmap := ((perm_cons_filter_key hnodup hx).map (fun x => (Owner.slot x.slot, x.work.blocks))).append_left
      ((p.stream n).inflight.map (fun e => (Owner.entry e.index, e.blocks)))
    exact hmap.trans List.perm_middle
  have hpools := (h.pools.perm (.refl _) (.refl _) ((p.holdings_perm n).trans (hsplit.append_right _)).symm)
  rw [List.append_assoc] at hpools
  refine h.one n (fun m hm => by rw [p.unhold_stream, if_neg hm]) ?_ (fun y hy => ?_) fun y hy => ?_
  · have hmark : (p.unhold n x).engine.owners.get = fun b => if b ∈ [(Owner.slot x.slot, x.work.blocks)].flatMap Prod.snd
        then none else p.engine.owners.get b := funext fun b => by
      rw [show (p.unhold n x).engine.owners = markBlocks p.engine.owners x.work.blocks none from rfl, markBlocks_get]
      simp
    rw [hmark]
    refine hpools.remove.perm ?_ ?_ (.refl _)
    · show (p.engine.freeEntries.map Owner.entry ++ (p.engine.freeSlots ++ [x.slot]).map Owner.slot).Perm
        (p.freeOwners ++ [Owner.slot x.slot])
      rw [List.map_append, Part.freeOwners, List.append_assoc]
      exact .refl _
    · show (p.engine.freeBlocks ++ x.work.blocks).Perm _
      simp
  · rw [hstream] at hy
    exact h.fates n y hy
  · rw [hstream] at hy
    exact h.holds n y (List.mem_filter.mp hy).1

/-- The blocks marked with an entry in use are the entry's own (R170). -/
theorem Part.poolsSound.ownedBlocks_perm {p : Part} (h : p.poolsSound) {n : StreamId} {e : OttEntry}
    (he : e ∈ (p.stream n).inflight) : (p.ownedBlocks (.entry e.index)).Perm e.blocks := by
  have hmem : (Owner.entry e.index, e.blocks) ∈ p.holdings :=
    (p.holdings_mem _).mpr ⟨n, List.mem_append_left _ (List.mem_map_of_mem (f := fun e => (Owner.entry e.index, e.blocks)) he)⟩
  refine (List.perm_ext_iff_of_nodup ((List.nodup_finRange 1024).filter _) (h.pools.blocks_nodup hmem)).mpr fun b => ?_
  show b ∈ (List.finRange 1024).filter (fun b => p.engine.owners.get b == some (.entry e.index)) ↔ _
  rw [List.mem_filter, beq_iff_eq, h.pools.marks]
  constructor
  · rintro ⟨-, x, hx, hxo, hb⟩
    rwa [h.pools.owner_unique hx hmem hxo] at hb
  · exact fun hb => ⟨List.mem_finRange b, _, hmem, rfl, hb⟩

theorem Part.poolsSound.emptyStream {p : Part} (h : p.poolsSound) (n : StreamId) (failed : Option EntryIx) :
    (p.emptyStream n failed).poolsSound := by
  have hstream := p.emptyStream_stream n n failed
  rw [if_pos rfl] at hstream
  have hpools := h.pools.perm (.refl _) (.refl _) (p.holdings_perm n).symm
  have hfreed : ((p.stream n).inflight.flatMap (fun e => if failed = some e.index then p.ownedBlocks (.entry e.index)
      else e.blocks) ++ (p.stream n).hold.flatMap (fun x => x.work.blocks)).Perm ((p.stream n).holdings.flatMap Prod.snd) := by
    rw [StreamRec.holdings, List.flatMap_append, List.flatMap_map, List.flatMap_map]
    refine List.Perm.append_right _ (List.Perm.flatMap_left _ fun e he => ?_)
    split
    · exact h.ownedBlocks_perm he
    · exact .refl _
  refine h.one n (fun m hm => by rw [p.emptyStream_stream, if_neg hm]) ?_ (by simp [hstream]) (by simp [hstream])
  have hmark : (p.emptyStream n failed).engine.owners.get = fun b => if b ∈ (p.stream n).holdings.flatMap Prod.snd
      then none else p.engine.owners.get b := funext fun b => by
    rw [show (p.emptyStream n failed).engine.owners = markBlocks p.engine.owners _ none from rfl, markBlocks_get]
    simp only [hfreed.mem_iff]
  have hnone : ((p.emptyStream n failed).stream n).holdings = [] := by simp [hstream, StreamRec.holdings]
  rw [hmark, hnone, List.nil_append]
  refine hpools.remove.perm ?_ ?_ (.refl _)
  · show ((p.engine.freeEntries ++ (p.stream n).inflight.map OttEntry.index).map Owner.entry ++
      (p.engine.freeSlots ++ (p.stream n).hold.map Held.slot).map Owner.slot).Perm _
    rw [Part.freeOwners, StreamRec.holdings]
    simp only [List.map_append, List.map_map, List.append_assoc]
    refine List.Perm.append_left _ ?_
    rw [← List.append_assoc, ← List.append_assoc]
    exact List.Perm.append_right _ List.perm_append_comm
  · exact List.Perm.append_left _ hfreed

end Sys2Proof.Machine
end

section
/-! O60, continued: dispatch and hand-over in the pools, sequence order, and the settlement. -/

namespace Sys2Proof.Machine

/-- What a request that takes a free owner and blocks that stand free becomes (R21, R24). -/
theorem Part.poolsSound.take {p q : Part} (h : p.poolsSound) (n : StreamId) {o : Owner} {bs : List BlockIx}
    (hothers : ∀ m, m ≠ n → q.stream m = p.stream m)
    (hfree : p.freeOwners.Perm (o :: q.freeOwners)) (hblocks : p.engine.freeBlocks.Perm (bs ++ q.engine.freeBlocks))
    (hmarks : ∀ b, q.engine.owners.get b = if b ∈ bs then some o else p.engine.owners.get b)
    (hholdings : (q.stream n).holdings.Perm ((o, bs) :: (p.stream n).holdings))
    (hfates : ∀ e ∈ (q.stream n).inflight, e.agrees n) (hholds : ∀ x ∈ (q.stream n).hold, x.stream = n) : q.poolsSound := by
  refine h.one n hothers ?_ hfates hholds
  rw [funext hmarks]
  exact (h.pools.perm hfree.symm hblocks.symm (p.holdings_perm n).symm).add.perm (.refl _) (.refl _) (hholdings.append_right _)

theorem holdings_append_entry (r : StreamRec) (e : OttEntry) :
    ({ r with nextSeq := r.nextSeq + 1, inflight := r.inflight ++ [e] } : StreamRec).holdings.Perm
      ((Owner.entry e.index, e.blocks) :: r.holdings) := by
  simp only [StreamRec.holdings, List.map_append, List.map_singleton, List.append_assoc]
  exact List.perm_middle

theorem holdings_append_held (r : StreamRec) (x : Held) :
    ({ r with hold := r.hold ++ [x] } : StreamRec).holdings.Perm ((Owner.slot x.slot, x.work.blocks) :: r.holdings) := by
  simp only [StreamRec.holdings, List.map_append, List.map_singleton, ← List.append_assoc]
  exact List.perm_append_singleton _ _

theorem Part.newEntry_agrees (p : Part) (n : StreamId) (i : EntryIx) (w : Work) : (p.newEntry n i w).agrees n := ⟨rfl, rfl⟩

/-- The head of a hold list goes from its slot into a free entry, and its blocks with it (R27). -/
theorem Part.poolsSound.dispatchHead {p : Part} (h : p.poolsSound) (n : StreamId) (hready : p.headReady n = true)
    (hfree : p.engine.freeEntries ≠ []) : (p.dispatchHead n).poolsSound := by
  obtain ⟨x, hs, hhold⟩ := Part.headReady_hold hready
  obtain ⟨i, rest, hfree⟩ := List.exists_cons_of_ne_nil hfree
  have hstream := p.dispatchHead_stream hhold hfree
  have hengine := p.dispatchHead_engine hhold hfree
  have hself := hstream n
  rw [if_pos rfl] at hself
  have hsplit : (p.stream n).holdings.Perm
      ([(Owner.slot x.slot, x.work.blocks)] ++ ({ p.stream n with hold := hs } : StreamRec).holdings) := by
    simp only [StreamRec.holdings, hhold, List.map_cons]
    exact List.perm_middle
  have hpools := h.pools.perm (.refl _) (.refl _) ((p.holdings_perm n).trans (hsplit.append_right _)).symm
  rw [List.append_assoc] at hpools
  have hfreed := hpools.remove.perm (free' := Owner.entry i :: (p.dispatchHead n).freeOwners)
    (blocks' := x.work.blocks ++ (p.dispatchHead n).engine.freeBlocks) ?_ ?_ (.refl _)
  · refine h.one n (fun m hm => by rw [hstream, if_neg hm]) ?_ (fun e he => ?_) fun y hy => ?_
    · have hmark : (p.dispatchHead n).engine.owners.get = fun b => if b ∈ x.work.blocks then some (Owner.entry i) else
          if b ∈ [(Owner.slot x.slot, x.work.blocks)].flatMap Prod.snd then none else p.engine.owners.get b :=
        funext fun b => by
          rw [hengine, markBlocks_get]
          by_cases hb : b ∈ x.work.blocks <;> simp [hb]
      rw [hmark]
      refine hfreed.add.perm (.refl _) (.refl _) ?_
      rw [← List.cons_append, hself]
      refine List.Perm.append_right _ ?_
      exact holdings_append_entry { p.stream n with hold := hs } (p.newEntry n i x.work)
    · rw [hself] at he
      rcases List.mem_append.mp he with he | he
      · exact h.fates n e he
      · rw [List.mem_singleton.mp he]
        exact p.newEntry_agrees n i x.work
    · rw [hself] at hy
      exact h.holds n y (hhold ▸ List.mem_cons_of_mem _ hy)
  · rw [Part.freeOwners, Part.freeOwners, hengine, hfree]
    simp only [List.map_cons, List.map_append, List.map_nil, List.cons_append, List.append_assoc]
    exact .refl _
  · rw [hengine]
    simpa using List.perm_append_comm

/-- The pools of a part with a request's blocks on top of the free ones. -/
theorem Part.take_drop_blocks (p : Part) (q : HostRecord) (k : ReqKind) :
    p.engine.freeBlocks = (p.engine.freeBlocks.take (k.blocksNeeded q.length.toNat)) ++ (p.withRequest q k).engine.freeBlocks := by
  rw [p.withRequest_engine]
  simp only [List.length_take]
  rcases Nat.le_total (k.blocksNeeded q.length.toNat) p.engine.freeBlocks.length with hle | hge
  · rw [Nat.min_eq_left hle, List.take_append_drop]
  · rw [Nat.min_eq_right hge, List.take_of_length_le hge, List.drop_length, List.append_nil]

/-- A request handed over takes a free entry or a free slot, and its blocks (R11). -/
theorem Part.poolsSound.given {p : Part} (h : p.poolsSound) {q : HostRecord} {k : ReqKind} {r : Route}
    (hv : p.verdict q = .passes k r) : (p.given q k r).poolsSound := by
  have hblocks := List.Perm.of_eq (p.take_drop_blocks q k)
  have hothers := fun m hm => (Part.given_stream hv m).2 hm
  rcases Part.given_cases hv with ⟨-, i, rest, hfree, hg⟩ | ⟨-, i, rest, hfree, hg⟩
  · have hstream := fun m => (p.withRequest q k).dispatchInto_stream r.stream m i rest (p.workOf q k r)
    have hself := hstream r.stream
    rw [if_pos rfl, p.withRequest_stream, ← hg] at hself
    have hengine := (p.withRequest q k).dispatchInto_engine r.stream i rest (p.workOf q k r)
    rw [← hg, p.withRequest_engine] at hengine
    refine h.take r.stream (o := .entry i) (bs := (p.workOf q k r).blocks) hothers ?_ ?_ (fun b => ?_) ?_ (fun e he => ?_)
      fun x hx => ?_
    · rw [Part.freeOwners, Part.freeOwners, hengine, hfree]
      exact .refl _
    · rw [p.withRequest_engine] at hblocks
      rw [hengine]
      exact hblocks
    · rw [hengine, markBlocks_get]
    · rw [hself]
      exact holdings_append_entry (p.stream r.stream) _
    · rw [hself] at he
      rcases List.mem_append.mp he with he | he
      · exact h.fates _ e he
      · rw [List.mem_singleton.mp he]
        exact Part.newEntry_agrees _ _ i _
    · rw [hself] at hx
      exact h.holds _ x hx
  · have hfree' : (p.withRequest q k).engine.freeSlots = i :: rest := by rw [p.withRequest_engine]; exact hfree
    have hself := (p.withRequest q k).holdWork_stream r.stream r.stream (p.workOf q k r) hfree'
    rw [if_pos rfl, p.withRequest_stream, ← hg] at hself
    have hengine := (p.withRequest q k).holdWork_engine r.stream (p.workOf q k r) hfree'
    rw [← hg, p.withRequest_engine] at hengine
    refine h.take r.stream (o := .slot i) (bs := (p.workOf q k r).blocks) hothers ?_ ?_ (fun b => ?_) ?_ (fun e he => ?_)
      fun x hx => ?_
    · rw [Part.freeOwners, Part.freeOwners, hengine, hfree, List.map_cons]
      exact List.perm_middle
    · rw [p.withRequest_engine] at hblocks
      rw [hengine]
      exact hblocks
    · rw [hengine, markBlocks_get]
    · rw [hself]
      exact holdings_append_held (p.stream r.stream) _
    · rw [hself] at he
      exact h.fates _ e he
    · rw [hself] at hx
      rcases List.mem_append.mp hx with hx | hx
      · exact h.holds _ x hx
      · rw [List.mem_singleton.mp hx]

/-! ### Streams out of use hold nothing -/

/-- One stream's record changes. -/
theorem Part.outEmpty.one {p q : Part} (h : p.outEmpty) (n : StreamId) (hothers : ∀ m, m ≠ n → q.stream m = p.stream m)
    (hself : (q.stream n).state = .idle ∨ (q.stream n).state = .faulted →
      (q.stream n).inflight = [] ∧ (q.stream n).hold = []) : q.outEmpty := fun m hm => by
  by_cases hmn : m = n
  · subst hmn; exact hself hm
  · rw [hothers m hmn] at hm ⊢
    exact h m hm

theorem Part.outEmpty.of_eq {p q : Part} (h : p.outEmpty) (hstream : ∀ n, q.stream n = p.stream n) : q.outEmpty :=
  fun n hn => by rw [hstream n] at hn ⊢; exact h n hn

theorem StreamRec.HoldsAs.empty {r r' : StreamRec} (h : r.HoldsAs r') (hin : r.inflight = []) (hhold : r.hold = []) :
    r'.inflight = [] ∧ r'.hold = [] := by
  have h1 := h.inflight.length_eq
  have h2 := h.hold.length_eq
  rw [hin] at h1
  rw [hhold] at h2
  exact ⟨List.length_eq_zero_iff.mp h1.symm, List.length_eq_zero_iff.mp h2.symm⟩

/-- A stream after an entry to BINDING is neither IDLE nor FAULTED. -/
theorem StreamRec.rebound_in_use (r : StreamRec) (now : Micros) (k : BindingKind) (deadline : Micros) (c : Option Lane) :
    ¬((r.rebound now k deadline c).state = .idle ∨ (r.rebound now k deadline c).state = .faulted) := by
  cases c <;> simp

theorem Part.outEmpty.bind {p : Part} (h : ∀ m, (p.stream m).state = .idle ∨ (p.stream m).state = .faulted →
    m ≠ n → (p.stream m).inflight = [] ∧ (p.stream m).hold = []) (k : BindingKind) : (p.bind n k).outEmpty := fun m hm => by
  by_cases hmn : m = n
  · subst hmn
    rw [p.bind_stream_self] at hm
    exact absurd hm (StreamRec.rebound_in_use _ _ _ _ _)
  · rw [p.bind_stream_of_ne hmn] at hm ⊢
    exact h m hm hmn

/-! ### The pools under every move -/

/-- Only the engine matters to the pools. -/
theorem Part.poolsHold.of_engine {p q : Part} (h : p.poolsHold) (hengine : q.engine = p.engine) : q.poolsHold := by
  rw [Part.poolsHold_iff] at h ⊢
  exact ⟨h.1.of_eq (by rw [hengine]) (by rw [hengine]) (by rw [hengine]) (by rw [hengine]) (by rw [hengine]),
    h.2.of_eq fun n => by rw [Part.stream, hengine]; rfl⟩

theorem keptByBindings_poolsHold : KeptByBindings Part.poolsHold where
  aside k h := by
    rw [Part.poolsHold_iff] at h ⊢
    exact ⟨h.1.of_eq k.streams k.entries k.slots k.blocks k.owners, h.2.of_eq k.stream⟩
  retimed {p q} k h := by
    rw [Part.poolsHold_iff] at h ⊢
    have hholds : ∀ n, (p.stream n).HoldsAs (q.stream n) := fun n => by rw [k.stream n]; exact .of_eq rfl rfl rfl
    have hsame : ∀ n, (q.stream n).holdings = (p.stream n).holdings := fun n => (hholds n).holdings
    refine ⟨⟨?_, fun n => ?_, fun n => ?_⟩, fun n hn => ?_⟩
    · have hall : q.holdings = p.holdings := by simp [Part.holdings, hsame]
      rw [hall, Part.freeOwners, k.rest]
      exact h.1.pools
    · rw [k.stream n]; exact h.1.fates n
    · rw [k.stream n]; exact h.1.holds n
    · rw [k.stream n] at hn ⊢; exact h.2 n hn
  bind n f k hold h := by
    rw [Part.poolsHold_iff] at h ⊢
    refine ⟨(h.1.modStream n f hold).bind n k, Part.outEmpty.bind (fun m hm hmn => ?_) k⟩
    rw [Part.modStream_stream_of_ne _ hmn] at hm ⊢
    exact h.2 m hm

theorem kept_poolsHold : Kept Part.poolsHold where
  aside := keptByBindings_poolsHold.aside
  lanes _ _ h := h.of_engine rfl
  change {p} l edit enter new log _ _ _ hlog h := by
    have hentered : ((p.modLane l edit).modLane l (fun r => enter (r.moved new))).poolsHold := h.of_engine rfl
    refine keptByBindings_poolsHold.changeLane ((keptByBindings_poolsHold.aside (hlog _) hentered).of_engine ?_)
    rw [Part.moveLane, Part.sideTakes_engine]
  stream {p} n f hs _ hold h := by
    rw [Part.poolsHold_iff] at h ⊢
    have hholds := hold fun q hq => hq
    refine ⟨h.1.modStream n f hholds, h.2.one n (fun m hm => p.modStream_stream_of_ne hm f) fun hst => ?_⟩
    rw [Part.modStream_stream_self, hs] at hst
    rw [Part.modStream_stream_self]
    exact hholds.empty (h.2 n hst).1 (h.2 n hst).2
  carried {p} n f hs _ _ hold h := by
    rw [Part.poolsHold_iff] at h ⊢
    refine ⟨h.1.modStream n f hold, h.2.one n (fun m hm => p.modStream_stream_of_ne hm f) fun hst => ?_⟩
    rw [Part.modStream_stream_self] at hst
    rcases hst with hst | hst <;> rw [hst] at hs <;> simp [StreamState.carried] at hs
  ended {p} n f _ _ hempty h := by
    obtain ⟨hin, hhold, hin', hhold'⟩ := hempty fun q hq => hq
    rw [Part.poolsHold_iff] at h ⊢
    refine ⟨h.1.modStream n f ⟨by rw [hin, hin']; exact .nil, by rw [hhold, hhold']; exact .nil, .inr hin⟩,
      h.2.one n (fun m hm => p.modStream_stream_of_ne hm f) fun _ => ?_⟩
    rw [Part.modStream_stream_self]
    exact ⟨hin', hhold'⟩
  bind := keptByBindings_poolsHold.bind
  dispatchHead {p} n hready hfree h := by
    rw [Part.poolsHold_iff] at h ⊢
    refine ⟨h.1.dispatchHead n hready hfree, fun m hm => ?_⟩
    have hd := p.dispatchHead_dispatched n hready hfree m
    rw [hd.state] at hm
    rw [hd.away (by rcases hm with hm | hm <;> simp [hm])]
    exact h.2 m hm
  retire {p} n e he h := by
    have hnodup := h.index_nodup n
    rw [Part.poolsHold_iff] at h ⊢
    refine ⟨h.1.retire n e hnodup (he fun q hq => hq), h.2.one n (fun m hm => by rw [p.retire_stream, if_neg hm]) ?_⟩
    rw [p.retire_stream, if_pos rfl]
    exact fun hst => ⟨by simp [(h.2 n hst).1], (h.2 n hst).2⟩
  unhold {p} n x hx h := by
    have hnodup := h.slot_nodup n
    rw [Part.poolsHold_iff] at h ⊢
    refine ⟨h.1.unhold n x hnodup (hx fun q hq => hq), h.2.one n (fun m hm => by rw [p.unhold_stream, if_neg hm]) ?_⟩
    rw [p.unhold_stream, if_pos rfl]
    exact fun hst => ⟨(h.2 n hst).1, by simp [(h.2 n hst).2]⟩
  emptyStream {p} n failed h := by
    rw [Part.poolsHold_iff] at h ⊢
    refine ⟨h.1.emptyStream n failed, h.2.one n (fun m hm => by rw [p.emptyStream_stream, if_neg hm]) fun _ => ?_⟩
    rw [p.emptyStream_stream, if_pos rfl]
    exact ⟨rfl, rfl⟩
  evaluateAll {p} h := by
    refine keptByBindings_poolsHold.streamsFollow ?_ p
    exact h.of_engine (by simp [Part.evaluateLane_engine])

theorem Part.poolsHold.handOver {p : Part} (h : p.poolsHold) {q : HostRecord} {k : ReqKind} {r : Route}
    (hv : p.verdict q = .passes k r) : (p.handOver q k r).poolsHold := by
  rw [Part.poolsHold_iff] at h
  have hgiven := h.1.given hv
  have hothers : ∀ m, (p.stream m).state = .idle ∨ (p.stream m).state = .faulted → m ≠ r.stream →
      ((p.given q k r).stream m).inflight = [] ∧ ((p.given q k r).stream m).hold = [] := fun m hm hmn => by
    rw [(Part.given_stream hv m).2 hmn]
    exact h.2 m hm
  have hstate : ∀ m, ((p.given q k r).stream m).state = (p.stream m).state := fun m => by
    rw [(Part.given_stream hv m).1]
  rw [p.handOver_eq]
  refine kept_poolsHold.aside (Part.aside_flushIfEmpty _) ?_
  rw [Part.poolsHold_iff]
  split
  · exact ⟨hgiven.bind _ _, Part.outEmpty.bind (fun m hm => hothers m (hstate m ▸ hm)) _⟩
  · next hidle =>
    refine ⟨hgiven, fun m hm => ?_⟩
    rw [hstate m] at hm
    by_cases hmn : m = r.stream
    · subst hmn
      exact absurd (hm.resolve_left hidle) (Part.verdict_passes hv).2.2
    · exact hothers m hm hmn

theorem keptBy_poolsHold {c : Instr} {p : Part} (h : p.poolsHold) : KeptBy Part.poolsHold c p where
  powerOn pins _ := Part.powerOn_poolsHold pins
  passes _ _ _ _ _ hv := h.handOver hv
  route _ _ _ := h.of_engine rfl
  param _ _ _ := h.of_engine rfl
  pop _ := h.of_engine rfl
  clear _ := h.of_engine rfl

/-! ### Sequence order -/

/-- Every in-flight list runs in sequence order up to the next sequence, and has room for what the stream holds: the lag
of each entry and the held requests together stay at or below `B`. Dispatch raises the lags by one and takes a held
request off. -/
def Part.seqsBelow (B : Nat) (p : Part) : Prop :=
  ∀ n, ((p.stream n).inflight.map (fun e => (p.stream n).lag e.seq)).Pairwise (· > ·) ∧
    ∀ e ∈ (p.stream n).inflight, 1 ≤ (p.stream n).lag e.seq ∧ (p.stream n).lag e.seq + (p.stream n).hold.length ≤ B

/-- The same of one record. -/
def StreamRec.seqsBelow (B : Nat) (r : StreamRec) : Prop :=
  (r.inflight.map (fun e => r.lag e.seq)).Pairwise (· > ·) ∧
    ∀ e ∈ r.inflight, 1 ≤ r.lag e.seq ∧ r.lag e.seq + r.hold.length ≤ B

theorem Part.seqsBelow_iff (B : Nat) (p : Part) : p.seqsBelow B ↔ ∀ n, (p.stream n).seqsBelow B := Iff.rfl

/-- Fewer entries in flight and no more held, up to the same next sequence. -/
theorem StreamRec.seqsBelow.sublist {B : Nat} {r r' : StreamRec} (h : r.seqsBelow B)
    (hin : (r'.inflight.map OttEntry.seq).Sublist (r.inflight.map OttEntry.seq)) (hhold : r'.hold.length ≤ r.hold.length)
    (hnext : r'.nextSeq = r.nextSeq ∨ r'.inflight = []) : r'.seqsBelow B := by
  rcases hnext with hnext | hnone
  · have hlag : ∀ s, r'.lag s = r.lag s := fun s => by rw [StreamRec.lag, StreamRec.lag, hnext]
    have hmap : ∀ es : List OttEntry, es.map (fun e => r.lag e.seq) = (es.map OttEntry.seq).map r.lag := fun es => by
      rw [List.map_map]; rfl
    refine ⟨?_, fun e he => ?_⟩
    · simp only [hlag]
      rw [hmap]
      exact h.1.sublist (by rw [hmap]; exact hin.map _)
    · obtain ⟨e', he', hseq⟩ := List.mem_map.mp (hin.subset (List.mem_map_of_mem he))
      have hbound := h.2 e' he'
      rw [hseq] at hbound
      rw [hlag]
      exact ⟨hbound.1, le_trans (Nat.add_le_add_left hhold _) hbound.2⟩
  · simp [StreamRec.seqsBelow, hnone]

theorem StreamRec.HoldsAs.seqs {r r' : StreamRec} (h : r.HoldsAs r') :
    r'.inflight.map OttEntry.seq = r.inflight.map OttEntry.seq := by
  have hin : ∀ {es es' : List OttEntry}, List.Forall₂ OttEntry.Like es es' → es'.map OttEntry.seq = es.map OttEntry.seq :=
    fun hes => by
      induction hes with
      | nil => rfl
      | cons hlike _ ih => rw [List.map_cons, List.map_cons, ih, hlike.seq]
  exact hin h.inflight

theorem StreamRec.seqsBelow.like {B : Nat} {r r' : StreamRec} (h : r.seqsBelow B) (hold : r.HoldsAs r') :
    r'.seqsBelow B :=
  h.sublist (hold.seqs ▸ .refl _) hold.hold.length_eq.symm.le (hold.nextSeq.imp_right fun hin => by
    have hlen := hold.inflight.length_eq
    rw [hin] at hlen
    exact List.length_eq_zero_iff.mp hlen.symm)

/-- An entry dispatched at the next sequence: every lag grows by one, short of wrapping (R20, R26). -/
theorem StreamRec.seqsBelow.dispatch {B C : Nat} {r r' : StreamRec} (h : r.seqsBelow B) {e : OttEntry}
    (hin : r'.inflight = r.inflight ++ [e]) (hseq : e.seq = r.nextSeq) (hnext : r'.nextSeq = r.nextSeq + 1)
    (hC : C < 4096) (hroom : ∀ k, k + r.hold.length ≤ B → k + 1 + r'.hold.length ≤ C) (hnew : 1 + r'.hold.length ≤ C) :
    r'.seqsBelow C := by
  have hlag : ∀ x ∈ r.inflight, r'.lag x.seq = r.lag x.seq + 1 := fun x hx => by
    have hbound := hroom _ (h.2 x hx).2
    simp only [StreamRec.lag, hnext] at hbound ⊢
    bv_omega
  have hone : r'.lag e.seq = 1 := by simp [StreamRec.lag, hnext, hseq]
  have hmap : r.inflight.map (fun x => r'.lag x.seq) = (r.inflight.map (fun x => r.lag x.seq)).map (· + 1) := by
    rw [List.map_map]
    exact List.map_congr_left hlag
  refine ⟨?_, fun x hx => ?_⟩
  · rw [hin, List.map_append, hmap, List.map_singleton, hone, List.pairwise_append]
    refine ⟨List.pairwise_map.mpr (h.1.imp fun hab => by omega), List.pairwise_singleton _ _, fun a ha b hb => ?_⟩
    obtain ⟨c, hc, rfl⟩ := List.mem_map.mp ha
    obtain ⟨x, hx, rfl⟩ := List.mem_map.mp hc
    rw [List.mem_singleton.mp hb]
    have := (h.2 x hx).1
    omega
  · rw [hin] at hx
    rcases List.mem_append.mp hx with hx | hx
    · rw [hlag x hx]
      exact ⟨by omega, hroom _ (h.2 x hx).2⟩
    · rw [List.mem_singleton.mp hx, hone]
      exact ⟨le_refl 1, hnew⟩

/-- Sound pools, and sequences in order below a bound. -/
structure Part.seqsSound (B : Nat) (p : Part) : Prop where
  pools : p.poolsHold
  seqs : ∀ n, (p.stream n).seqsBelow B

/-- A hold list has no more than the 64 slots (R24). -/
theorem Part.poolsHold.hold_length_le {p : Part} (h : p.poolsHold) (n : StreamId) : (p.stream n).hold.length ≤ 64 := by
  have hlen := (h.slot_nodup n).length_le_card
  simpa using hlen

/-- An in-flight list has no more than the 256 entries (R21). -/
theorem Part.poolsHold.inflight_length_le {p : Part} (h : p.poolsHold) (n : StreamId) :
    (p.stream n).inflight.length ≤ 256 := by
  have hlen := (h.index_nodup n).length_le_card
  simpa using hlen

theorem seqs_one {B : Nat} {p q : Part} (h : ∀ m, (p.stream m).seqsBelow B) (n : StreamId)
    (hothers : ∀ m, m ≠ n → q.stream m = p.stream m) (hself : (q.stream n).seqsBelow B) (m : StreamId) :
    (q.stream m).seqsBelow B := by
  by_cases hm : m = n
  · subst hm; exact hself
  · rw [hothers m hm]; exact h m

theorem keptByBindings_seqsSound (B : Nat) : KeptByBindings (Part.seqsSound B) where
  aside k h := ⟨keptByBindings_poolsHold.aside k h.pools, fun n => by rw [k.stream n]; exact h.seqs n⟩
  retimed k h := ⟨keptByBindings_poolsHold.retimed k h.pools, fun n => by rw [k.stream n]; exact h.seqs n⟩
  bind {p} n f k hold h := by
    refine ⟨keptByBindings_poolsHold.bind n f k hold h.pools,
      seqs_one h.seqs n (fun m hm => p.modStream_bind_stream_of_ne hm f k) (((h.seqs n).like hold).like ?_)⟩
    rw [p.modStream_bind_stream_self]
    exact .of_map (StreamRec.rebound_inflight _ _ _ _ _) (fun e _ => ⟨rfl, rfl, rfl, fun _ ha => ha⟩)
      (StreamRec.rebound_hold _ _ _ _ _) (StreamRec.rebound_nextSeq _ _ _ _ _)

theorem kept_seqsSound {B : Nat} (hlow : 64 ≤ B) (hhigh : B < 4096) : Kept (Part.seqsSound B) where
  aside := (keptByBindings_seqsSound B).aside
  lanes ls hls h := ⟨h.pools.of_engine rfl, h.seqs⟩
  change {p} l edit enter new log _ _ _ hlog h := by
    have hentered : ((p.modLane l edit).modLane l (fun r => enter (r.moved new))).seqsSound B :=
      ⟨h.pools.of_engine rfl, h.seqs⟩
    have hlogged := (keptByBindings_seqsSound B).aside (hlog _) hentered
    refine (keptByBindings_seqsSound B).changeLane ⟨hlogged.pools.of_engine ?_, fun n => ?_⟩
    · rw [Part.moveLane, Part.sideTakes_engine]
    · rw [Part.moveLane, Part.stream, Part.sideTakes_engine]
      exact hlogged.seqs n
  stream {p} n f hs hc hold h := ⟨kept_poolsHold.stream n f hs hc (fun _ => hold fun _ hq => hq.pools) h.pools,
    seqs_one h.seqs n (fun m hm => p.modStream_stream_of_ne hm f)
      (by rw [Part.modStream_stream_self]; exact (h.seqs n).like (hold fun _ hq => hq.pools))⟩
  carried {p} n f hs hc hsame hold h := ⟨kept_poolsHold.carried n f hs hc hsame hold h.pools,
    seqs_one h.seqs n (fun m hm => p.modStream_stream_of_ne hm f)
      (by rw [Part.modStream_stream_self]; exact (h.seqs n).like hold)⟩
  ended {p} n f hs hc hempty h := ⟨kept_poolsHold.ended n f hs hc (fun _ => hempty fun _ hq => hq.pools) h.pools,
    seqs_one h.seqs n (fun m hm => p.modStream_stream_of_ne hm f)
      (by simp [StreamRec.seqsBelow, (hempty fun _ hq => hq.pools).2.2.1])⟩
  bind := (keptByBindings_seqsSound B).bind
  dispatchHead {p} n hready hfree h := by
    refine ⟨kept_poolsHold.dispatchHead n hready hfree h.pools, ?_⟩
    have hlen := h.pools.hold_length_le n
    obtain ⟨x, hs, hhold⟩ := Part.headReady_hold hready
    obtain ⟨i, rest, hfree⟩ := List.exists_cons_of_ne_nil hfree
    refine seqs_one h.seqs n (fun m hm => by rw [p.dispatchHead_stream hhold hfree, if_neg hm]) ?_
    rw [p.dispatchHead_stream hhold hfree, if_pos rfl]
    rw [hhold, List.length_cons] at hlen
    exact (h.seqs n).dispatch rfl rfl rfl hhigh (fun k hk => by rw [hhold, List.length_cons] at hk; dsimp only; omega)
      (by dsimp only; omega)
  retire {p} n e he h := by
    refine ⟨kept_poolsHold.retire n e (fun _ => he fun _ hq => hq.pools) h.pools,
      seqs_one h.seqs n (fun m hm => by rw [p.retire_stream, if_neg hm]) ?_⟩
    rw [p.retire_stream, if_pos rfl]
    exact (h.seqs n).sublist (List.Sublist.map _ List.filter_sublist) (le_refl _) (.inl rfl)
  unhold {p} n x hx h := by
    refine ⟨kept_poolsHold.unhold n x (fun _ => hx fun _ hq => hq.pools) h.pools,
      seqs_one h.seqs n (fun m hm => by rw [p.unhold_stream, if_neg hm]) ?_⟩
    rw [p.unhold_stream, if_pos rfl]
    exact (h.seqs n).sublist (.refl _) List.filter_sublist.length_le (.inl rfl)
  emptyStream {p} n failed h := by
    refine ⟨kept_poolsHold.emptyStream n failed h.pools,
      seqs_one h.seqs n (fun m hm => by rw [p.emptyStream_stream, if_neg hm]) ?_⟩
    rw [p.emptyStream_stream, if_pos rfl]
    simp [StreamRec.seqsBelow]
  evaluateAll {p} h := by
    have hengine : ((((p.evaluateLane .a0).evaluateLane .a1).evaluateLane .b0).evaluateLane .b1).engine = p.engine := by
      simp [Part.evaluateLane_engine]
    exact (keptByBindings_seqsSound B).streamsFollow ⟨h.pools.of_engine hengine,
      fun n => by rw [Part.stream, hengine]; exact h.seqs n⟩ p

theorem StreamRec.seqsBelow.mono {B C : Nat} {r : StreamRec} (h : r.seqsBelow B) (hBC : B ≤ C) : r.seqsBelow C :=
  ⟨h.1, fun e he => ⟨(h.2 e he).1, (h.2 e he).2.trans hBC⟩⟩

/-- A hand-over adds one request to its stream, held or dispatched. -/
theorem Part.seqsSound.handOver {B : Nat} (hlow : 64 ≤ B) (hhigh : B + 1 < 4096) {p : Part} (h : p.seqsSound B) {q : HostRecord}
    {k : ReqKind} {r : Route} (hv : p.verdict q = .passes k r) : (p.handOver q k r).seqsSound (B + 1) := by
  have hgiven : ∀ m, ((p.given q k r).stream m).seqsBelow (B + 1) := by
    refine seqs_one (fun m => (h.seqs m).mono (Nat.le_succ B)) r.stream (fun m hm => (Part.given_stream hv m).2 hm) ?_
    have hseqs := h.seqs r.stream
    have hlen := h.pools.hold_length_le r.stream
    rcases Part.given_cases hv with ⟨-, i, rest, hfree, hg⟩ | ⟨-, i, rest, hfree, hg⟩
    · rw [hg, Part.dispatchInto_stream, if_pos rfl, p.withRequest_stream]
      exact hseqs.dispatch rfl (by rw [Part.newEntry, p.withRequest_stream]) rfl hhigh (fun k hk => by dsimp only; omega)
        (by dsimp only; omega)
    · rw [hg, Part.holdWork_stream (i := i) (rest := rest) _ _ _ _ (by rw [p.withRequest_engine]; exact hfree),
        if_pos rfl, p.withRequest_stream]
      refine ⟨hseqs.1, fun e he => ⟨(hseqs.2 e he).1, ?_⟩⟩
      have hbound := (hseqs.2 e he).2
      rw [List.length_append, List.length_singleton]
      exact Nat.succ_le_succ hbound
  refine ⟨h.pools.handOver hv, fun m => ?_⟩
  rw [p.handOver_eq, (Part.aside_flushIfEmpty _).stream m]
  split
  · refine seqs_one hgiven r.stream (fun m hm => Part.bind_stream_of_ne _ hm _) ((hgiven r.stream).like ?_) m
    rw [Part.bind_stream_self]
    exact .of_map (StreamRec.rebound_inflight _ _ _ _ _) (fun e _ => ⟨rfl, rfl, rfl, fun _ ha => ha⟩)
      (StreamRec.rebound_hold _ _ _ _ _) (StreamRec.rebound_nextSeq _ _ _ _ _)
  · exact hgiven m

theorem keptBy_seqsSound {B : Nat} (hlow : 64 ≤ B) (hhigh : B + 1 < 4096) {c : Instr} {p : Part} (h : p.seqsSound B) :
    KeptBy (Part.seqsSound (B + 1)) c p where
  powerOn pins _ := ⟨Part.powerOn_poolsHold pins, fun n => by rw [Part.powerOn_stream]; simp [StreamRec.seqsBelow, StreamRec.powerOn]⟩
  passes _ _ _ _ _ hv := h.handOver hlow hhigh hv
  route _ _ _ := ⟨h.pools.of_engine rfl, fun n => (h.seqs n).mono (Nat.le_succ B)⟩
  param _ _ _ := ⟨h.pools.of_engine rfl, fun n => (h.seqs n).mono (Nat.le_succ B)⟩
  pop _ := ⟨h.pools.of_engine rfl, fun n => (h.seqs n).mono (Nat.le_succ B)⟩
  clear _ := ⟨h.pools.of_engine rfl, fun n => (h.seqs n).mono (Nat.le_succ B)⟩

/-- Lags in order tell sequences apart. -/
theorem StreamRec.seqsBelow.nodup {B : Nat} {r : StreamRec} (h : r.seqsBelow B) : (r.inflight.map OttEntry.seq).Nodup := by
  have hlags : ((r.inflight.map OttEntry.seq).map r.lag).Pairwise (· > ·) := by
    rw [List.map_map]
    exact h.1
  exact List.Nodup.of_map r.lag (hlags.imp fun hab => Nat.ne_of_gt hab)

/-- Settles O60: sound pools are kept by every move. For the sequences, 2047 before the step leaves room for the 64
requests a stream can hold and the one that a hand-over adds. -/
theorem stepKeepsPools : Obligations.StepKeepsPools := by
  intro s s' h hx
  have hpools := kept_poolsHold.step (fun _ => keptBy_poolsHold h) h hx
  refine ⟨hpools, hpools.inflight_length_le, fun hnear hseqs => ?_⟩
  have hsound : s.part.seqsSound 2111 := ⟨h, fun n => ⟨(hseqs n).1, fun e he => ⟨(hseqs n).2 e he, by
    have hlag := hnear n e he
    have hlen := h.hold_length_le n
    omega⟩⟩⟩
  have hsound' := (kept_seqsSound (B := 2112) (by omega) (by omega)).step
    (fun _ => keptBy_seqsSound (by omega) (by omega) hsound)
    ⟨h, fun n => (hsound.seqs n).mono (Nat.le_succ 2111)⟩ hx
  exact ⟨fun n => ⟨(hsound'.seqs n).1, fun e he => ((hsound'.seqs n).2 e he).1⟩, fun n => (hsound'.seqs n).nodup⟩

end Sys2Proof.Machine
end

section
/-! Credit and arrival (O6), the form check (O7), SRST (O42) and COUNTER_HALF at raises (O51). -/

namespace Sys2Proof.Machine

/-! ### Raises -/

theorem Part.raise_counter_self (p : Part) (c : CounterId) : (p.raise c).counter c = p.counter c + 1 := by
  rcases p.raise_cases c with h | ⟨-, h⟩ <;> rw [h]
  · exact p.setCounter_counter_self c _
  · exact p.setCounter_counter_self c _

theorem Part.raise_counter_of_ne (p : Part) {c d : CounterId} (h : d ≠ c) : (p.raise c).counter d = p.counter d := by
  rcases p.raise_cases c with hr | ⟨-, hr⟩ <;> rw [hr]
  · exact p.setCounter_counter_of_ne h _
  · exact p.setCounter_counter_of_ne h _

/-- What a raise logs: COUNTER_HALF when a watched counter crosses the half (R161). -/
theorem Part.raise_log_eq (p : Part) (c : CounterId) : (p.raise c).log =
    if p.params.halfWatched c = true ∧ p.counter c = 0x7FFFFFFF#32 then
      p.log.take .counterHalf c.lane? c.stream? c.code p.timeCounter else p.log := by
  by_cases hc : p.counter c = 0x7FFFFFFF#32 ∧ p.params.halfWatched c = true
  · rw [show p.raise c = _ from if_pos hc, if_pos hc.symm]; rfl
  · rw [show p.raise c = _ from if_neg hc, if_neg fun h => hc h.symm]; rfl

theorem Part.unwatched.of_params {p q : Part} (h : p.unwatched) (hq : q.params = p.params) : q.unwatched := by
  unfold Part.unwatched; rw [hq]; exact h

theorem Part.answerHost_log_of_unwatched {p : Part} (h : p.unwatched) (t : HostTag) (st : CompletionStatus) (d : List Byte) :
    (p.answerHost t st d).log = p.log := by
  have hq : ({ p with completions := p.completions ++ [⟨t, st, d⟩] } : Part).unwatched := h
  exact Part.unwatched_raise hq _

@[simp] theorem Part.answerHost_intake (p : Part) (t : HostTag) (st : CompletionStatus) (d : List Byte) :
    (p.answerHost t st d).intake = p.intake := by simp [Part.answerHost]
@[simp] theorem Part.answerHost_engine (p : Part) (t : HostTag) (st : CompletionStatus) (d : List Byte) :
    (p.answerHost t st d).engine = p.engine := by simp [Part.answerHost]
@[simp] theorem Part.answerHost_lanes (p : Part) (t : HostTag) (st : CompletionStatus) (d : List Byte) :
    (p.answerHost t st d).lanes = p.lanes := by simp [Part.answerHost]

/-! ### The codes of a record -/

/-- The kinds of a record, by its code (R8). -/
theorem ReqKind.ofCode_eq_some_iff (c : Byte) (k : ReqKind) : ReqKind.ofCode c = some k ↔
    c = match k with
      | .read => 0x01#8
      | .write => 0x02#8
      | .swap => 0x03#8 := by
  cases k <;> revert c <;> decide

theorem ReqKind.ofCode_eq_none_iff (c : Byte) :
    ReqKind.ofCode c = none ↔ c ≠ 0x01#8 ∧ c ≠ 0x02#8 ∧ c ≠ 0x03#8 := by revert c; decide

theorem expectsAnswer_iff (q : HostRecord) : expectsAnswer q = true ↔ q.kind ≠ 0x02#8 := by
  rw [expectsAnswer, bne_iff_ne, ne_eq, ReqKind.ofCode_eq_some_iff]

theorem expectsAnswer_eq_false (q : HostRecord) : expectsAnswer q = false ↔ q.kind = 0x02#8 := by
  rw [← Bool.not_eq_true, expectsAnswer_iff, Classical.not_not]

/-! ### O6: credit and arrival -/

theorem ServiceState.offersCredit_iff (s : ServiceState) : s.offersCredit = true ↔ s = .running ∨ s = .restricted := by
  cases s <;> simp [ServiceState.offersCredit]

/-- A record that finds no credit: its refusal reaches the log, the counters and the completions alone (R1, R8). -/
theorem Part.refuseUncredited_effects {p : Part} (h : p.unwatched) (q : HostRecord) :
    (p.refuseUncredited q).intake = p.intake ∧ (p.refuseUncredited q).engine = p.engine ∧
    (p.refuseUncredited q).lanes = p.lanes ∧
    (p.refuseUncredited q).completions =
      (if q.kind = 0x02#8 then p.completions else p.completions ++ [⟨q.tag, .malformed, []⟩]) ∧
    (p.refuseUncredited q).log =
      p.log.take .malformed none none (BitVec.ofNat 16 (6 * 256 + q.tag.toNat)) p.timeCounter := by
  have hlog : ((p.raise (.part .requestsRefused)).event .malformed none none (bytePair 6 q.tag.toNat)).log =
      p.log.take .malformed none none (BitVec.ofNat 16 (6 * 256 + q.tag.toNat)) p.timeCounter := by
    simp [Part.event, Part.unwatched_raise h, bytePair, Part.timeCounter, Nat.mod_eq_of_lt q.tag.isLt]
  have hun : ((p.raise (.part .requestsRefused)).event .malformed none none (bytePair 6 q.tag.toNat)).unwatched :=
    h.of_params (by simp)
  unfold Part.refuseUncredited
  dsimp only
  cases he : expectsAnswer q with
  | true =>
    rw [if_pos rfl, if_neg ((expectsAnswer_iff q).mp he)]
    exact ⟨by simp, by simp, by simp, by simp, (Part.answerHost_log_of_unwatched hun _ _ _).trans hlog⟩
  | false =>
    rw [if_neg Bool.false_ne_true, if_pos ((expectsAnswer_eq_false q).mp he)]
    exact ⟨by simp, by simp, by simp, by simp, hlog⟩

/-- Settles O6. -/
theorem creditAndArrival : Obligations.CreditAndArrival := by
  refine ⟨fun p w hinit htally hup hqueue hcredits => ?_, fun p w hdown hcredits => ?_, fun p w q hun => ⟨fun hc => ?_,
    fun hc => ?_⟩⟩
  · simp [exec, execInitDone, Part.setService, Part.flushTally, Part.modIntake, Intake.offer, hinit, htally, hup, hqueue,
      hcredits, ServiceState.offersCredit, Config.intakeSlots]
  · have hoffer : ({ p.intake with linkUp := true } : Intake).offer = { p.intake with
        linkUp := true,
        credits := if p.intake.service = .running ∨ p.intake.service = .restricted then 32 - p.intake.queue.length
          else 0 } := by
      unfold Intake.offer
      by_cases hs : p.intake.service = .running ∨ p.intake.service = .restricted
      · rw [if_pos ⟨(ServiceState.offersCredit_iff _).mpr hs, rfl⟩, if_pos hs]
        simp [hcredits, Config.intakeSlots]
      · rw [if_neg fun h => hs ((ServiceState.offersCredit_iff _).mp h.1), if_neg hs, ← hcredits]
    simp [exec, execHostLinkUp, Part.modIntake, hdown, hoffer]
  · refine ⟨(p.raise (.part .requestsArrived)).enqueue q, by simp [exec, execHostRequest, hc], ?_⟩
    refine ⟨by simp [Part.enqueue, Part.modIntake], by simp [Part.enqueue, Part.modIntake],
      by simp [Part.enqueue, Part.modIntake, Part.unwatched_raise hun], by simp [Part.enqueue, Part.modIntake],
      by simp [Part.enqueue, Part.modIntake], ?_⟩
    exact p.raise_counter_self _
  · refine ⟨(p.raise (.part .requestsArrived)).refuseUncredited q, by simp [exec, execHostRequest, hc], ?_⟩
    have h := Part.refuseUncredited_effects (p := p.raise (.part .requestsArrived)) (hun.of_params (by simp)) q
    rw [Part.raise_intake, Part.raise_engine, Part.raise_lanes, Part.raise_completions, Part.unwatched_raise hun] at h
    simpa [Part.timeCounter] using h

/-! ### O7: the form check -/

/-- A request of 1 to 256 bytes crosses a 256-byte boundary exactly when its last byte lies in another page. -/
theorem crosses_iff (a len : Nat) (hlow : 1 ≤ len) (hhigh : len ≤ 256) :
    256 < a % 256 + len ↔ a / 256 ≠ (a + len - 1) / 256 := by omega

/-- The form check of a record of known kind, with R8's conditions as R8 words them. -/
theorem Intake.malformed_of_kind (i : Intake) (q : HostRecord) {k : ReqKind} (hk : ReqKind.ofCode q.kind = some k) :
    i.malformed q =
      if ¬(q.length.toNat % 4 = 0 ∧ 4 ≤ q.length.toNat ∧ q.length.toNat ≤ 256 ∧
          q.data.length = k.dataBytes q.length.toNat) then some 2
      else if q.address.toNat / 256 ≠ (q.address.toNat + q.length.toNat - 1) / 256 then some 3
      else if k = .swap ∧ (q.length.toNat ≠ 8 ∨ q.address.toNat % 8 ≠ 0) then some 4
      else if k ≠ .write ∧ i.tagOpen q.tag = true then some 5
      else none := by
  unfold Intake.malformed
  rw [hk]
  dsimp only
  by_cases hlen : q.length.toNat % 4 = 0 ∧ 4 ≤ q.length.toNat ∧ q.length.toNat ≤ 256 ∧
      q.data.length = k.dataBytes q.length.toNat
  · obtain ⟨h4, hlow, hhigh, hdata⟩ := hlen
    rw [if_neg (by omega), if_neg (not_not_intro ⟨h4, hlow, hhigh, hdata⟩),
      if_congr (crosses_iff q.address.toNat q.length.toNat (by omega) hhigh) rfl rfl]
  · rw [if_pos (by omega), if_pos hlen]

/-- Settles O7, by the kinds a record can have. -/
theorem malformedReasons : Obligations.MalformedReasons := by
  intro i q
  cases hk : ReqKind.ofCode q.kind with
  | none =>
    rw [if_pos ((ReqKind.ofCode_eq_none_iff _).mp hk)]
    simp [Intake.malformed, hk]
  | some k =>
    have hcode := (ReqKind.ofCode_eq_some_iff _ k).mp hk
    rw [i.malformed_of_kind q hk]
    cases k <;> simp [hcode, ReqKind.dataBytes]

/-! ### The management port -/

/-- A command reaches the part while no diagnostic burst holds the port (R165, R173). -/
theorem State.manage_of_free {p : Part} (h : p.port.burst = none) (w : List Instr) (f : Part → Part) :
    (State.mk p w).manage f = .next ⟨f p, w⟩ := by simp [State.manage, Part.managed, h]

theorem Part.sameButResponse_respond (p : Part) (st : Byte) (d : List Byte) : p.sameButResponse (p.respond st d) := rfl
theorem Part.sameButResponse_reply (p : Part) (st : Status) : p.sameButResponse (p.reply st) := rfl
@[simp] theorem Part.reply_status (p : Part) (st : Status) : (p.reply st).port.status = st.code := rfl
@[simp] theorem Part.reply_data (p : Part) (st : Status) : (p.reply st).port.data = [] := rfl
@[simp] theorem Part.reply_stream (p : Part) (st : Status) (n : StreamId) : (p.reply st).stream n = p.stream n := rfl

/-! ### O42: SRST -/

/-- Settles O42, by the state of the stream. -/
theorem streamResetJudged : Obligations.StreamResetJudged := by
  intro p w stream hport
  refine ⟨p.withOperand (streamOfByte stream) (fun n => p.resetStream n), State.manage_of_free hport w _, ?_⟩
  cases hn : streamOfByte stream with
  | none => exact ⟨rfl, rfl, p.sameButResponse_reply .badOperand⟩
  | some n =>
    dsimp only [Part.withOperand, Part.resetStream]
    cases hs : (p.stream n).state with
    | faulted =>
      refine ⟨rfl, fun m hm => ?_, rfl, rfl, rfl, rfl, rfl, ?_⟩
      · rw [Part.reply_stream, p.modStream_stream_of_ne hm]
      · rw [Part.reply_stream, p.modStream_stream_self]
    | idle => exact ⟨rfl, fun _ _ => rfl, rfl, rfl, rfl, rfl, rfl, p.sameButResponse_reply .ok⟩
    | binding | replaying | bound | draining | stalled =>
      exact ⟨rfl, fun _ _ => rfl, rfl, rfl, rfl, rfl, rfl, p.sameButResponse_reply .notNow⟩

/-! ### O51: COUNTER_HALF -/

/-- A lane that is not in OFF is not looped back (R163). -/
theorem LaneRec.looped_of_state {r : LaneRec} (h : r.state ≠ .off) : r.looped = false := by
  simp [LaneRec.looped, h]

/-- A part whose lane counters are unwatched raises them silently. -/
theorem Part.raise_lane_counter_log {p : Part} (h : p.params.halfLane = 0) (l : Lane) (c : LaneCounter) :
    (p.raise (.lane l c)).log = p.log := p.raise_log _ (by simp [Params.halfWatched, h])

/-- A good frame on a lane not in OFF, with no code violation, reaches its handling after its count and the silence
timer (R45, R78). -/
theorem Part.arrive_good {p : Part} {l : Lane} (h : (p.lane l).state ≠ .off) (f : Frame) :
    p.arrive l f false = ((p.raise (.lane l .framesReceived)).heard l).inService l f := by
  rw [Part.arrive_of_not_looped (LaneRec.looped_of_state h)]
  have hstate : (((p.raise (.lane l .framesReceived)).heard l).lane l).state = (p.lane l).state := by
    simp [Part.heard]
  unfold Part.receive
  dsimp only
  rw [show (p.raise (.lane l .framesReceived)).violated l false = p.raise (.lane l .framesReceived) from rfl,
    LaneRec.looped_of_state (by rw [hstate]; exact h), if_neg Bool.false_ne_true, if_neg (by rw [hstate]; exact h)]

/-! The silence timer's restart reaches the lane's record alone. -/

@[simp] theorem Part.heard_params (p : Part) (l : Lane) : (p.heard l).params = p.params := rfl
@[simp] theorem Part.heard_now (p : Part) (l : Lane) : (p.heard l).now = p.now := rfl
@[simp] theorem Part.heard_intake (p : Part) (l : Lane) : (p.heard l).intake = p.intake := rfl
@[simp] theorem Part.heard_completions (p : Part) (l : Lane) : (p.heard l).completions = p.completions := rfl
@[simp] theorem Part.heard_engine (p : Part) (l : Lane) : (p.heard l).engine = p.engine := rfl
@[simp] theorem Part.heard_sides (p : Part) (l : Lane) : (p.heard l).sides = p.sides := rfl
@[simp] theorem Part.heard_log (p : Part) (l : Lane) : (p.heard l).log = p.log := rfl
@[simp] theorem Part.heard_reports (p : Part) (l : Lane) : (p.heard l).reports = p.reports := rfl
@[simp] theorem Part.heard_port (p : Part) (l : Lane) : (p.heard l).port = p.port := rfl
@[simp] theorem Part.heard_stream (p : Part) (l : Lane) (n : StreamId) : (p.heard l).stream n = p.stream n := rfl
@[simp] theorem Part.heard_counter (p : Part) (l : Lane) (c : CounterId) : (p.heard l).counter c = p.counter c := rfl

/-- A good frame with no code violation as its handling finds the part: counted, with the silence timer restarted
(R45, R78). -/
def Part.reached (p : Part) (l : Lane) : Part := (p.raise (.lane l .framesReceived)).heard l

@[simp] theorem Part.reached_params (p : Part) (l : Lane) : (p.reached l).params = p.params := by simp [Part.reached]
@[simp] theorem Part.reached_now (p : Part) (l : Lane) : (p.reached l).now = p.now := by simp [Part.reached]
@[simp] theorem Part.reached_intake (p : Part) (l : Lane) : (p.reached l).intake = p.intake := by simp [Part.reached]
@[simp] theorem Part.reached_completions (p : Part) (l : Lane) : (p.reached l).completions = p.completions := by
  simp [Part.reached]
@[simp] theorem Part.reached_engine (p : Part) (l : Lane) : (p.reached l).engine = p.engine := by simp [Part.reached]
@[simp] theorem Part.reached_sides (p : Part) (l : Lane) : (p.reached l).sides = p.sides := by simp [Part.reached]
@[simp] theorem Part.reached_reports (p : Part) (l : Lane) : (p.reached l).reports = p.reports := by
  simp [Part.reached]
@[simp] theorem Part.reached_port (p : Part) (l : Lane) : (p.reached l).port = p.port := by simp [Part.reached]
@[simp] theorem Part.reached_stream (p : Part) (l : Lane) (n : StreamId) : (p.reached l).stream n = p.stream n := by
  simp [Part.reached]
@[simp] theorem Part.reached_timeCounter (p : Part) (l : Lane) : (p.reached l).timeCounter = p.timeCounter := by
  simp [Part.timeCounter]
theorem Part.reached_log {p : Part} (h : p.unwatched) (l : Lane) : (p.reached l).log = p.log := Part.unwatched_raise h _
theorem Part.reached_counter_self (p : Part) (l : Lane) :
    (p.reached l).counter (.lane l .framesReceived) = p.counter (.lane l .framesReceived) + 1 :=
  p.raise_counter_self _
theorem Part.reached_counter_of_ne (p : Part) (l : Lane) {c : CounterId} (h : c ≠ .lane l .framesReceived) :
    (p.reached l).counter c = p.counter c := p.raise_counter_of_ne h

theorem Part.reached_lane_self (p : Part) (l : Lane) : (p.reached l).lane l = { p.lane l with
    timers := { (p.lane l).timers with
      silence := if (p.lane l).state.isUp then some (p.now + 2 * p.params.beatUs)
        else (p.lane l).timers.silence } } := by
  simp [Part.reached, Part.heard]
theorem Part.reached_lane_of_ne (p : Part) {l m : Lane} (h : m ≠ l) : (p.reached l).lane m = p.lane m := by
  simp [Part.reached, Part.heard, Part.modLane_lane_of_ne, h]
@[simp] theorem Part.reached_lane_state (p : Part) (l m : Lane) : ((p.reached l).lane m).state = (p.lane m).state := by
  by_cases hm : m = l
  · rw [hm, p.reached_lane_self]
  · rw [p.reached_lane_of_ne hm]

/-- A frame for the stream engine that names this node and is not malformed reaches R30's filter (R45). -/
theorem Part.inService_engineTakes (p : Part) (l : Lane) {f : Frame} (hk : destined f.kind = true)
    (hd : f.header.destination = p.params.sourceNode) (hm : malformedFrame f = false) :
    p.inService l f = p.engineTakes l f := by
  rw [Part.inService, if_neg fun h => h.2 hd, hm, if_neg Bool.false_ne_true]
  unfold Part.byKind
  cases hf : f.kind with
  | answer | tell | gap => rfl
  | request | ask | beat | page | test | pause | probe | other => simp [destined, hf] at hk

/-- Settles O51: each of the three commands raises its counter, and what else it does logs nothing. -/
theorem counterHalfRaised : Obligations.CounterHalfRaised := by
  refine fun p w => ⟨fun q hc => ?_, fun l hl => ?_, fun l h n hn hlane hoff hnode hstale => ?_⟩
  · refine ⟨(p.raise (.part .requestsArrived)).enqueue q, by simp [exec, execHostRequest, hc],
      p.raise_counter_self _, ?_⟩
    exact p.raise_log_eq _
  · have hlose : (p.raise (.lane l .linkLosses)).loseLine l = p.raise (.lane l .linkLosses) := by
      unfold Part.loseLine
      rw [Part.raise_lane]
      rcases (by simpa using hl : (p.lane l).state = .off ∨ (p.lane l).state = .quiet ∨ (p.lane l).state = .down) with
        hs | hs | hs <;> rw [hs]
    refine ⟨p.raise (.lane l .linkLosses), congrArg (fun q => Host.Outcome.next (State.mk q w)) hlose,
      p.raise_counter_self _, ?_⟩
    rw [p.raise_log_eq]
    cases l <;> rfl
  · subst hn
    have harrive : p.arrive l ⟨.tell, h, []⟩ false = (p.reached l).raise (.stream h.stream .stale) := by
      rw [Part.arrive_good hoff]
      refine (Part.inService_engineTakes (p.reached l) l rfl (by simpa using hnode) rfl).trans ?_
      exact if_pos (by simpa using hstale)
    have hcounter : (p.reached l).counter (.stream h.stream .stale) = p.counter (.stream h.stream .stale) :=
      p.reached_counter_of_ne l (by simp)
    have hlog : (p.reached l).log = p.log := Part.raise_lane_counter_log hlane l _
    refine ⟨(p.reached l).raise (.stream h.stream .stale),
      congrArg (fun q => Host.Outcome.next (State.mk q w)) harrive, ?_, ?_⟩
    · rw [Part.raise_counter_self, hcounter]
    · rw [Part.raise_log_eq, hcounter, hlog, Part.reached_timeCounter, Part.reached_params]
      rfl

end Sys2Proof.Machine
end

section
/-! Byte order and the header's bits (O55), the judgement of management frames (O54), the log's commands (O49). -/

namespace Sys2Proof.Machine

/-! ### Byte order -/

@[simp] theorem toBigEndian_length (w v : Nat) : (toBigEndian w v).length = w := by
  induction w generalizing v with
  | zero => rfl
  | succ w ih => simp [toBigEndian, ih]

theorem bigEndian_append_one (bs : List Byte) (b : Byte) : bigEndian (bs ++ [b]) = bigEndian bs * 256 + b.toNat := by
  simp [bigEndian]

/-- A number of `w` bytes reads back as itself. -/
theorem bigEndian_toBigEndian {w v : Nat} (h : v < 256 ^ w) : bigEndian (toBigEndian w v) = v := by
  induction w generalizing v with
  | zero => simp [toBigEndian, bigEndian] at h ⊢; omega
  | succ w ih =>
    have hdiv : v / 256 < 256 ^ w := by rw [pow_succ] at h; omega
    rw [toBigEndian, bigEndian_append_one, ih hdiv, BitVec.toNat_ofNat]
    omega

/-- The number that `w` bytes stand for has `w` bytes. -/
theorem bigEndian_lt (bs : List Byte) : bigEndian bs < 256 ^ bs.length := by
  induction bs using List.reverseRecOn with
  | nil => simp [bigEndian]
  | append_singleton bs b ih =>
    have hb := b.isLt
    rw [bigEndian_append_one, List.length_append, List.length_singleton, pow_succ]
    omega

/-! ### O55: frames -/

/-- Bits of the low part of two joined vectors. -/
theorem extractLsb'_append_low {m n : Nat} (x : BitVec m) (y : BitVec n) {s w : Nat} (h : s + w ≤ n) :
    (x ++ y).extractLsb' s w = y.extractLsb' s w := by
  refine BitVec.eq_of_getLsbD_eq fun i hi => ?_
  simp only [BitVec.getLsbD_extractLsb', BitVec.getLsbD_append, hi, decide_true, Bool.true_and]
  rw [if_pos (by omega)]

/-- Bits of the high part of two joined vectors. -/
theorem extractLsb'_append_high {m n : Nat} (x : BitVec m) (y : BitVec n) {s w : Nat} (h : n ≤ s) :
    (x ++ y).extractLsb' s w = x.extractLsb' (s - n) w := by
  refine BitVec.eq_of_getLsbD_eq fun i hi => ?_
  simp only [BitVec.getLsbD_extractLsb', BitVec.getLsbD_append, hi, decide_true, Bool.true_and]
  rw [if_neg (by omega), show s + i - n = s - n + i by omega]

theorem getLsbD_append_low {m n : Nat} (x : BitVec m) (y : BitVec n) {i : Nat} (h : i < n) :
    (x ++ y).getLsbD i = y.getLsbD i := by rw [BitVec.getLsbD_append, if_pos h]

theorem getLsbD_append_high {m n : Nat} (x : BitVec m) (y : BitVec n) {i : Nat} (h : n ≤ i) :
    (x ++ y).getLsbD i = x.getLsbD (i - n) := by rw [BitVec.getLsbD_append, if_neg (by omega)]

theorem kindOfCode_kindCode {k : FrameKind} (h : k.wellFormed = true) : kindOfCode (kindCode k) = k := by
  cases k with
  | other c => revert c; decide
  | _ => rfl

theorem partnerOfCode_partnerCode (c : PartnerState) : partnerOfCode (BitVec.ofNat 2 (partnerCode c)) = c := by
  cases c <;> rfl

theorem kindOfBits_headerBits {k : FrameKind} (hk : k.wellFormed = true) (h : Header) :
    kindOfBits (headerBits k h) = k := by
  unfold kindOfBits headerBits
  simp (disch := omega) only [extractLsb'_append_high, Nat.reduceSub, BitVec.extractLsb'_eq_self]
  exact kindOfCode_kindCode hk

/-- The header's 160 bits hold its fields (R184). -/
theorem headerOfBits_headerBits (k : FrameKind) (h : Header) : headerOfBits (headerBits k h) = h := by
  unfold headerOfBits headerBits
  simp (disch := omega) only [extractLsb'_append_high, extractLsb'_append_low, getLsbD_append_high, getLsbD_append_low,
    Nat.reduceSub, BitVec.extractLsb'_eq_self, partnerOfCode_partnerCode, BitVec.getLsbD_ofBool, decide_true,
    Bool.true_and]
  cases h with | mk => simp

/-- A header's 20 bytes stand for its 160 bits. -/
theorem ofNat_bigEndian_headerBytes (k : FrameKind) (h : Header) :
    BitVec.ofNat 160 (bigEndian (headerBytes k h)) = headerBits k h := by
  have hlt : (headerBits k h).toNat < 256 ^ 20 := (headerBits k h).isLt
  rw [headerBytes, bigEndian_toBigEndian hlt, BitVec.ofNat_toNat, BitVec.setWidth_eq]

@[simp] theorem crcBytes_length (c : BitVec 32) : (crcBytes c).length = 4 := by simp [crcBytes]
@[simp] theorem headerBytes_length (k : FrameKind) (h : Header) : (headerBytes k h).length = 20 := by simp [headerBytes]

/-- Settles O55: the check of a frame's own bytes holds, and header and payload read back from them. -/
theorem frameRoundTrip : Obligations.FrameRoundTrip := by
  intro f hf
  obtain ⟨hkind, hpayload⟩ := Bool.and_eq_true_iff.mp hf
  obtain ⟨hshort, hfour⟩ := Bool.and_eq_true_iff.mp hpayload
  rw [decide_eq_true_iff] at hshort
  rw [beq_iff_eq] at hfour
  have hlength : (Frame.bytes f).length = f.payload.length + 24 := by simp [Frame.bytes]; omega
  have hbody : (Frame.bytes f).take ((Frame.bytes f).length - 4) = headerBytes f.kind f.header ++ f.payload := by
    rw [hlength]
    exact List.take_left' (by simp; omega)
  have hcheck : (Frame.bytes f).drop ((Frame.bytes f).length - 4) =
      crcBytes (crc (headerBytes f.kind f.header ++ f.payload)) := by
    rw [hlength]
    exact List.drop_left' (by simp; omega)
  have htake : (headerBytes f.kind f.header ++ f.payload).take 20 = headerBytes f.kind f.header :=
    List.take_left' (by simp)
  have hdrop : (headerBytes f.kind f.header ++ f.payload).drop 20 = f.payload := List.drop_left' (by simp)
  unfold Frame.ofBytes
  rw [if_pos (by omega)]
  dsimp only
  rw [hbody, hcheck, if_pos rfl, htake, hdrop, ofNat_bigEndian_headerBytes, kindOfBits_headerBits hkind,
    headerOfBits_headerBits]

/-! ### O54: management frames -/

/-- The codes R175 gives no operand, one, two, and so on. -/
theorem commandOf_of_some_operands {code : Byte} {operands : List Byte}
    (hc : code ∈ [0x01#8, 0x02#8, 0x50#8, 0x51#8, 0x52#8, 0x60#8, 0x61#8, 0x62#8]) (h : operands ≠ []) :
    commandOf code operands = .refused .badOperand := by
  obtain ⟨a, rest, rfl⟩ := List.exists_cons_of_ne_nil h
  simp only [List.mem_cons, List.not_mem_nil, or_false] at hc
  rcases hc with rfl | rfl | rfl | rfl | rfl | rfl | rfl | rfl <;> rfl

theorem commandOf_of_not_one {code : Byte} {operands : List Byte}
    (hc : code ∈ [0x11#8, 0x12#8, 0x20#8, 0x22#8, 0x30#8, 0x41#8]) (h : operands.length ≠ 1) :
    commandOf code operands = .refused .badOperand := by
  simp only [List.mem_cons, List.not_mem_nil, or_false] at hc
  match operands, h with
  | [], _ => rcases hc with rfl | rfl | rfl | rfl | rfl | rfl <;> rfl
  | _ :: _ :: _, _ => rcases hc with rfl | rfl | rfl | rfl | rfl | rfl <;> rfl

theorem commandOf_of_not_two {code : Byte} {operands : List Byte} (hc : code ∈ [0x21#8, 0x31#8, 0x38#8])
    (h : operands.length ≠ 2) : commandOf code operands = .refused .badOperand := by
  simp only [List.mem_cons, List.not_mem_nil, or_false] at hc
  match operands, h with
  | [], _ => rcases hc with rfl | rfl | rfl <;> rfl
  | [_], _ => rcases hc with rfl | rfl | rfl <;> rfl
  | _ :: _ :: _ :: _, _ => rcases hc with rfl | rfl | rfl <;> rfl

theorem commandOf_dgpt_of_not_three {operands : List Byte} (h : operands.length ≠ 3) :
    commandOf 0x39#8 operands = .refused .badOperand := by
  match operands, h with
  | [], _ | [_], _ | [_, _], _ => rfl
  | _ :: _ :: _ :: _ :: _, _ => rfl

theorem commandOf_ctrd_of_not_four {operands : List Byte} (h : operands.length ≠ 4) :
    commandOf 0x58#8 operands = .refused .badOperand := by
  match operands, h with
  | [], _ | [_], _ | [_, _], _ | [_, _, _], _ => rfl
  | _ :: _ :: _ :: _ :: _ :: _, _ => rfl

theorem commandOf_rtwr_of_not_twentyfour {operands : List Byte} (h : operands.length ≠ 24) :
    commandOf 0x10#8 operands = .refused .badOperand := by
  match operands, h with
  | [], _ | [_], _ | [_, _], _ | [_, _, _], _ | [_, _, _, _], _ => rfl
  | _ :: _ :: _ :: _ :: _ :: _, h => exact if_neg h

theorem lnctOf_of_undefined (l : Byte) {a : Byte} (h : a.toNat < 1 ∨ 6 < a.toNat) :
    lnctOf l a = .refused .badOperand := by
  rcases h with h | h
  · rw [lnctOf, Nat.lt_one_iff.mp h]; rfl
  · obtain ⟨k, hk⟩ := Nat.exists_eq_add_of_lt h
    rw [lnctOf, hk, show 6 + k + 1 = k + 7 by omega]; rfl

theorem pmwrOf_of_unfit {id : Byte} {value : List Byte} (h : ∀ k, Param.ofId id = some k → value.length ≠ k.width) :
    pmwrOf id value = .refused .badOperand := by
  unfold pmwrOf
  cases hk : Param.ofId id with
  | none => rfl
  | some k => exact if_neg (h k hk)

/-- A frame that R174 refuses changes nothing but the response. -/
theorem exec_badCommand_refused {p : Part} (hport : p.port.burst = none) (w : List Instr) {frame : List Byte} {st : Status}
    (h : judgeFrame frame = .refused st) : exec (.badCommand frame) ⟨p, w⟩ = .next ⟨p.reply st, w⟩ := by
  refine (State.manage_of_free hport w _).trans ?_
  simp only [h]

/-- A frame whose code R175 has is judged by its operands (R174). -/
theorem judgeFrame_of_known {code : Byte} (hsvrs : code ≠ 0x6F#8) (hknown : commandCodes.contains code = true)
    (count : Byte) (operands : List Byte) : judgeFrame (code :: count :: operands) =
      if 32 < count.toNat ∨ count.toNat ≠ operands.length then .refused .badOperand
      else commandOf code operands := by
  rw [judgeFrame, if_neg hsvrs, hknown, if_neg Bool.true_eq_false.mp]

/-- The codes of R175 but SVRS's. -/
theorem commandCodes_contains_iff {code : Byte} (h : code ≠ 0x6F#8) : commandCodes.contains code = true ↔
    code ∈ [0x01, 0x02, 0x10, 0x11, 0x12, 0x20, 0x21, 0x22, 0x30, 0x31, 0x38, 0x39, 0x40, 0x41, 0x50, 0x51, 0x52,
      0x58, 0x60, 0x61, 0x62].map (BitVec.ofNat 8) := by
  revert code; decide

/-- Settles O54, by what is wrong with the frame. -/
theorem commandFramesJudged : Obligations.CommandFramesJudged := by
  refine ⟨fun p w code rest hport hsvrs => ⟨fun hcode => ?_, fun hcode hbad => ?_⟩, fun p w => ?_, fun rest => rfl⟩
  · have hunknown : commandCodes.contains code = false :=
      Bool.eq_false_iff.mpr fun h => hcode ((commandCodes_contains_iff hsvrs).mp h)
    refine ⟨_, exec_badCommand_refused hport w (st := .badCommand) ?_, rfl, rfl, p.sameButResponse_reply _⟩
    exact (if_neg hsvrs).trans (if_pos hunknown)
  · have hknown := (commandCodes_contains_iff hsvrs).mpr hcode
    refine ⟨_, exec_badCommand_refused hport w (st := .badOperand) ?_, rfl, rfl, p.sameButResponse_reply _⟩
    rcases hbad with rfl | ⟨count, operands, rfl, hbad⟩
    · rw [judgeFrame, if_neg hsvrs, hknown]; rfl
    · rw [judgeFrame_of_known hsvrs hknown]
      by_cases hcount : 32 < count.toNat ∨ count.toNat ≠ operands.length
      · rw [if_pos hcount]
      · rw [if_neg hcount]
        rcases hbad with h | h | ⟨hc, h⟩ | ⟨hc, h⟩ | ⟨hc, h⟩ | ⟨rfl, h⟩ | ⟨rfl, h⟩ | ⟨rfl, h⟩ | ⟨rfl, l, a, rfl, h⟩ |
          ⟨rfl, h⟩
        · exact absurd (.inl h) hcount
        · exact absurd (.inr h) hcount
        · exact commandOf_of_some_operands hc h
        · exact commandOf_of_not_one hc h
        · exact commandOf_of_not_two hc h
        · exact commandOf_dgpt_of_not_three h
        · exact commandOf_ctrd_of_not_four h
        · exact commandOf_rtwr_of_not_twentyfour h
        · exact lnctOf_of_undefined l h
        · rcases h with rfl | ⟨id, value, rfl, h⟩
          · rfl
          · exact pmwrOf_of_unfit h
  · rcases hp : p.port.burst with _ | l <;> simp [exec, execBadCommand, State.manage, Part.managed, hp, judgeFrame]

/-! ### O49: the log's commands -/

/-- A number of `w` bits has a bit outside a mask. -/
theorem and_not_ne_zero_iff {w : Nat} (v : Nat) (mask : BitVec w) : (BitVec.ofNat w v &&& ~~~mask) ≠ 0 ↔
    ∃ k : Fin w, v.testBit k = true ∧ mask.getLsbD k = false := by
  constructor
  · intro h
    by_contra hno
    refine h (BitVec.eq_of_getLsbD_eq fun i hi => ?_)
    have hi' := not_and.mp (not_exists.mp hno ⟨i, hi⟩)
    rw [BitVec.getLsbD_and, BitVec.getLsbD_ofNat, BitVec.getLsbD_not]
    cases hv : v.testBit i with
    | false => simp
    | true => simp only [(Bool.not_eq_false _).mp (hi' hv)]; simp
  · rintro ⟨k, hv, hm⟩ h
    have hk := congrArg (fun x => x.getLsbD k) h
    simp only [BitVec.getLsbD_and, BitVec.getLsbD_ofNat, BitVec.getLsbD_not, k.isLt, decide_true, Bool.true_and, hv, hm,
      Bool.not_false] at hk
    simp at hk

/-- ATTENTION_SET has a bit for each event kind, 01h to 21h (R152, R181). -/
theorem definedKinds_iff (k : Fin 64) : definedKinds.getLsbD k = true ↔ 1 ≤ k.val ∧ k.val ≤ 0x21 := by
  revert k; decide

theorem attention_undefinedMember_iff (v : Nat) : Param.undefinedMember .attentionSet v = true ↔
    ∃ k : Fin 64, v.testBit k = true ∧ ¬(1 ≤ k.val ∧ k.val ≤ 0x21) := by
  rw [show Param.undefinedMember .attentionSet v = ((BitVec.ofNat 64 v &&& ~~~definedKinds) != 0) from rfl, bne_iff_ne,
    and_not_ne_zero_iff]
  simp only [← definedKinds_iff, Bool.not_eq_true]

/-- Clamping leaves a value in range as it is. -/
theorem clampTo_of_mem {lo hi v : Nat} (hlo : lo ≤ v) (hhi : v ≤ hi) : clampTo lo hi v = v := by
  unfold clampTo; omega

/-- The attention line is asserted while an entry's kind is in the set (R152). -/
theorem Part.attention_iff (p : Part) : p.attention = true ↔
    ∃ e ∈ p.log.entries, p.params.attentionSet.getLsbD e.kind.code = true := by
  simp [Part.attention]

/-- The newest entry after an event is of its kind (R146). -/
theorem EventLog.take_newest (log : EventLog) (kind : EventKind) (lane : Option Lane) (stream : Option StreamId)
    (detail : BitVec 16) (time : BitVec 32) :
    ∃ e ∈ (log.take kind lane stream detail time).entries, e.kind = kind := by
  rcases log.take_cases kind lane stream detail time with ⟨es, e, -, hk, -, -, h⟩ | ⟨-, h⟩ <;> rw [h]
  · exact ⟨{ e with repeats := min 255 (e.repeats + 1) }, by simp, hk⟩
  · refine ⟨⟨log.next, kind, lane, stream, detail, 1, time⟩, ?_, rfl⟩
    unfold EventLog.append
    dsimp only
    split <;> simp

theorem EventKind.code_lt (k : EventKind) : k.code < 64 := by cases k <;> decide

/-- A written ATTENTION_SET of defined kinds is stored as it stands (R152, R180). -/
theorem Part.writeParam_attention (p : Part) {value : List Byte} (hlen : value.length = 8)
    (hkinds : ∀ k, (bigEndian value).testBit k = true → 1 ≤ k ∧ k ≤ 0x21) :
    p.writeParam .attentionSet value =
      ({ p with params := { p.params with attentionSet := BitVec.ofNat 64 (bigEndian value) } } : Part).reply .ok := by
  have hdefined : ¬Param.undefinedMember .attentionSet (bigEndian value) = true := by
    rw [attention_undefinedMember_iff]
    exact fun ⟨k, hv, hk⟩ => hk (hkinds k hv)
  have hclamped : p.params.clamped .attentionSet (bigEndian value) = bigEndian value := by
    have hlt := bigEndian_lt value
    rw [hlen, show 256 ^ 8 = 0xFFFFFFFFFFFFFFFF + 1 by norm_num] at hlt
    exact clampTo_of_mem (Nat.zero_le _) (show _ ≤ 0xFFFFFFFFFFFFFFFF by omega)
  rw [Part.writeParam, if_neg (fun h => h hlen), if_neg hdefined, if_neg (by simp), Part.acceptParam]
  dsimp only
  rw [hclamped, if_pos rfl]
  rfl

/-- Settles O49. -/
theorem logCommands : Obligations.LogCommands := by
  refine ⟨fun p w => ⟨p.attention_iff, fun hport => ?_, fun value hport hlen hkinds => ?_, fun kind lane stream detail hk => ?_⟩,
    fun p w hport => ⟨?_, ?_⟩⟩
  · exact ⟨_, State.manage_of_free hport w _, Part.attention_iff _⟩
  · refine ⟨_, (State.manage_of_free hport w _).trans
      (congrArg (fun q => Host.Outcome.next (State.mk q w)) (p.writeParam_attention hlen hkinds)), rfl, rfl, ?_⟩
    rw [Part.attention_iff]
    refine exists_congr fun e => and_congr_right fun _ => ?_
    show (BitVec.ofNat 64 (bigEndian value)).getLsbD e.kind.code = true ↔ _
    rw [BitVec.getLsbD_ofNat, decide_eq_true e.kind.code_lt, Bool.true_and]
  · obtain ⟨e, he, hkind⟩ := p.log.take_newest kind lane stream detail p.timeCounter
    exact (Part.attention_iff _).mpr ⟨e, he, by rw [hkind]; exact hk⟩
  · refine ⟨_, State.manage_of_free hport w _, rfl, rfl, rfl, rfl, fun hempty => ?_, fun e rest hhead => ?_⟩
    · simp only [hempty, List.head?_nil]; rfl
    · simp only [hhead, List.head?_cons]; rfl
  · exact ⟨_, State.manage_of_free hport w _, rfl, rfl, rfl, rfl, rfl, rfl⟩

end Sys2Proof.Machine
end

section
/-! The service state's changes, with the tally and the quiesce condition, and the service commands (O52). -/

namespace Sys2Proof.Machine

/-! ### The drop tally and the service state (R7, R15) -/

@[simp] theorem Part.flushTally_engine (p : Part) : p.flushTally.engine = p.engine := by
  unfold Part.flushTally; split <;> rfl
@[simp] theorem Part.flushTally_lanes (p : Part) : p.flushTally.lanes = p.lanes := by
  unfold Part.flushTally; split <;> rfl
@[simp] theorem Part.flushTally_params (p : Part) : p.flushTally.params = p.params := by
  unfold Part.flushTally; split <;> rfl
@[simp] theorem Part.flushTally_completions (p : Part) : p.flushTally.completions = p.completions := by
  unfold Part.flushTally; split <;> rfl
@[simp] theorem Part.flushTally_patrol (p : Part) : p.flushTally.patrol = p.patrol := by
  unfold Part.flushTally; split <;> rfl
@[simp] theorem Part.flushTally_now (p : Part) : p.flushTally.now = p.now := by
  unfold Part.flushTally; split <;> rfl
@[simp] theorem Part.flushTally_counters (p : Part) : p.flushTally.counters = p.counters := by
  unfold Part.flushTally; split <;> rfl
@[simp] theorem Part.flushTally_stream (p : Part) (n : StreamId) : p.flushTally.stream n = p.stream n := by
  simp [Part.stream]
theorem Part.flushTally_of_none {p : Part} (h : p.intake.tally = none) : p.flushTally = p := by
  simp [Part.flushTally, h]

/-- A service state that offers no credit, or a link that is down, leaves the credits as they are (R3). -/
theorem Intake.offer_of_not {i : Intake} (h : ¬(i.service.offersCredit = true ∧ i.linkUp = true)) : i.offer = i :=
  if_neg h

theorem Intake.offer_eq (i : Intake) : i.offer = { i with
    credits := if i.service.offersCredit = true ∧ i.linkUp = true then max i.credits (32 - i.queue.length)
      else i.credits } := by
  unfold Intake.offer
  split <;> rfl

/-- A change of the service state closes the tally and offers credit (R7, R15). -/
theorem Part.setService_of_ne {p : Part} {s : ServiceState} (h : p.intake.service ≠ s) :
    p.setService s = p.flushTally.modIntake (fun i => ({ i with service := s }).offer) := if_neg h

theorem Part.setService_intake {p : Part} {s : ServiceState} (h : p.intake.service ≠ s) :
    (p.setService s).intake = ({ p.intake with tally := none, service := s }).offer := by
  rw [Part.setService_of_ne h, Part.modIntake, Part.flushTally_intake]

theorem Part.setService_log {p : Part} {s : ServiceState} (h : p.intake.service ≠ s) :
    (p.setService s).log = p.flushTally.log := by rw [Part.setService_of_ne h]; rfl

@[simp] theorem Part.setService_engine (p : Part) (s : ServiceState) : (p.setService s).engine = p.engine := by
  unfold Part.setService; split <;> simp
@[simp] theorem Part.setService_lanes (p : Part) (s : ServiceState) : (p.setService s).lanes = p.lanes := by
  unfold Part.setService; split <;> simp
@[simp] theorem Part.setService_now (p : Part) (s : ServiceState) : (p.setService s).now = p.now := by
  unfold Part.setService; split <;> simp
@[simp] theorem Part.setService_params (p : Part) (s : ServiceState) : (p.setService s).params = p.params := by
  unfold Part.setService; split <;> simp
@[simp] theorem Part.setService_completions (p : Part) (s : ServiceState) :
    (p.setService s).completions = p.completions := by
  unfold Part.setService; split <;> simp
@[simp] theorem Part.setService_patrol (p : Part) (s : ServiceState) : (p.setService s).patrol = p.patrol := by
  unfold Part.setService; split <;> simp

/-! ### The quiesce condition (R143) -/

theorem Part.judgeQuiesce_of_service {p : Part} (h : p.intake.service ≠ .quiescing) : p.judgeQuiesce = p :=
  if_neg fun c => h c.1

theorem Part.judgeQuiesce_of_not {p : Part} (h : p.quiesceHolds = false) : p.judgeQuiesce = p :=
  if_neg fun c => Bool.false_ne_true (h.symm.trans c.2)

/-- The quiesce condition completes a quiesce, and the tally is logged before it (R7, R143). -/
theorem Part.judgeQuiesce_of_holds {p : Part} (hs : p.intake.service = .quiescing) (hq : p.quiesceHolds = true) :
    p.judgeQuiesce.intake = { p.intake with tally := none, service := .quiesced } ∧
    p.judgeQuiesce.engine = p.engine ∧ p.judgeQuiesce.lanes = p.lanes ∧
    p.judgeQuiesce.completions = p.completions ∧
    p.judgeQuiesce.log = p.flushTally.log.take .quiesced none none (wholeMs (p.now - p.intake.quiesceAt))
      p.timeCounter := by
  have hne : p.intake.service ≠ .quiesced := by rw [hs]; decide
  have hj : p.judgeQuiesce = (p.setService .quiesced).event .quiesced none none (wholeMs (p.now - p.intake.quiesceAt)) :=
    if_pos ⟨hs, hq⟩
  rw [hj]
  refine ⟨?_, by simp, by simp, by simp, ?_⟩
  · rw [Part.event_intake, Part.setService_intake hne, Intake.offer_of_not (by simp [ServiceState.offersCredit])]
  · rw [Part.event, Part.setService_log hne]
    simp [Part.timeCounter]

theorem Part.quiesceHolds_iff (p : Part) : p.quiesceHolds = true ↔
    p.intake.queue = [] ∧ ∀ n, (p.stream n).inflight = [] ∧ (p.stream n).hold = [] := by
  simp [Part.quiesceHolds, Part.engineEmpty, StreamRec.isEmpty, allStreams]

/-! ### O52: the service commands -/

/-- QSCE in RUNNING before the quiesce condition is judged (R143). -/
def Part.quiescing (p : Part) : Part :=
  (p.setService .quiescing).modIntake (fun i => { i with quiesceAt := p.now })

theorem Part.quiescing_intake {p : Part} (h : p.intake.service = .running) :
    p.quiescing.intake = { p.intake with tally := none, service := .quiescing, quiesceAt := p.now } := by
  rw [Part.quiescing, Part.modIntake, Part.setService_intake (by rw [h]; decide),
    Intake.offer_of_not (by simp [ServiceState.offersCredit])]

@[simp] theorem Part.quiescing_engine (p : Part) : p.quiescing.engine = p.engine := by simp [Part.quiescing]
@[simp] theorem Part.quiescing_now (p : Part) : p.quiescing.now = p.now := by simp [Part.quiescing]

theorem Part.quiescing_quiesceHolds {p : Part} (h : p.intake.service = .running) :
    p.quiescing.quiesceHolds = p.quiesceHolds := by
  unfold Part.quiesceHolds Part.engineEmpty Part.stream
  rw [Part.quiescing_intake h, Part.quiescing_engine]

theorem Part.quiescing_log {p : Part} (h : p.intake.service = .running) : p.quiescing.log = p.flushTally.log := by
  rw [Part.quiescing, Part.modIntake, Part.setService_log (by rw [h]; decide)]

theorem Part.startPass_patrol (p : Part) (c : PassCause) : (p.startPass c).patrol = ⟨0, c, false⟩ := rfl

theorem Part.startPass_engine (p : Part) (c : PassCause) : (p.startPass c).engine = p.engine := rfl
theorem Part.startPass_intake (p : Part) (c : PassCause) : (p.startPass c).intake = p.intake := rfl

/-- The reading of the items left touches the patrol's marks alone (R167). -/
theorem Part.readRest_eq (p : Part) : ∃ marks, p.readRest = p.modPatrol (fun t => { t with read := marks }) := ⟨_, rfl⟩

@[simp] theorem Part.readRest_pass (p : Part) : p.readRest.patrol.pass = p.patrol.pass := by
  obtain ⟨_, h⟩ := p.readRest_eq; rw [h]; rfl
@[simp] theorem Part.readRest_failed (p : Part) : p.readRest.patrol.failed = p.patrol.failed := by
  obtain ⟨_, h⟩ := p.readRest_eq; rw [h]; rfl
@[simp] theorem Part.readRest_intake (p : Part) : p.readRest.intake = p.intake := by
  obtain ⟨_, h⟩ := p.readRest_eq; rw [h]; rfl
@[simp] theorem Part.readRest_engine (p : Part) : p.readRest.engine = p.engine := by
  obtain ⟨_, h⟩ := p.readRest_eq; rw [h]; rfl

/-- The end of an LVRS pass that found no failure, and of any other (R172). -/
theorem Part.closePass_of_leave {p : Part}
    (h : p.patrol.pass = .leave ∧ p.patrol.failed = false ∧ p.intake.service = .restricted) :
    p.readRest.closePass = (p.readRest.startPass .routine).setService .running := by
  unfold Part.closePass
  rw [Part.readRest_pass, Part.readRest_failed, Part.readRest_intake, if_pos h]

theorem Part.closePass_of_not_leave {p : Part}
    (h : ¬(p.patrol.pass = .leave ∧ p.patrol.failed = false ∧ p.intake.service = .restricted)) :
    p.readRest.closePass = p.readRest.startPass .routine := by
  unfold Part.closePass
  rw [Part.readRest_pass, Part.readRest_failed, Part.readRest_intake, if_neg h]

/-- Settles O52, command by command. -/
theorem serviceCommands : Obligations.ServiceCommands := by
  refine fun p w hport => ⟨⟨_, State.manage_of_free hport w _, fun hs => ?_, fun hs => ?_, fun hs => ?_⟩,
    ⟨_, State.manage_of_free hport w _, fun hs => ?_, fun hs => ?_, fun hs => ?_⟩,
    ⟨_, State.manage_of_free hport w _, ?_, fun hs => ?_, fun hs => ?_⟩, fun hs => ?_, fun hs => ?_⟩
  · rcases hs with hs | hs <;> simp only [hs] <;> exact ⟨rfl, p.sameButResponse_reply _⟩
  · rcases hs with hs | hs <;> simp only [hs] <;> exact ⟨rfl, p.sameButResponse_reply _⟩
  · simp only [hs]
    have hservice : p.quiescing.intake.service = .quiescing := by rw [Part.quiescing_intake hs]
    have hquiesce : p.quiesce = p.quiescing.judgeQuiesce := rfl
    rw [hquiesce]
    cases hq : p.quiesceHolds with
    | false =>
      rw [Part.judgeQuiesce_of_not ((Part.quiescing_quiesceHolds hs).trans hq)]
      refine ⟨rfl, ?_, ?_, p.quiescing_engine, fun _ => ?_, fun h => absurd h (by simp)⟩
      all_goals simp [Part.reply, Part.quiescing_intake hs]
    | true =>
      obtain ⟨hintake, hengine, -, -, hlog⟩ :=
        Part.judgeQuiesce_of_holds hservice ((Part.quiescing_quiesceHolds hs).trans hq)
      refine ⟨rfl, ?_, ?_, hengine.trans p.quiescing_engine, fun h => absurd h (by simp), fun _ => ⟨?_, fun ht => ?_⟩⟩
      · simp [Part.reply, hintake, Part.quiescing_intake hs]
      · simp [Part.reply, hintake, Part.quiescing_intake hs]
      · simp [Part.reply, hintake]
      · rw [Part.reply, Part.respond_log, hlog, Part.flushTally_of_none (by rw [Part.quiescing_intake hs]),
          Part.quiescing_log hs, Part.flushTally_of_none ht, Part.quiescing_intake hs]
        simp [wholeMs, sat16, Part.timeCounter]
  · rcases hs with hs | hs <;> simp only [hs] <;> exact ⟨rfl, p.sameButResponse_reply _⟩
  · simp only [hs]; exact ⟨rfl, p.sameButResponse_reply _⟩
  · have hne : p.intake.service ≠ .running := by rcases hs with hs | hs <;> rw [hs] <;> decide
    rcases hs with hs | hs <;> simp only [hs] <;>
      exact ⟨rfl, by simp [Part.reply, Part.setService_intake hne, Intake.offer_eq],
        by simp [Part.reply, Part.setService_intake hne, Intake.offer_eq], by simp [Part.reply],
        by simp [Part.reply, Part.setService_intake hne, Intake.offer_eq, ServiceState.offersCredit]⟩
  · split <;> rfl
  · rw [if_pos hs]; exact ⟨rfl, rfl, rfl⟩
  · rw [if_neg hs]; exact ⟨rfl, p.sameButResponse_reply _⟩
  · exact congrArg (fun q => Host.Outcome.next (State.mk q w)) (if_pos hs : p.endPass = p)
  · refine ⟨_, rfl, ?_⟩
    have hend : p.endPass = p.readRest.closePass := if_neg hs
    show p.endPass.patrol = _ ∧ p.endPass.engine = _ ∧ p.endPass.intake.service = _
    rw [hend]
    by_cases hleave : p.patrol.pass = .leave ∧ p.patrol.failed = false ∧ p.intake.service = .restricted
    · have hne : (p.readRest.startPass .routine).intake.service ≠ .running := by
        rw [Part.startPass_intake, Part.readRest_intake, hleave.2.2]; decide
      rw [Part.closePass_of_leave hleave, if_pos hleave, Part.setService_patrol, Part.setService_engine,
        Part.setService_intake hne, Intake.offer_eq]
      exact ⟨Part.startPass_patrol _ _, (Part.startPass_engine _ _).trans p.readRest_engine, rfl⟩
    · rw [Part.closePass_of_not_leave hleave, if_neg hleave]
      exact ⟨Part.startPass_patrol _ _, (Part.startPass_engine _ _).trans p.readRest_engine,
        congrArg Intake.service ((Part.startPass_intake _ _).trans p.readRest_intake)⟩

end Sys2Proof.Machine
end

section
/-! Departures under a pause (O14), the reclaim pattern (O16) and the frames that are filtered (O17). -/

namespace Sys2Proof.Machine

/-! ### O14: pauses and departures -/

theorem Frame.isTransaction_iff (f : Frame) : f.isTransaction = true ↔ f.kind = .request ∨ f.kind = .ask := by
  simp [Frame.isTransaction]

/-- While no pause runs the oldest frame leaves. -/
@[simp] theorem takeFirst_unpaused (f : Frame) (rest : List Frame) : takeFirst false (f :: rest) = some (f, rest) := rfl

theorem takeFirst_held {f : Frame} (h : f.isTransaction = true) (rest : List Frame) :
    takeFirst true (f :: rest) = (takeFirst true rest).map (fun x => (x.1, f :: x.2)) := by
  rw [takeFirst, h, Bool.and_self, if_pos rfl]
  cases takeFirst true rest <;> rfl

theorem takeFirst_free {f : Frame} (h : f.isTransaction = false) (rest : List Frame) :
    takeFirst true (f :: rest) = some (f, rest) := by
  rw [takeFirst, h, Bool.and_false, if_neg Bool.false_ne_true]

/-- The frames passed over keep their order (R69). -/
theorem takeFirst_append {a : List Frame} (ha : ∀ f ∈ a, f.isTransaction = true) {g : Frame} (hg : g.isTransaction = false)
    (b : List Frame) : takeFirst true (a ++ g :: b) = some (g, a ++ b) := by
  induction a with
  | nil => exact takeFirst_free hg b
  | cons f a ih =>
    rw [List.cons_append, takeFirst_held (ha f (by simp)), ih fun x hx => ha x (by simp [hx])]
    rfl

theorem takeFirst_eq_none_iff (queue : List Frame) :
    takeFirst true queue = none ↔ ∀ f ∈ queue, f.isTransaction = true := by
  induction queue with
  | nil => simp [takeFirst]
  | cons f rest ih =>
    cases hf : f.isTransaction with
    | false => simp [takeFirst_free hf, hf]
    | true => simp [takeFirst_held hf, hf, ih]

theorem exists_of_takeFirst {queue : List Frame} {g : Frame} {left : List Frame} (h : takeFirst true queue = some (g, left)) :
    ∃ a b, queue = a ++ g :: b ∧ left = a ++ b ∧ g.isTransaction = false ∧ ∀ f ∈ a, f.isTransaction = true := by
  induction queue generalizing left with
  | nil => simp [takeFirst] at h
  | cons f rest ih =>
    cases hf : f.isTransaction with
    | false =>
      rw [takeFirst_free hf] at h
      cases h
      exact ⟨[], rest, rfl, rfl, hf, by simp⟩
    | true =>
      rw [takeFirst_held hf, Option.map_eq_some_iff] at h
      obtain ⟨⟨g', left'⟩, hrest, hx⟩ := h
      cases hx
      obtain ⟨a, b, hq, hl, hg, ha⟩ := ih hrest
      exact ⟨f :: a, b, by rw [hq]; rfl, by rw [hl]; rfl, hg, by simpa [hf] using ha⟩

/-! What a frame's way out of a lane does (R70, R156). -/

@[simp] theorem Part.emit_engine (p : Part) (l : Lane) (f : Frame) (queue : List Frame) :
    (p.emit l f queue).engine = p.engine := by simp [Part.emit]
@[simp] theorem Part.emit_completions (p : Part) (l : Lane) (f : Frame) (queue : List Frame) :
    (p.emit l f queue).completions = p.completions := by simp [Part.emit]
@[simp] theorem Part.emit_intake (p : Part) (l : Lane) (f : Frame) (queue : List Frame) :
    (p.emit l f queue).intake = p.intake := by simp [Part.emit]
@[simp] theorem Part.emit_now (p : Part) (l : Lane) (f : Frame) (queue : List Frame) :
    (p.emit l f queue).now = p.now := by simp [Part.emit]
@[simp] theorem Part.emit_params (p : Part) (l : Lane) (f : Frame) (queue : List Frame) :
    (p.emit l f queue).params = p.params := by simp [Part.emit]
@[simp] theorem Part.emit_stream (p : Part) (l : Lane) (f : Frame) (queue : List Frame) (n : StreamId) :
    (p.emit l f queue).stream n = p.stream n := by simp [Part.emit]
@[simp] theorem Part.emit_log (p : Part) (l : Lane) (f : Frame) (queue : List Frame) :
    (p.emit l f queue).log = (p.raise (.lane l .framesSent)).log := by
  rw [Part.emit, Part.raise_modLane, Part.modLane_log]
theorem Part.emit_counter_self (p : Part) (l : Lane) (f : Frame) (queue : List Frame) :
    (p.emit l f queue).counter (.lane l .framesSent) = p.counter (.lane l .framesSent) + 1 :=
  Part.raise_counter_self _ _
theorem Part.emit_lane_of_ne (p : Part) {l m : Lane} (h : m ≠ l) (f : Frame) (queue : List Frame) :
    (p.emit l f queue).lane m = p.lane m := by simp [Part.emit, Part.modLane_lane_of_ne, h]

/-- A frame leaves onto the cable of a lane that is not looped back. -/
theorem Part.emit_lane_self {p : Part} {l : Lane} (h : (p.lane l).loopback = false) (f : Frame) (queue : List Frame) :
    (p.emit l f queue).lane l = { p.lane l with
      queue := queue, cable := (p.lane l).cable ++ [f],
      timers := { (p.lane l).timers with
        beat := if (p.lane l).state.isUp then some (p.now + p.params.beatUs) else (p.lane l).timers.beat } } := by
  rw [Part.emit, Part.raise_lane, Part.modLane_lane_self]
  simp only [h, Bool.false_eq_true, if_false]

/-- What a departing TEST frame changes of its lane besides (R76, R164). -/
def LaneRec.testSent (r : LaneRec) (now : Micros) (f : Frame) : LaneRec :=
  match r.checker with
  | none => r
  | some b =>
    if b.ownsTest f then
      { r with checker := some { b with sent := b.sent + 1 },
               timers := { r.timers with
                 qualify := if b.sent + 1 = b.length then some (now + 20000) else r.timers.qualify } }
    else r

theorem Part.departTest_eq (p : Part) (l : Lane) (f : Frame) (queue : List Frame) :
    p.departTest l f queue = (p.emit l f queue).modLane l (fun r => r.testSent p.now f) := rfl

@[simp] theorem LaneRec.testSent_state (r : LaneRec) (now : Micros) (f : Frame) : (r.testSent now f).state = r.state := by
  unfold LaneRec.testSent; split; · rfl
  split <;> rfl
@[simp] theorem LaneRec.testSent_queue (r : LaneRec) (now : Micros) (f : Frame) : (r.testSent now f).queue = r.queue := by
  unfold LaneRec.testSent; split; · rfl
  split <;> rfl
@[simp] theorem LaneRec.testSent_cable (r : LaneRec) (now : Micros) (f : Frame) : (r.testSent now f).cable = r.cable := by
  unfold LaneRec.testSent; split; · rfl
  split <;> rfl
@[simp] theorem LaneRec.testSent_pause (r : LaneRec) (now : Micros) (f : Frame) :
    (r.testSent now f).timers.pause = r.timers.pause := by
  unfold LaneRec.testSent; split; · rfl
  split <;> rfl

/-- A frame that is no transaction leaves a lane, and is a TEST frame or not. -/
theorem Part.depart_free {p : Part} {l : Lane} {f : Frame} {queue : List Frame} (hd : (p.lane l).departing = some (f, queue))
    (hf : f.isTransaction = false) (reads : List BlockCheck) :
    p.depart l reads = p.emit l f queue ∨ p.depart l reads = p.departTest l f queue := by
  have hreq : f.kind ≠ .request := fun h => by simp [Frame.isTransaction, h] at hf
  have hask : f.kind ≠ .ask := fun h => by simp [Frame.isTransaction, h] at hf
  unfold Part.depart
  rw [hd]
  dsimp only
  split
  · exact absurd ‹_› hreq
  · exact absurd ‹_› hask
  · exact .inr rfl
  · exact .inl rfl

@[simp] theorem Part.reached_lanes_of_not_up {p : Part} {l : Lane} (h : (p.lane l).state.isUp = false) :
    (p.reached l).lanes = p.lanes := by
  have hself : p.lanes.set l { p.lanes.get l with timers := (p.lanes.get l).timers } = p.lanes := by cases l <;> rfl
  have hup : (p.lanes.get l).state.isUp = false := h
  simp only [Part.reached, Part.heard, Part.modLane, Part.raise_lanes, hup, Bool.false_eq_true, if_false]
  exact hself

theorem LaneState.isUp_iff (s : LaneState) : s.isUp = true ↔ s ∈ [LaneState.qualify, .active, .degraded, .held] := by
  cases s <;> decide

/-- A PAUSE in a state that takes it (R69). -/
theorem Part.arrive_pause {p : Part} {l : Lane} (h : (p.lane l).state ≠ .off) (hd : Header) :
    p.arrive l ⟨.pause, hd, []⟩ false = (p.reached l).takePause l hd.pause := Part.arrive_good h _

/-- Settles O14. -/
theorem pauseHoldsTransactions : Obligations.PauseHoldsTransactions := by
  refine ⟨fun p w l h => ⟨p.arrive l ⟨.pause, h, []⟩ false, rfl, fun hs => ?_, fun hs => ?_⟩, fun queue => ⟨?_, fun g left hq => ?_⟩,
    fun p w l reads hpause hall => ?_, fun p w l reads a b g hpause hoff hloop hqueue ha hg => ?_⟩
  · have hup := (LaneState.isUp_iff _).mpr hs
    have hoff : (p.lane l).state ≠ .off := fun h => by rw [h] at hup; exact Bool.false_ne_true hup
    rw [Part.arrive_pause hoff, Part.takePause, Part.reached_lane_state, if_pos hup]
    refine ⟨?_, ?_, ?_, by simp, fun m hm => ?_, ?_⟩
    · simp
    · simp
    · simp [Part.reached_lane_self]
    · simp [Part.modLane_lane_of_ne, hm, Part.reached_lane_of_ne]
    · rw [Part.raise_counter_self, Part.modLane_counter, p.reached_counter_of_ne l (by simp)]
  · have hup : (p.lane l).state.isUp = false := by
      rcases (by simpa using hs : (p.lane l).state = .quiet ∨ (p.lane l).state = .training ∨ (p.lane l).state = .down) with
        h | h | h <;> rw [h] <;> rfl
    have hoff : (p.lane l).state ≠ .off := fun h => by rw [h] at hs; simp at hs
    rw [Part.arrive_pause hoff, Part.takePause, Part.reached_lane_state, hup, if_neg Bool.false_ne_true]
    exact ⟨Part.reached_lanes_of_not_up hup, by simp⟩
  · simp only [takeFirst_eq_none_iff, Frame.isTransaction_iff]
  · obtain ⟨a, b, hq, hl, hg, ha⟩ := exists_of_takeFirst hq
    exact ⟨a, b, hq, hl, by rw [← Frame.isTransaction_iff, hg]; exact Bool.false_ne_true,
      fun f hf => (Frame.isTransaction_iff f).mp (ha f hf)⟩
  · have hnone : (p.lane l).departing = none := by
      unfold LaneRec.departing
      rw [Option.isSome_iff_ne_none.mpr hpause, (takeFirst_eq_none_iff _).mpr fun f hf => (Frame.isTransaction_iff f).mpr (hall f hf),
        ite_self]
    have hdepart : p.depart l reads = p := by rw [Part.depart, hnone]
    exact congrArg (fun q => Host.Outcome.next (State.mk q w)) hdepart
  · have hfree : g.isTransaction = false := Bool.eq_false_iff.mpr fun h => hg ((Frame.isTransaction_iff g).mp h)
    have hdeparting : (p.lane l).departing = some (g, a ++ b) := by
      unfold LaneRec.departing LaneRec.canSend
      rw [Option.isSome_iff_ne_none.mpr hpause, hqueue, if_pos (by simp [hoff])]
      exact takeFirst_append (fun f hf => (Frame.isTransaction_iff f).mpr (ha f hf)) hfree b
    refine ⟨p.depart l reads, rfl, ?_⟩
    rcases Part.depart_free hdeparting hfree reads with h | h <;> rw [h]
    · simpa [Part.emit_lane_self hloop, Part.emit_counter_self] using fun m hm => p.emit_lane_of_ne hm _ _
    · have hother : ∀ m, m ≠ l → (p.departTest l g (a ++ b)).lane m = p.lane m := fun m hm => by
        rw [Part.departTest_eq, Part.modLane_lane_of_ne _ hm, p.emit_lane_of_ne hm]
      simpa [Part.departTest_eq, Part.emit_lane_self hloop, Part.emit_counter_self] using hother

end Sys2Proof.Machine
end

section
/-! What an entry to BINDING does to the queues, the log and the reports, and the record of a lane that changes its
state: the layer below the statements about frames, timers and commands. -/

namespace Sys2Proof.Machine

/-! ### The queues, the log and the reports of an entry to BINDING (R114, R125) -/

/-- The ASK of a stream that is about to enter BINDING: its epoch is the new one (R47, R114). -/
def Part.nextAsk (p : Part) (n : StreamId) : Frame :=
  { kind := .ask
    header := { Header.zero with
      source := p.params.sourceNode, epoch := (p.stream n).epoch + 1, destination := (p.stream n).node,
      stream := n, seq := (p.stream n).nextSeq, mark := (p.stream n).oldest }
    payload := [] }

theorem StreamRec.opened_oldest (r : StreamRec) (now : Micros) (k : BindingKind) : (r.opened now k).oldest = r.oldest := by
  unfold StreamRec.oldest StreamRec.opened
  cases r.inflight <;> rfl

@[simp] theorem Part.raise_askFrame (p : Part) (c : CounterId) (n : StreamId) :
    (p.raise c).askFrame n = p.askFrame n := by simp [Part.askFrame]

@[simp] theorem Part.openBinding_params (p : Part) (n : StreamId) (k : BindingKind) :
    (p.openBinding n k).params = p.params := (p.streamsOnly_openBinding n k).params

@[simp] theorem Part.place_lane_queue_self (p : Part) (l : Lane) (f : Frame) :
    ((p.place l f).lane l).queue = (p.lane l).queue ++ [f] := by simp [Part.place]

theorem Part.openBinding_queue (p : Part) (n : StreamId) (k : BindingKind) (m : Lane) :
    ((p.openBinding n k).lane m).queue = (p.lane m).queue.filter (fun f => !f.isOf n) := by
  rw [Part.openBinding, Part.raise_lane, Part.dropFrames_lane]
  rfl

theorem Part.landOn_queue (p : Part) (n : StreamId) (l m : Lane) : ((p.landOn n l).lane m).queue =
    if m = l then (p.lane m).queue ++ [p.askFrame n] else (p.lane m).queue := by
  unfold Part.landOn
  by_cases hm : m = l
  · subst hm
    rw [if_pos rfl, Part.place_lane_queue_self]
    simp [Part.askFrame, StreamRec.oldest, Part.lane]
  · rw [if_neg hm, Part.place_lane_of_ne _ hm]; rfl

theorem Part.stall_lanes (p : Part) (n : StreamId) : (p.stall n).lanes = p.lanes := by
  unfold Part.stall Part.startStall
  split <;> unfold Part.abandonAtStall <;> split <;> simp

/-- An entry to BINDING takes the stream's frames out of every queue, and puts its ASK on the lane chosen (R114). -/
theorem Part.bind_queue (p : Part) (n : StreamId) (k : BindingKind) (m : Lane) : ((p.bind n k).lane m).queue =
    (p.lane m).queue.filter (fun f => !f.isOf n) ++ if p.chooseFor n k = some m then [p.nextAsk n] else [] := by
  have hask : (p.openBinding n k).askFrame n = p.nextAsk n := by
    have hstream : (p.openBinding n k).stream n = (p.stream n).opened p.now k := by
      rw [p.openBinding_stream, if_pos rfl]
    unfold Part.askFrame Part.nextAsk
    rw [hstream, Part.openBinding_params, StreamRec.opened_oldest]
    rfl
  unfold Part.bind Part.settleChoice
  rw [p.chooseFor_openBinding]
  cases p.chooseFor n k with
  | none =>
    rw [if_neg (by simp), List.append_nil, ← p.openBinding_queue n k m, Part.lane, Part.stall_lanes]
    rfl
  | some l =>
    rw [Part.landOn_queue, p.openBinding_queue, hask]
    by_cases hm : m = l
    · rw [if_pos hm, if_pos (by rw [hm])]
    · rw [if_neg hm, if_neg (fun h => hm (Option.some.inj h).symm), List.append_nil]

/-- The log of a stream's entry to STALLED: the move that ends, and STREAM_STALLED unless a stall deadline runs (R125,
R138, R140). -/
def Part.stallLog (p : Part) (n : StreamId) : EventLog :=
  let log := match (p.stream n).move with
    | none => p.log
    | some m => p.log.take .moveAbandoned none (some n) (bytePair (laneByteOf m.target) 255) p.timeCounter
  if (p.stream n).stallDeadline = none then
    log.take .streamStalled none (some n) (sat16 (p.stream n).inflight.length) p.timeCounter
  else log

theorem Part.abandonAtStall_log (p : Part) (n : StreamId) : (p.abandonAtStall n).log =
    match (p.stream n).move with
    | none => p.log
    | some m => p.log.take .moveAbandoned none (some n) (bytePair (laneByteOf m.target) 255) p.timeCounter := by
  unfold Part.abandonAtStall
  cases (p.stream n).move <;> rfl

theorem Part.stall_log (p : Part) (n : StreamId) : (p.stall n).log = p.stallLog n := by
  have hnow := (p.streamsOnly_abandonAtStall n).now
  have hstream : ((p.abandonAtStall n).modStream n StreamRec.stalled).stream n =
      ({ p.stream n with move := none } : StreamRec).stalled := by
    rw [Part.modStream_stream, if_pos rfl, Part.abandonAtStall_stream, if_pos rfl]
  unfold Part.stall Part.startStall Part.stallLog
  rw [hstream]
  show (match (p.stream n).stallDeadline with | some _ => _ | none => _ : Part).log = _
  cases hd : (p.stream n).stallDeadline with
  | some t => rw [if_neg (by simp)]; exact p.abandonAtStall_log n
  | none =>
    rw [if_pos rfl]
    simp only [Part.event, Part.modStream_log, p.abandonAtStall_log n]
    unfold Part.timeCounter
    simp only [Part.modStream_now, hnow]
    rfl

theorem Part.openBinding_log {p : Part} (h : p.unwatched) (n : StreamId) (k : BindingKind) :
    (p.openBinding n k).log = p.log := Part.unwatched_raise (p := (p.modStream n (fun r => r.opened p.now k)).dropFrames n) h _

/-- The log of an entry to BINDING of an unwatched part (R114, R125). -/
theorem Part.bind_log {p : Part} (h : p.unwatched) (n : StreamId) (k : BindingKind) : (p.bind n k).log =
    if p.chooseFor n k = none then p.stallLog n else p.log := by
  have htime : (p.openBinding n k).timeCounter = p.timeCounter := by
    simp [Part.timeCounter, (p.streamsOnly_openBinding n k).now]
  unfold Part.bind Part.settleChoice
  rw [p.chooseFor_openBinding]
  cases p.chooseFor n k with
  | some l => rw [if_neg (by simp)]; exact Part.openBinding_log h n k
  | none =>
    rw [if_pos rfl, Part.stall_log]
    unfold Part.stallLog
    rw [Part.openBinding_log h, htime, p.openBinding_stream, if_pos rfl]
    unfold StreamRec.opened
    cases (p.stream n).move <;> simp

@[simp] theorem Part.landOn_reports (p : Part) (n : StreamId) (l : Lane) : (p.landOn n l).reports = p.reports := by
  simp [Part.landOn, Part.place]
@[simp] theorem Part.stall_reports (p : Part) (n : StreamId) : (p.stall n).reports = p.reports := by
  unfold Part.stall Part.startStall
  split <;> unfold Part.abandonAtStall <;> split <;> simp
@[simp] theorem Part.openBinding_reports (p : Part) (n : StreamId) (k : BindingKind) :
    (p.openBinding n k).reports = p.reports := by simp [Part.openBinding, Part.dropFrames, Part.unqueue]
@[simp] theorem Part.bind_reports (p : Part) (n : StreamId) (k : BindingKind) : (p.bind n k).reports = p.reports := by
  unfold Part.bind Part.settleChoice
  split <;> simp

@[simp] theorem Part.migrated_reports (p : Part) (n : StreamId) (left : Lane) : (p.migrated n left).reports = p.reports := by
  unfold Part.migrated
  split
  · split <;> rfl
  · rfl

/-! ### Lanes that stay out of the streams' reach -/

/-- A lane out of service whose queue holds no REQUEST and no ASK: nothing that the streams do reaches it (R109,
R114). -/
def LaneRec.apart (r : LaneRec) : Prop := r.state.inService = false ∧ ∀ f ∈ r.queue, f.isTransaction = false

theorem filter_isOf_of_free {queue : List Frame} (h : ∀ f ∈ queue, f.isTransaction = false) (n : StreamId) :
    queue.filter (fun f => !f.isOf n) = queue :=
  List.filter_eq_self.mpr fun f hf => by simp [Frame.isOf, h f hf]

theorem Part.StreamsOnly.lane_eq {p q : Part} (h : p.StreamsOnly q) {l : Lane} (hq : (q.lane l).queue = (p.lane l).queue) :
    q.lane l = p.lane l := by rw [h.lane l, hq]

theorem Part.bind_lane_of_apart {p : Part} {l : Lane} (h : (p.lane l).apart) (n : StreamId) (k : BindingKind) :
    (p.bind n k).lane l = p.lane l := by
  refine (p.streamsOnly_bind n k).lane_eq ?_
  rw [Part.bind_queue, filter_isOf_of_free h.2, if_neg, List.append_nil]
  intro hc
  exact Bool.false_ne_true (h.1.symm.trans (Part.choose_inService hc))

theorem Part.foldl_lane_of_apart {α : Type} {f : Part → α → Part} {l : Lane}
    (hf : ∀ (q : Part) (x : α), (q.lane l).apart → (f q x).lane l = q.lane l) (xs : List α) {p : Part}
    (h : (p.lane l).apart) : (xs.foldl f p).lane l = p.lane l := by
  induction xs generalizing p with
  | nil => rfl
  | cons x xs ih =>
    have hx := hf p x h
    rw [List.foldl_cons, ih (by rw [hx]; exact h), hx]

theorem Part.failoverAll_lane_of_apart {p : Part} {l : Lane} (h : (p.lane l).apart) (m : Lane) :
    (p.failoverAll m).lane l = p.lane l := by
  refine Part.foldl_lane_of_apart (fun q n hq => ?_) allStreams h
  split
  · rw [Part.failover]
    rw [show ∀ x : Part, (x.migrated n m).lane l = x.lane l from fun x => by rw [Part.lane, Part.migrated_lanes]; rfl]
    exact Part.bind_lane_of_apart (p := q.modStream n (fun r => r.lostCarrier m)) hq n _
  · rfl

theorem Part.releaseStalled_lane_of_apart {p : Part} {l : Lane} (h : (p.lane l).apart) :
    p.releaseStalled.lane l = p.lane l := by
  refine Part.foldl_lane_of_apart (fun q n hq => ?_) allStreams h
  split
  · exact Part.bind_lane_of_apart (p := q.modStream n (fun r => { r with tried := .empty })) hq n _
  · rfl

theorem Part.streamsTake_lane_of_apart {p : Part} {l : Lane} (h : (p.lane l).apart) (m : Lane) (old new : LaneState) :
    (p.streamsTake m old new).lane l = p.lane l := by
  have hfail : (if old.inService = true ∧ new.inService = false then p.failoverAll m else p).lane l = p.lane l := by
    split
    · exact Part.failoverAll_lane_of_apart h m
    · rfl
  unfold Part.streamsTake
  dsimp only
  rw [(Part.retimed_judgeReturns _ m).lane]
  split
  · rw [Part.releaseStalled_lane_of_apart (by rw [hfail]; exact h), hfail]
  · exact hfail

/-- The streams take nothing of a change between two states out of service but their return timers. -/
theorem Part.streamsTake_retimed (p : Part) (l : Lane) {old new : LaneState} (hold : old.inService = false)
    (hnew : new ≠ .active) : p.Retimed (p.streamsTake l old new) := by
  unfold Part.streamsTake
  dsimp only
  simp only [hold, Bool.false_eq_true, false_and, if_false]
  rw [if_neg fun h => hnew h.1]
  exact p.retimed_judgeReturns l

/-! ### The record of a lane that changes its state (R66) -/

/-- A lane that leaves the streams' reach has the record that its entry gives it. -/
theorem Part.changeLane_lane_of_apart (p : Part) (l : Lane) (new : LaneState) (enter : LaneRec → LaneRec)
    {log : Part → Part} (hlog : ∀ q : Part, (log q).lanes = q.lanes) (h : (enter ((p.lane l).moved new)).apart) :
    (p.changeLane l new enter log).lane l = enter ((p.lane l).moved new) := by
  have hmove := p.moveLane_lane_self l new enter hlog
  rw [Part.changeLane, Part.streamsTake_lane_of_apart (by rw [hmove]; exact h), hmove]

/-- An entry to QUIET, DOWN or OFF stops every timer and empties the queue (R66). -/
theorem LaneRec.moved_of_out (r : LaneRec) {new : LaneState} (h : new = .quiet ∨ new = .down ∨ new = .off) :
    r.moved new = { r with state := new, queue := [], timers := Timers.stopped, checker := none,
                           restartPending := if r.state.inService then false else r.restartPending } := by
  unfold LaneRec.moved
  rcases h with rfl | rfl | rfl <;> (cases hs : r.state.inService <;> simp [LaneState.inService])

/-- A move between states out of service that is no entry to QUIET, DOWN or OFF changes the state alone (R66). -/
theorem LaneRec.moved_of_up (r : LaneRec) {new : LaneState} (hs : r.state.inService = false)
    (h : new ≠ .quiet ∧ new ≠ .down ∧ new ≠ .off) : r.moved new = { r with state := new } := by
  unfold LaneRec.moved
  rw [hs]
  cases new <;> simp at h ⊢

/-- A move within service changes the state alone (R66). -/
theorem LaneRec.moved_of_service (r : LaneRec) {new : LaneState} (h : new.inService = true) :
    r.moved new = { r with state := new } := by
  unfold LaneRec.moved
  rw [h]
  cases new <;> simp [LaneState.inService] at h ⊢

/-- The record of a lane at its entry to QUIET (R66, R71, R83). -/
theorem Part.enterQuiet_lane_self (p : Part) (l : Lane) {log : Part → Part} (hlog : ∀ q : Part, (log q).lanes = q.lanes) :
    (p.enterQuiet l log).lane l = { p.lane l with
      state := .quiet, offReason := none, partnerLeaving := false, restartPending := false,
      requalify := if (p.lane l).state = .off then 0 else (p.lane l).requalify,
      loopback := if (p.lane l).state = .off then false else (p.lane l).loopback,
      loopPath := if (p.lane l).state = .off then [] else (p.lane l).loopPath,
      queue := [p.probeFrame], timers := { Timers.stopped with probe := some (p.now + 100000) }, checker := none } := by
  have hmoved := (p.lane l).moved_of_out (new := .quiet) (.inl rfl)
  rw [Part.enterQuiet, Part.changeLane_lane_of_apart _ _ _ _ hlog]
  · rw [hmoved]
    cases hs : ((p.lane l).state == .off) with
    | true => simp [beq_iff_eq.mp hs]
    | false => simp [beq_eq_false_iff_ne.mp hs]
  · refine ⟨?_, fun f hf => ?_⟩
    · rw [hmoved]; rfl
    · rw [List.mem_singleton.mp hf]; rfl

/-- The record of a lane at its entry to OFF (R66, R83). -/
theorem Part.enterOff_lane_self (p : Part) (l : Lane) (reason : OffReason) {log : Part → Part}
    (hlog : ∀ q : Part, (log q).lanes = q.lanes) :
    (p.enterOff l reason log).lane l = { p.lane l with
      state := .off, offReason := some reason, partnerLeaving := false, restartPending := false,
      queue := [], timers := Timers.stopped, checker := none } := by
  have hmoved := (p.lane l).moved_of_out (new := .off) (.inr (.inr rfl))
  rw [Part.enterOff, Part.changeLane_lane_of_apart _ _ _ _ hlog]
  · rw [hmoved]
  · rw [hmoved]; exact ⟨rfl, fun f hf => by cases hf⟩

theorem Part.downLane_log_lanes (l : Lane) (cause : DownCause) (low : Nat) (q : Part) :
    (laneEvent .laneDown l (bytePair cause.code low) (q.raise (.lane l .downEntries))).lanes = q.lanes := by
  simp [laneEvent]

/-- The record of a lane at its entry to DOWN (R66, R82). -/
theorem Part.downLane_lane_self (p : Part) (l : Lane) (cause : DownCause) (low : Nat) :
    (p.downLane l cause low).lane l = { p.lane l with
      state := .down, queue := [], checker := none,
      timers := { Timers.stopped with holdDown := some (p.now + p.params.holdDown * 10000) },
      restartPending := if (p.lane l).state.inService then false else (p.lane l).restartPending } := by
  rw [Part.downLane, Part.moveLane_lane_self _ _ _ _ (Part.downLane_log_lanes l cause low),
    (p.lane l).moved_of_out (.inr (.inl rfl))]

theorem Part.enterDown_lane_self (p : Part) (l : Lane) (cause : DownCause) (low : Nat) :
    (p.enterDown l cause low).lane l = { p.lane l with
      state := .down, queue := [], checker := none,
      timers := { Timers.stopped with holdDown := some (p.now + p.params.holdDown * 10000) },
      restartPending := if (p.lane l).state.inService then false else (p.lane l).restartPending } := by
  rw [← p.downLane_lane_self l cause low, Part.enterDown, Part.streamsTake_lane_of_apart]
  rw [p.downLane_lane_self]
  exact ⟨rfl, fun f hf => by cases hf⟩

theorem Part.downLane_lane_of_ne (p : Part) {l m : Lane} (h : m ≠ l) (cause : DownCause) (low : Nat) :
    (p.downLane l cause low).lane m = p.lane m :=
  p.moveLane_lane_of_ne h _ _ (Part.downLane_log_lanes l cause low)

theorem Part.enterDown_lane_of_ne (p : Part) {l m : Lane} (h : m ≠ l) (cause : DownCause) (low : Nat) :
    (p.enterDown l cause low).lane m = { p.lane m with queue := ((p.enterDown l cause low).lane m).queue } := by
  rw [← p.downLane_lane_of_ne h cause low]
  exact (Part.streamsOnly_streamsTake _ l _ .down).lane m

end Sys2Proof.Machine
end

section
/-! The reclaim pattern (O16) and the frames that are filtered (O17). -/

namespace Sys2Proof.Machine

/-! ### O16: the reclaim pattern -/

/-- A payload holds a run of bytes exactly when the run stands somewhere in it (R64). -/
theorem holdsRun_iff (run payload : List Byte) : holdsRun run payload = true ↔ ∃ a b, payload = a ++ run ++ b := by
  unfold holdsRun
  simp only [List.any_eq_true, List.mem_range, beq_iff_eq]
  constructor
  · rintro ⟨i, -, h⟩
    have hrun := List.take_append_drop run.length (payload.drop i)
    rw [h] at hrun
    exact ⟨payload.take i, (payload.drop i).drop run.length, by
      rw [List.append_assoc, hrun, List.take_append_drop]⟩
  · rintro ⟨a, b, rfl⟩
    exact ⟨a.length, by simp, by simp [List.append_assoc]⟩

@[simp] theorem reclaimPattern_length (identity : BitVec 32) : (reclaimPattern identity).length = 40 := by
  simp [reclaimPattern]

/-- A good frame on a lane in OFF that is not looped back is searched for the reclaim pattern (R64). -/
theorem Part.arrive_off {p : Part} {l : Lane} (hoff : (p.lane l).state = .off) (hloop : (p.lane l).loopback = false)
    (f : Frame) : p.arrive l f false = (p.reached l).inOff l f := by
  have hlooped : (p.lane l).looped = false := by simp [LaneRec.looped, hloop]
  have hlooped' : ((p.reached l).lane l).looped = false := by
    simp [LaneRec.looped, p.reached_lane_self, hloop]
  rw [Part.arrive_of_not_looped hlooped]
  show (if ((p.reached l).lane l).looped then _ else if ((p.reached l).lane l).state = .off then _ else _) = _
  rw [hlooped', if_neg Bool.false_ne_true, if_pos (by rw [p.reached_lane_state]; exact hoff)]
  rfl

/-- Settles O16. -/
theorem reclaimPatternActs : Obligations.ReclaimPatternActs := by
  intro p w l f hoff hloop
  have hlanes : (p.reached l).lanes = p.lanes := Part.reached_lanes_of_not_up (by rw [hoff]; rfl)
  have hlane : (p.reached l).lane l = p.lane l := by rw [Part.lane, hlanes]; rfl
  refine ⟨fun ⟨a, b, hpayload⟩ hid hpin hreason => ⟨_, congrArg (fun q => Host.Outcome.next (State.mk q w)) (Part.arrive_off hoff hloop f), ?_⟩,
    fun hnot => ⟨_, congrArg (fun q => Host.Outcome.next (State.mk q w)) (Part.arrive_off hoff hloop f), ?_⟩⟩
  · have hacts : ((p.reached l).lane l).reclaims = true ∧ (p.reached l).params.fabricIdentity ≠ 0 ∧
        holdsRun (reclaimPattern (p.reached l).params.fabricIdentity) f.payload = true := by
      refine ⟨by simpa [LaneRec.reclaims, hlane, hpin] using hreason, by simpa using hid, ?_⟩
      rw [holdsRun_iff, Part.reached_params]
      exact ⟨a, b, hpayload⟩
    have hq : (p.reached l).inOff l f = (p.reached l).enterQuiet l (laneEvent .laneReclaimed l
        (BitVec.ofNat 16 (offReasonCode ((p.reached l).lane l).offReason))) := if_pos hacts
    rw [hq, Part.enterQuiet_lane_self _ _ (laneEvent_lanes _ _ _)]
    refine ⟨rfl, rfl, ?_, ?_⟩
    · exact if_pos ((p.reached_lane_state l l).trans hoff)
    · have hbuffer := ((p.reached l).laneWork_enterQuiet l _ (laneWork_laneEvent .laneReclaimed l
        (BitVec.ofNat 16 (offReasonCode ((p.reached l).lane l).offReason)))).buffer
      rw [hbuffer, Part.reached_engine]
  · have hstays : (p.reached l).inOff l f = p.reached l := by
      refine if_neg fun ⟨hrec, hid, hrun⟩ => ?_
      rw [hlane, LaneRec.reclaims, Bool.and_eq_true, Bool.or_eq_true, beq_iff_eq, beq_iff_eq, bne_iff_ne] at hrec
      obtain ⟨hreason, hpin⟩ := hrec
      rw [Part.reached_params] at hid hrun
      rcases hnot with h | h | h | h
      · exact hid h
      · exact hpin h
      · rw [h] at hreason; simp at hreason
      · obtain ⟨a, b, hpayload⟩ := (holdsRun_iff _ _).mp hrun
        have hlen := congrArg List.length hpayload
        simp only [List.length_append, reclaimPattern_length] at hlen
        omega
    rw [hstays]
    exact ⟨hlanes, p.reached_engine l, p.reached_counter_self l⟩

/-! ### O17: filtered frames -/

/-- A malformed frame, not misdelivered, is counted as such (R45). -/
theorem Part.arrive_malformed {p : Part} {l : Lane} (hoff : (p.lane l).state ≠ .off) {f : Frame}
    (hd : destined f.kind = false ∨ f.header.destination = p.params.sourceNode) (hm : malformedFrame f = true) :
    p.arrive l f false = (p.reached l).raise (.lane l .malformedFrames) := by
  rw [Part.arrive_good hoff]
  refine (if_neg ?_).trans (if_pos hm)
  rintro ⟨hk, hdest⟩
  rcases hd with h | h
  · exact Bool.false_ne_true (h.symm.trans hk)
  · exact hdest (by simpa using h)

/-- A frame for the stream engine that names another node is counted as misdelivered (R45). -/
theorem Part.arrive_misdelivered {p : Part} {l : Lane} (hoff : (p.lane l).state ≠ .off) {f : Frame}
    (hk : destined f.kind = true) (hd : f.header.destination ≠ p.params.sourceNode) :
    p.arrive l f false = (p.reached l).raise (.lane l .misdeliveredFrames) := by
  rw [Part.arrive_good hoff]
  exact if_pos ⟨hk, by simpa using hd⟩

/-- A frame for the stream engine reaches R30's filter. -/
theorem Part.arrive_engineTakes {p : Part} {l : Lane} (hoff : (p.lane l).state ≠ .off) {f : Frame}
    (hk : destined f.kind = true) (hd : f.header.destination = p.params.sourceNode) (hm : malformedFrame f = false) :
    p.arrive l f false = (p.reached l).engineTakes l f := by
  rw [Part.arrive_good hoff]
  exact Part.inService_engineTakes (p.reached l) l hk (by simpa using hd) hm

theorem Part.filtered_stale {p : Part} {n : StreamId} {l : Lane} {h : Header} {takes : StreamState → Bool}
    {act : Part → Part} (he : h.epoch ≠ (p.stream n).epoch) :
    p.filtered n l h takes act = p.raise (.stream n .stale) := if_pos he

theorem Part.filtered_stray {p : Part} {n : StreamId} {l : Lane} {h : Header} {takes : StreamState → Bool}
    {act : Part → Part} (he : h.epoch = (p.stream n).epoch)
    (hs : (p.stream n).carrier ≠ some l ∨ takes (p.stream n).state = false) :
    p.filtered n l h takes act = p.raise (.stream n .stray) :=
  (if_neg (not_not_intro he)).trans (if_pos hs)

theorem Part.filtered_taken {p : Part} {n : StreamId} {l : Lane} {h : Header} {takes : StreamState → Bool}
    {act : Part → Part} (he : h.epoch = (p.stream n).epoch) (hc : (p.stream n).carrier = some l)
    (ht : takes (p.stream n).state = true) : p.filtered n l h takes act = act p :=
  (if_neg (not_not_intro he)).trans (if_neg (by simp [hc, ht]))

/-- What a frame leaves that reaches one counter and nothing else. -/
theorem Part.reached_raise_effects (p : Part) (l : Lane) {c : CounterId} (hr : c ≠ .lane l .framesReceived)
    (hm : c ≠ .lane l .malformedFrames) :
    ((p.reached l).raise c).engine = p.engine ∧ ((p.reached l).raise c).intake = p.intake ∧
    ((p.reached l).raise c).completions = p.completions ∧ ((p.reached l).raise c).counter c = p.counter c + 1 ∧
    ((p.reached l).raise c).counter (.lane l .malformedFrames) = p.counter (.lane l .malformedFrames) := by
  refine ⟨by simp, by simp, by simp, ?_, ?_⟩
  · rw [Part.raise_counter_self, p.reached_counter_of_ne l hr]
  · rw [Part.raise_counter_of_ne _ hm.symm, p.reached_counter_of_ne l (by simp)]

/-- The states that take a frame kind of the stream engine. -/
def engineTakesIn : FrameKind → StreamState → Bool
  | .tell => StreamState.takesTell
  | _ => StreamState.takesAnswers

/-- A frame for the stream engine, filtered (R30, R117, R123). -/
theorem Part.engineTakes_eq_filtered (p : Part) (l : Lane) {f : Frame} (hk : destined f.kind = true) : ∃ act,
    p.engineTakes l f = p.filtered f.header.stream l f.header (engineTakesIn f.kind) act ∧
    (f.kind = .answer → act = fun q => q.takeAnswer f.header.stream l f.header f.payload) := by
  unfold Part.engineTakes
  cases hf : f.kind with
  | answer => exact ⟨_, rfl, fun _ => rfl⟩
  | tell | gap => exact ⟨_, rfl, fun h => by cases h⟩
  | request | ask | beat | page | test | pause | probe | other => simp [destined, hf] at hk

/-- A taken ANSWER for no entry is counted as unmatched, and as a duplicate by its status (R30, R158). -/
theorem Part.takeAnswer_unmatched {p : Part} {n : StreamId} {h : Header} (he : (p.stream n).entryAt h.seq = none)
    (l : Lane) (payload : List Byte) : p.takeAnswer n l h payload = (p.countDuplicate n h).raise (.stream n .unmatched) := by
  unfold Part.takeAnswer
  dsimp only
  rw [he]

theorem Part.countDuplicate_counter (p : Part) (n : StreamId) (h : Header) {c : CounterId}
    (hc : c ≠ .stream n .duplicateAnswers) : (p.countDuplicate n h).counter c = p.counter c := by
  unfold Part.countDuplicate
  split
  · exact p.raise_counter_of_ne hc
  · rfl
@[simp] theorem Part.countDuplicate_engine (p : Part) (n : StreamId) (h : Header) :
    (p.countDuplicate n h).engine = p.engine := by
  unfold Part.countDuplicate; split <;> simp
@[simp] theorem Part.countDuplicate_intake (p : Part) (n : StreamId) (h : Header) :
    (p.countDuplicate n h).intake = p.intake := by
  unfold Part.countDuplicate; split <;> simp
@[simp] theorem Part.countDuplicate_completions (p : Part) (n : StreamId) (h : Header) :
    (p.countDuplicate n h).completions = p.completions := by
  unfold Part.countDuplicate; split <;> simp

theorem takesAnswers_iff (s : StreamState) : s.takesAnswers = true ↔ s ∈ [StreamState.replaying, .bound, .draining] := by
  cases s <;> decide
theorem takesTell_iff (s : StreamState) : s.takesTell = true ↔ s ∈ [StreamState.binding] := by cases s <;> decide

/-- The frames for the stream engine, each with the states that take it, and none of them malformed. -/
theorem engineFrame_of_command {c : Instr} {takes : List StreamState} {l : Lane} {h : Header} {payload : List Byte}
    (hc : (c, takes) = (.receiveAnswer l h payload false, [.replaying, .bound, .draining]) ∨
      (c, takes) = (.receiveTell l h [] false, [.binding]) ∨
      (c, takes) = (.receiveGap l h [] false, [.replaying, .bound, .draining])) :
    ∃ f : Frame, (∀ (p : Part) (w : List Instr), exec c ⟨p, w⟩ = .next ⟨p.arrive l f false, w⟩) ∧
      destined f.kind = true ∧ malformedFrame f = false ∧ f.header = h ∧
      (∀ s, engineTakesIn f.kind s = true ↔ s ∈ takes) ∧
      (c = .receiveAnswer l h payload false → f = ⟨.answer, h, payload⟩) := by
  rcases hc with hc | hc | hc <;> cases hc
  · exact ⟨⟨.answer, h, payload⟩, fun _ _ => rfl, rfl, rfl, rfl, takesAnswers_iff, fun _ => rfl⟩
  · exact ⟨⟨.tell, h, []⟩, fun _ _ => rfl, rfl, rfl, rfl, takesTell_iff, fun hx => by cases hx⟩
  · exact ⟨⟨.gap, h, []⟩, fun _ _ => rfl, rfl, rfl, rfl, takesAnswers_iff, fun hx => by cases hx⟩

/-- The commands that carry a malformed frame. -/
theorem malformedFrame_of_command {node : Node} {c : Instr} {l : Lane} {h : Header} {payload : List Byte}
    (hc : payload ≠ [] ∧ h.destination = node ∧
        (c = .receiveTell l h payload false ∨ c = .receiveGap l h payload false) ∨
      payload ≠ [] ∧ (c = .receiveBeat l h payload false ∨ c = .receivePause l h payload false) ∨
      (payload.length ≠ 8 ∨ h.pageKind = 2 ∨ h.pageKind = 3) ∧ c = .receiveBasePage l h payload false ∨
      payload.length ≠ 8 ∧ c = .receiveNextPage l h payload false ∨
      payload.length ≠ 64 ∧
        (c = .receiveTestReflect l h payload false ∨ c = .receiveTestReturn l h payload false)) :
    ∃ f : Frame, (∀ (p : Part) (w : List Instr), exec c ⟨p, w⟩ = .next ⟨p.arrive l f false, w⟩) ∧
      (destined f.kind = false ∨ f.header.destination = node) ∧ malformedFrame f = true := by
  rcases hc with ⟨hp, hd, rfl | rfl⟩ | ⟨hp, rfl | rfl⟩ | ⟨hp, rfl⟩ | ⟨hp, rfl⟩ | ⟨hp, rfl | rfl⟩
  · exact ⟨_, fun _ _ => rfl, .inr hd, by simpa [malformedFrame, requiredLength] using hp⟩
  · exact ⟨_, fun _ _ => rfl, .inr hd, by simpa [malformedFrame, requiredLength] using hp⟩
  · exact ⟨_, fun _ _ => rfl, .inl rfl, by simpa [malformedFrame, requiredLength] using hp⟩
  · exact ⟨_, fun _ _ => rfl, .inl rfl, by simpa [malformedFrame, requiredLength] using hp⟩
  · refine ⟨_, fun _ _ => rfl, .inl rfl, ?_⟩
    rcases hp with hp | hp | hp <;> simp [malformedFrame, requiredLength, hp]
  · exact ⟨_, fun _ _ => rfl, .inl rfl, by simp [malformedFrame, requiredLength, hp]⟩
  · exact ⟨_, fun _ _ => rfl, .inl rfl, by simp [malformedFrame, requiredLength, hp]⟩
  · exact ⟨_, fun _ _ => rfl, .inl rfl, by simp [malformedFrame, requiredLength, hp]⟩

/-- Settles O17. -/
theorem framesFiltered : Obligations.FramesFiltered := by
  refine ⟨fun p w l h payload c hoff hc => ?_, fun p w l h payload c takes hoff hc => ?_⟩
  · obtain ⟨f, hexec, hd, hm⟩ := malformedFrame_of_command hc
    refine ⟨_, (hexec p w).trans (congrArg (fun q => Host.Outcome.next (State.mk q w)) (Part.arrive_malformed hoff hd hm)),
      ?_, ?_, fun k hk hk' => ?_, by simp, by simp, by simp, by simp, ?_, fun m hm => ?_, fun hun => ?_⟩
    · rw [Part.raise_counter_self, p.reached_counter_of_ne l (by simp)]
    · rw [Part.raise_counter_of_ne _ (by simp), p.reached_counter_self]
    · rw [Part.raise_counter_of_ne _ hk, p.reached_counter_of_ne l hk']
    · rw [Part.raise_lane, p.reached_lane_self]
      simp only [LaneState.isUp_iff]
      rfl
    · rw [Part.raise_lane, p.reached_lane_of_ne hm]
    · rw [Part.unwatched_raise (hun.of_params (p.reached_params l)), Part.reached_log hun]
  · obtain ⟨f, hexec, hk, hm, rfl, htakes, hanswer⟩ := engineFrame_of_command hc
    obtain ⟨act, hfilter, hact⟩ := (p.reached l).engineTakes_eq_filtered l hk
    have harrive := fun hd : f.header.destination = p.params.sourceNode =>
      (Part.arrive_engineTakes hoff hk hd hm).trans hfilter
    refine ⟨_, hexec p w, fun hd => ?_, fun hd he => ?_, fun hd he hs => ?_, fun hd he hcar hs hc hentry => ?_⟩
    · rw [Part.arrive_misdelivered hoff hk hd]
      exact p.reached_raise_effects l (by simp) (by simp)
    · rw [harrive hd, Part.filtered_stale (by simpa using he)]
      exact p.reached_raise_effects l (by simp) (by simp)
    · rw [harrive hd, Part.filtered_stray (by simpa using he)
        (hs.imp (by simp) fun h => Bool.eq_false_iff.mpr fun ht => h ((htakes _).mp (by simpa using ht)))]
      exact p.reached_raise_effects l (by simp) (by simp)
    · have hf := hanswer hc
      rw [harrive hd, Part.filtered_taken (by simpa using he) (by simpa using hcar) ((htakes _).mpr (by simpa using hs)),
        hact (by rw [hf])]
      beta_reduce
      rw [Part.takeAnswer_unmatched (by simpa using hentry)]
      refine ⟨by simp, by simp, by simp, ?_, ?_⟩
      · rw [Part.raise_counter_self, Part.countDuplicate_counter _ _ _ (by simp), p.reached_counter_of_ne l (by simp)]
      · rw [Part.raise_counter_of_ne _ (by simp), Part.countDuplicate_counter _ _ _ (by simp),
          p.reached_counter_of_ne l (by simp)]

end Sys2Proof.Machine
end

section
/-! The thresholds at a lane (O31, O32, O33): what a threshold evaluation, a weight and a leak make of the lanes. -/

namespace Sys2Proof.Machine

/-! ### The threshold evaluation of one lane (R86, R94) -/

theorem Part.suppress_lane_of_ne (p : Part) {l m : Lane} (h : m ≠ l) (d : BitVec 16) : (p.suppress l d).lane m = p.lane m := by
  unfold Part.suppress
  split
  · rfl
  · exact p.modLane_lane_of_ne h (fun r => { r with suppressed := true })

theorem Part.suppress_lane_self (p : Part) (l : Lane) (d : BitVec 16) :
    (p.suppress l d).lane l = { p.lane l with suppressed := true } := by
  unfold Part.suppress
  split
  · next h => rw [← h]
  · exact p.modLane_lane_self l (fun r => { r with suppressed := true })

@[simp] theorem Part.suppress_engine (p : Part) (l : Lane) (d : BitVec 16) : (p.suppress l d).engine = p.engine := by
  unfold Part.suppress; split <;> rfl
@[simp] theorem Part.suppress_sides (p : Part) (l : Lane) (d : BitVec 16) : (p.suppress l d).sides = p.sides := by
  unfold Part.suppress; split <;> rfl
theorem Part.suppress_log (p : Part) (l : Lane) (d : BitVec 16) : (p.suppress l d).log =
    if (p.lane l).suppressed then p.log else p.log.take .pinSuppressed (some l) none d p.timeCounter := by
  unfold Part.suppress; split <;> rfl

theorem Part.degradeLane_lane_self (p : Part) (l : Lane) :
    (p.degradeLane l).lane l = { p.lane l with state := .degraded } := by
  rw [Part.degradeLane, Part.moveLane_lane_self _ _ _ _ (laneEvent_lanes _ _ _), LaneRec.moved_of_service _ rfl]
  rfl

theorem Part.recoverLane_lane_self (p : Part) (l : Lane) :
    (p.recoverLane l).lane l = ({ p.lane l with state := .active } : LaneRec).freshStorm p.now := by
  rw [Part.recoverLane, Part.moveLane_lane_self _ _ _ _ (laneEvent_lanes _ _ _), LaneRec.moved_of_service _ rfl]

/-- A threshold evaluation reaches its own lane's record alone (R97). -/
theorem Part.evaluateLane_lane_of_ne (p : Part) {l m : Lane} (h : m ≠ l) : (p.evaluateLane l).lane m = p.lane m := by
  rcases p.evaluateLane_cases l with he | ⟨-, d, he⟩ | ⟨-, he⟩ | ⟨-, he⟩ | ⟨-, he⟩ <;> rw [he]
  · exact p.suppress_lane_of_ne h d
  · exact p.downLane_lane_of_ne h _ _
  · exact p.moveLane_lane_of_ne h _ _ (laneEvent_lanes _ _ _)
  · exact p.moveLane_lane_of_ne h _ _ (laneEvent_lanes _ _ _)

theorem Part.evaluateLane_lane_figure (p : Part) (l m : Lane) : ((p.evaluateLane l).lane m).figure = (p.lane m).figure := by
  by_cases hm : m = l
  · subst hm
    rcases p.evaluateLane_cases m with he | ⟨-, d, he⟩ | ⟨-, he⟩ | ⟨-, he⟩ | ⟨-, he⟩ <;> rw [he]
    · rw [p.suppress_lane_self]
    · rw [p.downLane_lane_self]
    · rw [p.degradeLane_lane_self]
    · rw [p.recoverLane_lane_self]; rfl
  · rw [p.evaluateLane_lane_of_ne hm]

theorem Part.evaluateLane_lane_pin (p : Part) (l m : Lane) : ((p.evaluateLane l).lane m).pin = (p.lane m).pin := by
  by_cases hm : m = l
  · subst hm
    rcases p.evaluateLane_cases m with he | ⟨-, d, he⟩ | ⟨-, he⟩ | ⟨-, he⟩ | ⟨-, he⟩ <;> rw [he]
    · rw [p.suppress_lane_self]
    · rw [p.downLane_lane_self]
    · rw [p.degradeLane_lane_self]
    · rw [p.recoverLane_lane_self]; rfl
  · rw [p.evaluateLane_lane_of_ne hm]

theorem Part.distressDown_state (p : Part) (l : Lane) : ((p.distressDown l).lane l).state =
    if (p.lane l).pin = .keep then (p.lane l).state else .down := by
  unfold Part.distressDown
  split
  · exact p.suppress_lane_state l l 2
  · rw [p.downLane_lane_self]

theorem Part.distressDegrade_state (p : Part) (l : Lane) : ((p.distressDegrade l).lane l).state =
    if (p.lane l).pin = .keep then (p.lane l).state else .degraded := by
  unfold Part.distressDegrade
  split
  · exact p.suppress_lane_state l l 1
  · rw [p.degradeLane_lane_self]

/-- The state that a threshold evaluation leaves its lane in (R86, R94). -/
theorem Part.evaluateLane_lane_state (p : Part) (l : Lane) : ((p.evaluateLane l).lane l).state =
    thresholdStateUnder p.params (p.lane l).pin (p.lane l).state (p.lane l).figure := by
  unfold Part.evaluateLane thresholdStateUnder thresholdState
  cases hs : (p.lane l).state with
  | active =>
    dsimp only
    by_cases hdown : p.params.downLevel ≤ (p.lane l).figure
    · simp [hdown, p.distressDown_state, hs]
    · by_cases hwarn : p.params.warnLevel ≤ (p.lane l).figure
      · simp [hdown, hwarn, p.distressDegrade_state, hs]
      · simp [hdown, hwarn, hs]
  | degraded =>
    dsimp only
    by_cases hdown : p.params.downLevel ≤ (p.lane l).figure
    · simp [hdown, p.distressDown_state, hs]
    · by_cases hclear : (p.lane l).figure ≤ p.params.clearLevel
      · simp [hdown, hclear, p.recoverLane_lane_self, LaneRec.freshStorm]
      · simp [hdown, hclear, hs]
  | off | quiet | training | qualify | held | down => simp [hs]

/-- The streams' part of an evaluation leaves every lane its record but for the queue. -/
theorem Part.evaluate_lane (p : Part) (l m : Lane) :
    (p.evaluate l).lane m = { (p.evaluateLane l).lane m with queue := ((p.evaluate l).lane m).queue } :=
  ((p.evaluateLane l).streamsOnly_streamsFollow p).lane m

theorem Part.evaluate_lane_state (p : Part) (l : Lane) : ((p.evaluate l).lane l).state =
    thresholdStateUnder p.params (p.lane l).pin (p.lane l).state (p.lane l).figure := by
  rw [p.evaluate_lane]; exact p.evaluateLane_lane_state l
theorem Part.evaluate_lane_figure (p : Part) (l m : Lane) : ((p.evaluate l).lane m).figure = (p.lane m).figure := by
  rw [p.evaluate_lane]; exact p.evaluateLane_lane_figure l m
theorem Part.evaluate_lane_pin (p : Part) (l m : Lane) : ((p.evaluate l).lane m).pin = (p.lane m).pin := by
  rw [p.evaluate_lane]; exact p.evaluateLane_lane_pin l m
theorem Part.evaluate_lane_of_ne (p : Part) {l m : Lane} (h : m ≠ l) :
    (p.evaluate l).lane m = { p.lane m with queue := ((p.evaluate l).lane m).queue } := by
  rw [p.evaluate_lane, p.evaluateLane_lane_of_ne h]

/-- Where no state follows, an evaluation touches nothing but the suppressed flag and the log (R86, R94). -/
theorem Part.evaluate_of_same_state {p : Part} {l : Lane} (h : ((p.evaluate l).lane l).state = (p.lane l).state) :
    ((p.evaluate l).lane l).queue = (p.lane l).queue ∧ (p.evaluate l).engine = p.engine ∧
    (p.evaluate l).sides = p.sides ∧ ∀ m, m ≠ l → (p.evaluate l).lane m = p.lane m := by
  rcases p.evaluate_cases l with he | ⟨-, d, he⟩ | ⟨hs, he⟩ | ⟨hs, he⟩ | ⟨hs, he⟩ <;> rw [he] at h ⊢
  · exact ⟨rfl, rfl, rfl, fun _ _ => rfl⟩
  · exact ⟨by rw [p.suppress_lane_self], by simp, by simp, fun m hm => p.suppress_lane_of_ne hm d⟩
  · rw [p.enterDown_lane_self] at h
    rw [← h] at hs
    exact absurd hs Bool.false_ne_true
  · rw [p.changeLane_state l _ _ (laneEvent_lanes _ _ _), hs] at h
    simp at h
  · rw [p.changeLane_state l _ _ (laneEvent_lanes _ _ _), hs] at h
    simp [LaneRec.freshStorm] at h

/-- Where nothing is called for, an evaluation is no change (R94). -/
theorem Part.evaluate_of_quiet {p : Part} {l : Lane} (hs : (p.lane l).state = .active)
    (hdown : ¬p.params.downLevel ≤ (p.lane l).figure) (hwarn : ¬p.params.warnLevel ≤ (p.lane l).figure) :
    p.evaluate l = p := by
  have he : p.evaluateLane l = p := by
    unfold Part.evaluateLane
    rw [hs]
    exact (if_neg hdown).trans (if_neg hwarn)
  rw [Part.evaluate, he, Part.streamsFollow_of_states fun _ => rfl]

/-- Under KEEP a move that the thresholds call for is suppressed (R86). -/
theorem Part.evaluate_of_keep {p : Part} {l : Lane} (hpin : (p.lane l).pin = .keep)
    (hs : (p.lane l).state = .active ∨ (p.lane l).state = .degraded)
    (hcalled : p.params.downLevel ≤ (p.lane l).figure ∨
      (p.lane l).state = .active ∧ p.params.warnLevel ≤ (p.lane l).figure) :
    p.evaluate l = p.suppress l (if p.params.downLevel ≤ (p.lane l).figure then 2 else 1) := by
  have he : p.evaluateLane l = p.suppress l (if p.params.downLevel ≤ (p.lane l).figure then 2 else 1) := by
    unfold Part.evaluateLane Part.distressDown Part.distressDegrade
    by_cases hdown : p.params.downLevel ≤ (p.lane l).figure
    · rcases hs with hs | hs <;> simp [hs, hdown, hpin]
    · obtain ⟨hact, hwarn⟩ := hcalled.resolve_left hdown
      simp [hact, hdown, hwarn, hpin]
  rw [Part.evaluate, he, Part.streamsFollow_of_states fun m => p.suppress_lane_state l m _]

/-! ### Weights (R90) -/

/-- A lane's figure raised by a weight, saturating at 1023 (R90). -/
def Part.weighted (p : Part) (l : Lane) (w : Nat) : Part :=
  p.modLane l (fun r => { r with figure := min 1023 (r.figure + w) })

theorem Part.weighted_lane_self (p : Part) (l : Lane) (w : Nat) :
    (p.weighted l w).lane l = { p.lane l with figure := min 1023 ((p.lane l).figure + w) } := p.modLane_lane_self l _
theorem Part.weighted_lane_of_ne (p : Part) {l m : Lane} (h : m ≠ l) (w : Nat) : (p.weighted l w).lane m = p.lane m :=
  p.modLane_lane_of_ne h _

theorem Part.addWeight_of_raised {p : Part} {l : Lane}
    (h : ((p.lane l).state = .active ∨ (p.lane l).state = .degraded) ∧ (p.lane l).figure < 1023) (w : Nat) :
    p.addWeight l w = (p.weighted l w).evaluate l :=
  if_pos ⟨(LaneState.inService_iff _).mpr h.1, h.2⟩

theorem Part.addWeight_of_not {p : Part} {l : Lane}
    (h : ¬(((p.lane l).state = .active ∨ (p.lane l).state = .degraded) ∧ (p.lane l).figure < 1023)) (w : Nat) :
    p.addWeight l w = p :=
  if_neg fun c => h ⟨(LaneState.inService_iff _).mp c.1, c.2⟩

/-- What a weight does, as `Part.weighs` says it (R90, R94). -/
theorem Part.weighs_addWeight (p : Part) (l : Lane) (w : Nat) : p.weighs (p.addWeight l w) l w := by
  by_cases h : ((p.lane l).state = .active ∨ (p.lane l).state = .degraded) ∧ (p.lane l).figure < 1023
  · rw [Part.addWeight_of_raised h]
    refine ⟨fun _ => ⟨?_, ?_⟩, fun hn => absurd h hn, fun hs => ?_⟩
    · rw [Part.evaluate_lane_figure, p.weighted_lane_self]
    · rw [Part.evaluate_lane_state, p.weighted_lane_self]; rfl
    · obtain ⟨hqueue, hengine, hsides, hlanes⟩ :=
        Part.evaluate_of_same_state (hs.trans (by rw [p.weighted_lane_self]))
      exact ⟨hqueue.trans (by rw [p.weighted_lane_self]), hengine, hsides,
        fun m hm => (hlanes m hm).trans (p.weighted_lane_of_ne hm w)⟩
  · rw [Part.addWeight_of_not h]
    exact ⟨fun hr => absurd hr h, fun _ => ⟨rfl, rfl⟩, fun _ => ⟨rfl, rfl, rfl, fun _ _ => rfl⟩⟩

/-- With no pin at KEEP the thresholds alone decide (R86). -/
theorem thresholdStateUnder_of_not_keep (q : Params) {pin : Pin} (h : pin ≠ .keep) (s : LaneState) (figure : Nat) :
    thresholdStateUnder q pin s figure = thresholdState q s figure := if_neg fun c => h c.1

/-- Settles O32. -/
theorem thresholdsDecide : Obligations.ThresholdsDecide := by
  intro p w l cause weight hweight
  have hcause : ReportCause.weight cause = weight := by rw [hweight]; cases cause <;> rfl
  have hexec : exec (.distressWeight l cause) ⟨p, w⟩ =
      .next ⟨(p.takeReport (.weight l cause)).addWeight l (ReportCause.weight cause), w⟩ := rfl
  refine ⟨_, hexec, (Part.laneWork_addWeight _ l _).completions, fun hact hdeg => ?_, fun hfigure => ?_,
    fun hs hfigure => ?_⟩
  · rw [Part.addWeight_of_not (p := p.takeReport (.weight l cause)) fun h => h.1.elim hact hdeg]
    exact ⟨rfl, rfl, rfl⟩
  · rw [Part.addWeight_of_not (p := p.takeReport (.weight l cause)) fun h => absurd hfigure (Nat.ne_of_lt h.2)]
    exact ⟨rfl, rfl, rfl⟩
  · rw [hcause]
    obtain ⟨hraised, -, -⟩ := (p.takeReport (.weight l cause)).weighs_addWeight l weight
    obtain ⟨hfig, hstate⟩ := hraised ⟨hs, hfigure⟩
    refine ⟨hfig, fun hpin => hstate.trans (thresholdStateUnder_of_not_keep _ hpin _ _), fun hpin hcalled => ?_⟩
    have hself := (p.takeReport (.weight l cause)).weighted_lane_self l weight
    rw [Part.addWeight_of_raised (p := p.takeReport (.weight l cause)) ⟨hs, hfigure⟩, Part.evaluate_of_keep]
    · refine ⟨?_, ?_, ?_, ?_⟩
      · rw [Part.suppress_lane_state, hself]; rfl
      · rw [Part.suppress_lane_self]
      · rw [Part.suppress_engine]; rfl
      · rw [Part.suppress_log, hself]; rfl
    · rw [hself]; exact hpin
    · rw [hself]; exact hs
    · rw [hself]; exact hcalled

/-! ### O31: the leak -/

/-- What the thresholds read of a lane: its figure, state and pin. -/
def LaneRec.judged (r : LaneRec) : Nat × LaneState × Pin := (r.figure, r.state, r.pin)

/-- What a leak leaves of that (R86, R93). -/
def Params.leaked (q : Params) (r : LaneRec) : Nat × LaneState × Pin :=
  (r.figure - q.leak,
    if r.figure = 0 ∨ q.leak = 0 then r.state else thresholdStateUnder q r.pin r.state (r.figure - q.leak), r.pin)

theorem Params.leaked_congr (q : Params) {r r' : LaneRec} (h : r.judged = r'.judged) : q.leaked r = q.leaked r' := by
  obtain ⟨hfigure, hrest⟩ := Prod.mk.inj h
  obtain ⟨hstate, hpin⟩ := Prod.mk.inj hrest
  unfold Params.leaked
  rw [hfigure, hstate, hpin]

theorem Part.leak_judged_self (p : Part) (l : Lane) : ((p.leak l).lane l).judged = p.params.leaked (p.lane l) := by
  unfold Part.leak LaneRec.judged Params.leaked
  by_cases h : (p.lane l).figure = 0 ∨ p.params.leak = 0
  · rw [if_pos h, if_pos h, show (p.lane l).figure - p.params.leak = (p.lane l).figure by omega]
  · rw [if_neg h, if_neg h, Part.evaluate_lane_figure, Part.evaluate_lane_state, Part.evaluate_lane_pin,
      Part.modLane_lane_self]
    rfl

theorem Part.leak_judged_of_ne (p : Part) {l m : Lane} (h : m ≠ l) : ((p.leak l).lane m).judged = (p.lane m).judged := by
  unfold Part.leak
  split
  · rfl
  · rw [Part.evaluate_lane_of_ne _ h, p.modLane_lane_of_ne h]
    rfl

/-- All four leaks together: each lane's own leak, on the record as it stood. -/
theorem Part.leakAll_judged (p : Part) (l : Lane) : (p.leakAll.lane l).judged = p.params.leaked (p.lane l) := by
  have h0 := (p.laneWork_leak .a0).params
  have h1 := ((p.leak .a0).laneWork_leak .a1).params.trans h0
  have h2 := (((p.leak .a0).leak .a1).laneWork_leak .b0).params.trans h1
  unfold Part.leakAll
  cases l with
  | a0 =>
    rw [Part.leak_judged_of_ne _ (by decide), Part.leak_judged_of_ne _ (by decide), Part.leak_judged_of_ne _ (by decide),
      Part.leak_judged_self]
  | a1 =>
    rw [Part.leak_judged_of_ne _ (by decide), Part.leak_judged_of_ne _ (by decide), Part.leak_judged_self, h0]
    exact p.params.leaked_congr (p.leak_judged_of_ne (by decide))
  | b0 =>
    rw [Part.leak_judged_of_ne _ (by decide), Part.leak_judged_self, h1]
    exact p.params.leaked_congr (((p.leak .a0).leak_judged_of_ne (by decide)).trans (p.leak_judged_of_ne (by decide)))
  | b1 =>
    rw [Part.leak_judged_self, h2]
    exact p.params.leaked_congr ((((p.leak .a0).leak .a1).leak_judged_of_ne (by decide)).trans
      (((p.leak .a0).leak_judged_of_ne (by decide)).trans (p.leak_judged_of_ne (by decide))))

/-- Under KEEP the thresholds bring a DEGRADED lane back to ACTIVE, and nothing else (R86). -/
theorem thresholdStateUnder_keep (q : Params) (s : LaneState) (figure : Nat) : thresholdStateUnder q .keep s figure =
    if s = .degraded ∧ figure < q.downLevel ∧ figure ≤ q.clearLevel then .active else s := by
  unfold thresholdStateUnder thresholdState
  cases s with
  | active => by_cases hd : q.downLevel ≤ figure <;> by_cases hw : q.warnLevel ≤ figure <;> simp [hd, hw]
  | degraded =>
    by_cases hd : q.downLevel ≤ figure
    · simp [hd, Nat.not_lt.mpr hd]
    · by_cases hc : figure ≤ q.clearLevel <;> simp [hd, hc, Nat.lt_of_not_le hd]
  | off | quiet | training | qualify | held | down => simp

/-- Settles O31. -/
theorem leakTickLowers : Obligations.LeakTickLowers := by
  intro p w
  have hwork : Part.LaneWork { p.reach p.leakAt with leakAt := p.leakAt + 1000 }
      (Part.leakAll { p.reach p.leakAt with leakAt := p.leakAt + 1000 }) :=
    (((Part.laneWork_leak _ .a0).trans (Part.laneWork_leak _ .a1)).trans (Part.laneWork_leak _ .b0)).trans
      (Part.laneWork_leak _ .b1)
  refine ⟨_, rfl, hwork.leakAt, hwork.now, hwork.completions, fun l => ?_⟩
  obtain ⟨hfigure, hrest⟩ := Prod.mk.inj (Part.leakAll_judged { p.reach p.leakAt with leakAt := p.leakAt + 1000 } l)
  have hstate := (Prod.mk.inj hrest).1
  refine ⟨hfigure, fun hnone => hstate.trans (if_pos hnone), fun hfig hleak hpin => ?_, fun hfig hleak hpin => ?_⟩
  · exact (hstate.trans (if_neg (not_or.mpr ⟨hfig, hleak⟩))).trans (thresholdStateUnder_of_not_keep _ hpin _ _)
  · refine (hstate.trans (if_neg (not_or.mpr ⟨hfig, hleak⟩))).trans ?_
    rw [show ((({ p.reach p.leakAt with leakAt := p.leakAt + 1000 } : Part).lane l).pin) = .keep from hpin]
    exact thresholdStateUnder_keep _ _ _

end Sys2Proof.Machine
end

section
/-! What a lane's change of state does to the counters, the side and the streams: the layer below the statements about
link losses, storms, bursts and timers. -/

namespace Sys2Proof.Machine

/-! ### Counters -/

/-- A counter that no entry to BINDING raises (R158). -/
def CounterId.notBindings (c : CounterId) : Prop := ∀ n, c ≠ .stream n .bindings
/-- A counter that no change of a lane's state raises either (R156). -/
def CounterId.notMoves (c : CounterId) : Prop := c.notBindings ∧ ∀ l, c ≠ .lane l .downEntries

section
variable {c : CounterId}

theorem CounterId.notBindings_lane (l : Lane) (k : LaneCounter) : CounterId.notBindings (.lane l k) :=
  fun _ h => CounterId.noConfusion h

theorem CounterId.notMoves_lane (l : Lane) {k : LaneCounter} (h : k ≠ .downEntries) : CounterId.notMoves (.lane l k) :=
  ⟨CounterId.notBindings_lane l k, fun _ hc => h (CounterId.lane.inj hc).2⟩

theorem Part.stall_counters (p : Part) (n : StreamId) : (p.stall n).counters = p.counters := by
  unfold Part.stall Part.startStall
  split <;> unfold Part.abandonAtStall <;> split <;> simp

theorem Part.openBinding_counter (p : Part) (n : StreamId) (k : BindingKind) (hc : c.notBindings) :
    (p.openBinding n k).counter c = p.counter c :=
  Part.raise_counter_of_ne ((p.modStream n (fun r => r.opened p.now k)).dropFrames n) (hc n)

theorem Part.bind_counter (p : Part) (n : StreamId) (k : BindingKind) (hc : c.notBindings) :
    (p.bind n k).counter c = p.counter c := by
  unfold Part.bind Part.settleChoice
  split
  · exact p.openBinding_counter n k hc
  · rw [Part.counter, Part.stall_counters]; exact p.openBinding_counter n k hc

theorem Part.migrated_counter (p : Part) (n : StreamId) (left : Lane) : (p.migrated n left).counter c = p.counter c := by
  unfold Part.migrated
  split
  · split <;> rfl
  · rfl

theorem Part.failover_counter (p : Part) (n : StreamId) (l : Lane) (hc : c.notBindings) :
    (p.failover n l).counter c = p.counter c := by
  rw [Part.failover]
  rw [Part.migrated_counter, Part.bind_counter _ n _ hc]
  rfl

theorem Part.failoverAll_counter (p : Part) (l : Lane) (hc : c.notBindings) :
    (p.failoverAll l).counter c = p.counter c := by
  refine foldl_keeps (I := fun q => q.counter c = p.counter c) (fun q n hq => ?_) allStreams rfl
  split
  · exact (q.failover_counter n l hc).trans hq
  · exact hq

theorem Part.releaseStalled_counter (p : Part) (hc : c.notBindings) : p.releaseStalled.counter c = p.counter c := by
  refine foldl_keeps (I := fun q => q.counter c = p.counter c) (fun q n hq => ?_) allStreams rfl
  split
  · exact (Part.bind_counter (q.modStream n (fun r => { r with tried := .empty })) n .plain hc).trans hq
  · exact hq

theorem Part.Retimed.counter {p q : Part} (h : p.Retimed q) : q.counter c = p.counter c := by rw [h.rest]; rfl

theorem Part.streamsTake_counter (p : Part) (l : Lane) (old new : LaneState) (hc : c.notBindings) :
    (p.streamsTake l old new).counter c = p.counter c := by
  have hfail : (if old.inService = true ∧ new.inService = false then p.failoverAll l else p).counter c = p.counter c := by
    split
    · exact p.failoverAll_counter l hc
    · rfl
  unfold Part.streamsTake
  dsimp only
  rw [(Part.retimed_judgeReturns _ l).counter]
  split
  · exact (Part.releaseStalled_counter _ hc).trans hfail
  · exact hfail

theorem Part.modSide_counter (p : Part) (d : Side) (f : SideRec → SideRec) : (p.modSide d f).counter c = p.counter c := by
  rw [Part.counter, Part.modSide_counters]; rfl

theorem Part.updateSide_counter (p : Part) (l : Lane) : (p.updateSide l).counter c = p.counter c := by
  unfold Part.updateSide
  dsimp only
  split
  · rw [Part.event_counter, Part.modSide_counter, Part.modSide_counter]
  · split <;> simp [Part.modSide_counter]

theorem Part.sideTakes_counter (p : Part) (l : Lane) (old new : LaneState) :
    (p.sideTakes l old new).counter c = p.counter c := by
  unfold Part.sideTakes
  dsimp only
  rw [Part.updateSide_counter]
  split <;> split <;> simp [Part.markSuspect, Part.noteLoss, Part.modSide_counter]

theorem Part.moveLane_counter (p : Part) (l : Lane) (new : LaneState) (enter : LaneRec → LaneRec) {log : Part → Part}
    (hlog : ∀ q : Part, (log q).counter c = q.counter c) : (p.moveLane l new enter log).counter c = p.counter c := by
  rw [Part.moveLane, Part.sideTakes_counter, hlog, Part.modLane_counter]

theorem Part.changeLane_counter (p : Part) (l : Lane) (new : LaneState) (enter : LaneRec → LaneRec) {log : Part → Part}
    (hlog : ∀ q : Part, (log q).counter c = q.counter c) (hc : c.notBindings) :
    (p.changeLane l new enter log).counter c = p.counter c := by
  rw [Part.changeLane, Part.streamsTake_counter _ l _ new hc, p.moveLane_counter l new enter hlog]

theorem Part.downLane_counter (p : Part) (l : Lane) (cause : DownCause) (low : Nat) (hc : c ≠ .lane l .downEntries) :
    (p.downLane l cause low).counter c = p.counter c :=
  p.moveLane_counter l _ _ fun q => q.raise_counter_of_ne hc

theorem Part.enterDown_counter (p : Part) (l : Lane) (cause : DownCause) (low : Nat) (hc : c.notMoves) :
    (p.enterDown l cause low).counter c = p.counter c := by
  rw [Part.enterDown, Part.streamsTake_counter _ l _ _ hc.1, p.downLane_counter l cause low (hc.2 l)]

theorem Part.enterDown_downEntries (p : Part) (l : Lane) (cause : DownCause) (low : Nat) :
    (p.enterDown l cause low).counter (.lane l .downEntries) = p.counter (.lane l .downEntries) + 1 := by
  rw [Part.enterDown, Part.streamsTake_counter _ l _ _ (CounterId.notBindings_lane l _), Part.downLane, Part.moveLane,
    Part.sideTakes_counter]
  exact Part.raise_counter_self (p.modLane l _) _

theorem Part.suppress_counter (p : Part) (l : Lane) (d : BitVec 16) : (p.suppress l d).counter c = p.counter c := by
  unfold Part.suppress; split <;> rfl

theorem Part.evaluate_counter (p : Part) (l : Lane) (hc : c.notMoves) : (p.evaluate l).counter c = p.counter c := by
  rcases p.evaluate_cases l with he | ⟨-, d, he⟩ | ⟨-, he⟩ | ⟨-, he⟩ | ⟨-, he⟩ <;> rw [he]
  · exact p.suppress_counter l d
  · exact p.enterDown_counter l _ _ hc
  · exact p.changeLane_counter l _ _ (fun _ => rfl) hc.1
  · exact p.changeLane_counter l _ _ (fun _ => rfl) hc.1

theorem Part.addWeight_counter (p : Part) (l : Lane) (w : Nat) (hc : c.notMoves) :
    (p.addWeight l w).counter c = p.counter c := by
  unfold Part.addWeight
  split
  · exact Part.evaluate_counter _ l hc
  · rfl

end

/-! ### The side of a lane that changes its state (R103 to R105) -/

theorem Lane.sibling_ne (l : Lane) : l.sibling ≠ l := by cases l <;> decide

theorem Part.derivedSide_of_out {p : Part} {l : Lane} (h : (p.lane l).state.inService = false) :
    p.derivedSide l.side = if (p.lane l.sibling).state.inService then .impaired else .lost := by
  cases l <;> simp only [Part.derivedSide, sideStateOf, Lane.side, Lane.sibling, Part.lane, Lanes.get] at h ⊢ <;> rw [h] <;>
    split <;> simp_all

theorem Part.derivedSide_of_in {p : Part} {l : Lane} (h : (p.lane l).state.inService = true) :
    p.derivedSide l.side = if (p.lane l.sibling).state.inService then .up else .impaired := by
  cases l <;> simp only [Part.derivedSide, sideStateOf, Lane.side, Lane.sibling, Part.lane, Lanes.get] at h ⊢ <;> rw [h] <;>
    split <;> simp_all

theorem Part.updateSide_side_self (p : Part) (l : Lane) : (p.updateSide l).side l.side = { p.side l.side with
    state := p.derivedSide l.side,
    lostSince := if (p.side l.side).state ≠ .lost ∧ p.derivedSide l.side = .lost then p.now
      else (p.side l.side).lostSince } := by
  unfold Part.updateSide
  dsimp only
  by_cases hlost : (p.side l.side).state ≠ .lost ∧ p.derivedSide l.side = .lost
  · rw [if_pos hlost, if_pos hlost, show ∀ (q : Part) k a b d, (q.event k a b d).side l.side = q.side l.side from
      fun _ _ _ _ _ => rfl, Part.modSide_side_self, Part.modSide_side_self]
  · rw [if_neg hlost, if_neg hlost]
    split
    · exact p.modSide_side_self _ _
    · exact p.modSide_side_self _ _

theorem Part.updateSide_side_of_ne (p : Part) {l : Lane} {d : Side} (h : d ≠ l.side) :
    (p.updateSide l).side d = p.side d := by
  unfold Part.updateSide
  dsimp only
  split
  · rw [show ∀ (q : Part) k a b e, (q.event k a b e).side d = q.side d from fun _ _ _ _ _ => rfl,
      Part.modSide_side_of_ne _ h, Part.modSide_side_of_ne _ h]
  · split
    · exact p.modSide_side_of_ne h _
    · exact p.modSide_side_of_ne h _

/-- What a side logs when its state is set afresh (R104). -/
theorem Part.updateSide_log (p : Part) (l : Lane) : (p.updateSide l).log =
    if (p.side l.side).state ≠ .lost ∧ p.derivedSide l.side = .lost then
      p.log.take .sideLost (some l) none (p.lostDetail l) p.timeCounter
    else if (p.side l.side).state = .lost ∧ p.derivedSide l.side ≠ .lost then
      p.log.take .sideRestored (some l) none (wholeMs (p.now - (p.side l.side).lostSince)) p.timeCounter
    else p.log := by
  have htime : ∀ (q : Part) (d : Side) (f : SideRec → SideRec), (q.modSide d f).timeCounter = q.timeCounter := by
    intro q d f; simp [Part.timeCounter]
  unfold Part.updateSide
  dsimp only
  split
  · simp only [Part.event, Part.modSide_log, htime]
  · split
    · simp only [Part.event, Part.modSide_log, htime]
    · exact p.modSide_log _ _

theorem Part.noteLoss_lastLoss (p : Part) (l m : Lane) :
    (p.noteLoss l).lastLoss m = if m = l then some p.now else p.lastLoss m := by
  cases l <;> cases m <;> rfl

/-- The part as a lane's change of state leaves the loss times and the suspect marks (R103, R105). -/
def Part.sideNoted (p : Part) (l : Lane) (old new : LaneState) : Part :=
  let q := if old.inService = true ∧ new.inService = false then p.noteLoss l else p
  if new = .down ∨ new = .held then q.markSuspect l.side else q

theorem Part.sideTakes_eq (p : Part) (l : Lane) (old new : LaneState) :
    p.sideTakes l old new = (p.sideNoted l old new).updateSide l := rfl

theorem Part.noteLoss_side (p : Part) (l : Lane) (d : Side) : ((p.noteLoss l).side d).state = (p.side d).state ∧
    ((p.noteLoss l).side d).lostSince = (p.side d).lostSince ∧
    ((p.noteLoss l).side d).suspectUntil = (p.side d).suspectUntil := by
  cases l <;> cases d <;> exact ⟨rfl, rfl, rfl⟩

theorem Part.markSuspect_side_self (p : Part) (d : Side) : (p.markSuspect d).side d = { p.side d with
    suspectUntil := if p.params.suspectWindow = 0 then none else some (p.now + p.params.suspectWindow * 1000) } :=
  p.modSide_side_self d _

theorem Part.markSuspect_side_of_ne (p : Part) {d e : Side} (h : e ≠ d) : (p.markSuspect d).side e = p.side e :=
  p.modSide_side_of_ne h _

theorem Part.markSuspect_lastLoss (p : Part) (d : Side) (l : Lane) : (p.markSuspect d).lastLoss l = p.lastLoss l := by
  cases d <;> cases l <;> rfl

theorem Part.lastLoss_eq_side (p : Part) (l : Lane) : p.lastLoss l =
    if l.index = 0 then (p.side l.side).lastLoss0 else (p.side l.side).lastLoss1 := by cases l <;> rfl

theorem Part.updateSide_lastLoss (p : Part) (l m : Lane) : (p.updateSide l).lastLoss m = p.lastLoss m := by
  rw [Part.lastLoss_eq_side, Part.lastLoss_eq_side]
  by_cases hm : m.side = l.side
  · rw [hm, p.updateSide_side_self]
  · rw [p.updateSide_side_of_ne hm]

section
variable (p : Part) (l : Lane) (old new : LaneState)

theorem Part.sideNoted_side (d : Side) : ((p.sideNoted l old new).side d).state = (p.side d).state ∧
    ((p.sideNoted l old new).side d).lostSince = (p.side d).lostSince := by
  have hnote : ∀ q : Part, ((q.markSuspect l.side).side d).state = (q.side d).state ∧
      ((q.markSuspect l.side).side d).lostSince = (q.side d).lostSince := by
    intro q
    by_cases hd : d = l.side
    · subst hd
      rw [q.markSuspect_side_self]; exact ⟨rfl, rfl⟩
    · rw [q.markSuspect_side_of_ne hd]; exact ⟨rfl, rfl⟩
  obtain ⟨hstate, hsince, -⟩ := p.noteLoss_side l d
  unfold Part.sideNoted
  dsimp only
  split <;> split
  · exact ⟨(hnote _).1.trans hstate, (hnote _).2.trans hsince⟩
  · exact hnote _
  · exact ⟨hstate, hsince⟩
  · exact ⟨rfl, rfl⟩

@[simp] theorem Part.noteLoss_now : (p.noteLoss l).now = p.now := p.modSide_now _ _
@[simp] theorem Part.noteLoss_log : (p.noteLoss l).log = p.log := p.modSide_log _ _
@[simp] theorem Part.noteLoss_params : (p.noteLoss l).params = p.params := p.modSide_params _ _
@[simp] theorem Part.markSuspect_now (d : Side) : (p.markSuspect d).now = p.now := p.modSide_now _ _
@[simp] theorem Part.markSuspect_log (d : Side) : (p.markSuspect d).log = p.log := p.modSide_log _ _

theorem Part.sideNoted_rest : (p.sideNoted l old new).now = p.now ∧ (p.sideNoted l old new).log = p.log ∧
    (p.sideNoted l old new).lanes = p.lanes := by
  unfold Part.sideNoted
  dsimp only
  split <;> split <;> simp

theorem Part.sideNoted_lastLoss (m : Lane) : (p.sideNoted l old new).lastLoss m =
    if m = l ∧ old.inService = true ∧ new.inService = false then some p.now else p.lastLoss m := by
  have hnote : (if old.inService = true ∧ new.inService = false then p.noteLoss l else p).lastLoss m =
      if m = l ∧ old.inService = true ∧ new.inService = false then some p.now else p.lastLoss m := by
    by_cases hout : old.inService = true ∧ new.inService = false
    · simp [hout, p.noteLoss_lastLoss]
    · simp [hout]
  unfold Part.sideNoted
  dsimp only
  split
  · exact (Part.markSuspect_lastLoss _ _ _).trans hnote
  · exact hnote

/-- The last loss times after a lane's change of state (R103). -/
theorem Part.sideTakes_lastLoss (m : Lane) : (p.sideTakes l old new).lastLoss m =
    if m = l ∧ old.inService = true ∧ new.inService = false then some p.now else p.lastLoss m := by
  rw [Part.sideTakes_eq, Part.updateSide_lastLoss, Part.sideNoted_lastLoss]

/-- When a side was lost, after a change of state at one of its lanes (R103). -/
theorem Part.sideTakes_lostSince : ((p.sideTakes l old new).side l.side).lostSince =
    if (p.side l.side).state ≠ .lost ∧ p.derivedSide l.side = .lost then p.now else (p.side l.side).lostSince := by
  obtain ⟨hstate, hsince⟩ := p.sideNoted_side l old new l.side
  obtain ⟨hnow, -, hlanes⟩ := p.sideNoted_rest l old new
  rw [Part.sideTakes_eq, Part.updateSide_side_self, hstate, hsince, hnow, Part.derivedSide_of_lanes hlanes]

/-- The suspect mark at an entry to DOWN or HELD (R105). -/
theorem Part.sideTakes_suspectUntil (h : new = .down ∨ new = .held) :
    ((p.sideTakes l old new).side l.side).suspectUntil =
      if p.params.suspectWindow = 0 then none else some (p.now + p.params.suspectWindow * 1000) := by
  rw [Part.sideTakes_eq, Part.updateSide_side_self, Part.sideNoted, if_pos h, Part.markSuspect_side_self]
  dsimp only
  split <;> simp

/-- What a lane's change of state makes its side log (R104). -/
theorem Part.sideTakes_log : (p.sideTakes l old new).log =
    if (p.side l.side).state ≠ .lost ∧ p.derivedSide l.side = .lost then
      p.log.take .sideLost (some l) none (p.lostDetail l) p.timeCounter
    else if (p.side l.side).state = .lost ∧ p.derivedSide l.side ≠ .lost then
      p.log.take .sideRestored (some l) none (wholeMs (p.now - (p.side l.side).lostSince)) p.timeCounter
    else p.log := by
  obtain ⟨hstate, hsince⟩ := p.sideNoted_side l old new l.side
  obtain ⟨hnow, hlog, hlanes⟩ := p.sideNoted_rest l old new
  have hsibling : (p.sideNoted l old new).lostDetail l = p.lostDetail l := by
    rw [Part.lostDetail, p.sideNoted_lastLoss, if_neg fun h => Lane.sibling_ne l h.1, hnow]
    rfl
  rw [Part.sideTakes_eq, Part.updateSide_log, hstate, hsince, hnow, hlog, hsibling, Part.derivedSide_of_lanes hlanes,
    show (p.sideNoted l old new).timeCounter = p.timeCounter by rw [Part.timeCounter, hnow]; rfl]

end

end Sys2Proof.Machine
end

section
/-! A lane's entry to DOWN, to HELD and to ACTIVE (O27, O28, O30, O33). -/

namespace Sys2Proof.Machine

/-! ### The streams of a lane that leaves service (R66, R115) -/

theorem Part.streamsTake_of_exit (p : Part) (l : Lane) {old new : LaneState} (hold : old.inService = true)
    (hnew : new.inService = false) : (p.failoverAll l).Retimed (p.streamsTake l old new) := by
  have hactive : ¬(new = .active ∧ old ≠ .active) := by
    rintro ⟨rfl, -⟩
    exact Bool.false_ne_true hnew.symm
  unfold Part.streamsTake
  dsimp only
  rw [if_neg hactive, if_pos ⟨hold, hnew⟩]
  exact Part.retimed_judgeReturns _ l

/-- The streams after a lane's exit from service: those it carried have failed over, and the others keep all but their
return timer. -/
theorem Part.streamsTake_stream_of_exit (p : Part) (l : Lane) {old new : LaneState} (hold : old.inService = true)
    (hnew : new.inService = false) (n : StreamId) : (p.streamsTake l old new).stream n =
      { (if (p.stream n).carrier = some l then p.failedOver l (p.stream n) else p.stream n) with
        returnTimer := ((p.streamsTake l old new).stream n).returnTimer } := by
  rw [← p.failoverAll_stream l n]
  exact (p.streamsTake_of_exit l hold hnew).stream n

/-- No stream is left on a lane that leaves service. -/
theorem Part.streamsTake_carrier_of_exit {p : Part} {l : Lane} {old new : LaneState} (hold : old.inService = true)
    (hnew : new.inService = false) (hl : (p.lane l).state.inService = false) (n : StreamId) :
    ((p.streamsTake l old new).stream n).carrier ≠ some l := by
  rw [p.streamsTake_stream_of_exit l hold hnew n]
  dsimp only
  split
  · rw [Part.failedOver, StreamRec.rebound_carrier]
    exact fun hc => Bool.false_ne_true (hl.symm.trans (Part.choose_inService hc))
  · next h => exact h

/-! ### O33: storm reports -/

/-- The record of a lane in service at its entry to HELD (R66, R81). -/
theorem LaneRec.moved_to_held (r : LaneRec) (h : r.state.inService = true) : r.moved .held =
    { r with state := .held, queue := [], restartPending := false,
             timers := { r.timers with pause := none, storm := none } } := by
  unfold LaneRec.moved
  rw [h]
  rfl

theorem Part.hold_lane_self {p : Part} {l : Lane} (h : (p.lane l).state.inService = true) : (p.hold l).lane l =
    { p.lane l with state := .held, queue := [], restartPending := false,
                    timers := ({ (p.lane l).timers with pause := none, storm := none } : Timers).inHeld p.now
                      p.params.beatUs } := by
  rw [Part.hold, Part.changeLane_lane_of_apart _ _ _ _ (laneEvent_lanes _ _ _)]
  · rw [LaneRec.moved_to_held _ h]
  · rw [LaneRec.moved_to_held _ h]
    exact ⟨rfl, fun f hf => by cases hf⟩

theorem Part.hold_carrier {p : Part} {l : Lane} (h : (p.lane l).state.inService = true) (n : StreamId) :
    ((p.hold l).stream n).carrier ≠ some l := by
  unfold Part.hold Part.changeLane
  refine Part.streamsTake_carrier_of_exit h rfl ?_ n
  rw [Part.moveLane_lane_self _ _ _ _ (laneEvent_lanes _ _ _), LaneRec.moved_to_held _ h]
  rfl

theorem Part.hold_counter (p : Part) (l : Lane) {c : CounterId} (hc : c.notBindings) :
    (p.hold l).counter c = p.counter c := p.changeLane_counter l _ _ (fun _ => rfl) hc

/-- A lane that has taken a storm report, before the limit is judged (R81). -/
def Part.stormCounted (p : Part) (l : Lane) : Part :=
  (p.modLane l (fun r => { r with storm := r.storm + 1 })).raise (.lane l .stormReports)

theorem Part.stormCounted_lane_self (p : Part) (l : Lane) :
    (p.stormCounted l).lane l = { p.lane l with storm := (p.lane l).storm + 1 } := by
  rw [Part.stormCounted, Part.raise_lane, Part.modLane_lane_self]

theorem Part.stormTaken_eq {p : Part} {l : Lane} (h : (p.lane l).state.inService = true) : p.stormTaken l =
    if p.params.stormRewinds ≤ (p.lane l).storm + 1 then (p.stormCounted l).hold l else p.stormCounted l := by
  unfold Part.stormTaken
  rw [if_pos h]
  dsimp only
  rw [← Part.stormCounted, p.stormCounted_lane_self, show (p.stormCounted l).params = p.params from Part.raise_params _ _]

/-- Settles O33. -/
theorem stormReportsHold : Obligations.StormReportsHold := by
  intro p w l hu
  refine ⟨(p.takeReport (.storm l)).stormTaken l, rfl, ?_, fun hact hdeg => ?_, fun hs => ?_⟩
  · unfold Part.stormTaken
    split
    · dsimp only
      split
      · exact (Part.laneWork_hold _ l).completions.trans (Part.raise_completions _ _)
      · exact Part.raise_completions _ _
    · rfl
  · have hout : ¬((p.takeReport (.storm l)).lane l).state.inService = true :=
      fun h => ((LaneState.inService_iff _).mp h).elim hact hdeg
    rw [Part.stormTaken, if_neg hout]
    exact ⟨rfl, rfl, rfl⟩
  · have hin : ((p.takeReport (.storm l)).lane l).state.inService = true := (LaneState.inService_iff _).mpr hs
    have hself := (p.takeReport (.storm l)).stormCounted_lane_self l
    have hcounter : ((p.takeReport (.storm l)).stormCounted l).counter (.lane l .stormReports) =
        p.counter (.lane l .stormReports) + 1 := Part.raise_counter_self _ _
    have hnow : ((p.takeReport (.storm l)).stormCounted l).now = p.now := Part.raise_now _ _
    have hin' : (((p.takeReport (.storm l)).stormCounted l).lane l).state.inService = true := by rw [hself]; exact hin
    have heq := Part.stormTaken_eq hin
    by_cases hlimit : (p.takeReport (.storm l)).params.stormRewinds ≤ ((p.takeReport (.storm l)).lane l).storm + 1
    · rw [if_pos hlimit] at heq
      rw [heq]
      have hlane := Part.hold_lane_self hin'
      refine ⟨?_, ?_, fun hlow => absurd hlow (Nat.not_lt.mpr hlimit), fun _ => ⟨?_, ?_, ?_, ?_, ?_⟩⟩
      · rw [hlane, hself]; rfl
      · rw [Part.hold_counter _ l (CounterId.notBindings_lane l _), hcounter]
      · rw [hlane]
      · rw [hlane, hnow]; rfl
      · rw [hlane]; rfl
      · rw [hlane]
      · exact Part.hold_carrier hin'
    · rw [if_neg hlimit] at heq
      rw [heq]
      refine ⟨?_, hcounter, fun _ => ⟨?_, ?_, ?_, fun m hm => ?_⟩, fun hhigh => absurd hhigh hlimit⟩
      · rw [hself]; rfl
      · rw [hself]; rfl
      · exact Part.raise_engine _ _
      · exact Part.raise_lane_counter_log (p := (p.takeReport (.storm l)).modLane l _) hu.2.1 l _
      · rw [Part.stormCounted, Part.raise_lane]
        exact (p.takeReport (.storm l)).modLane_lane_of_ne hm _

/-! ### O27: LINK_LOSS -/

/-- The record of a lane forced to DOWN (R66, R82, R92). -/
theorem Part.forceDown_lane_self (p : Part) (l : Lane) (cause : DownCause) : (p.forceDown l cause).lane l =
    { p.lane l with
      state := .down, queue := [], checker := none,
      timers := { Timers.stopped with holdDown := some (p.now + p.params.holdDown * 10000) },
      restartPending := if (p.lane l).state.inService then false else (p.lane l).restartPending,
      figure := if (p.lane l).state.inService then 1023 else (p.lane l).figure } := by
  rw [Part.forceDown, Part.enterDown_lane_self, Part.modLane_lane_self]
  rfl

theorem Part.forceDown_lane_state_of_ne (p : Part) {l m : Lane} (h : m ≠ l) (cause : DownCause) :
    ((p.forceDown l cause).lane m).state = (p.lane m).state := by
  rw [Part.forceDown, Part.enterDown_lane_of_ne _ h, Part.modLane_lane_of_ne _ h]

theorem Part.loseLine_of_idle {p : Part} {l : Lane} (h : (p.lane l).state ∈ [LaneState.off, .quiet, .down]) :
    p.loseLine l = p := by
  unfold Part.loseLine
  cases hs : (p.lane l).state <;> simp [hs] at h ⊢

theorem Part.loseLine_of_up {p : Part} {l : Lane}
    (h : (p.lane l).state ∈ [LaneState.training, .qualify, .active, .degraded, .held]) :
    p.loseLine l = p.forceDown l .linkLoss := by
  unfold Part.loseLine
  cases hs : (p.lane l).state <;> simp [hs] at h ⊢

/-- The part with a lane's figure forced for an entry to DOWN (R92). -/
def Part.forced (p : Part) (l : Lane) : Part :=
  p.modLane l (fun r => { r with figure := if r.state.inService then 1023 else r.figure })

theorem Part.forceDown_eq (p : Part) (l : Lane) (cause : DownCause) : p.forceDown l cause = (p.forced l).enterDown l cause 0 :=
  rfl

@[simp] theorem Part.forced_lane_state (p : Part) (l m : Lane) : ((p.forced l).lane m).state = (p.lane m).state := by
  by_cases hm : m = l
  · subst hm; rw [Part.forced, Part.modLane_lane_self]
  · rw [Part.forced, Part.modLane_lane_of_ne _ hm]

/-- The part at a lane's entry to DOWN, before its side is judged. -/
def Part.downNoted (p : Part) (l : Lane) (cause : DownCause) (low : Nat) : Part :=
  laneEvent .laneDown l (bytePair cause.code low)
    ((p.modLane l (fun r => { r.moved .down with
      timers := { Timers.stopped with holdDown := some (p.now + p.params.holdDown * 10000) } })).raise
        (.lane l .downEntries))

section
variable (p : Part) (l : Lane) (cause : DownCause) (low : Nat)

theorem Part.downLane_eq : p.downLane l cause low =
    (p.downNoted l cause low).sideTakes l (p.lane l).state .down := rfl

theorem Part.downNoted_rest : (p.downNoted l cause low).now = p.now ∧ (p.downNoted l cause low).params = p.params ∧
    (p.downNoted l cause low).sides = p.sides ∧ (p.downNoted l cause low).timeCounter = p.timeCounter := by
  have hnow : (p.downNoted l cause low).now = p.now := Part.raise_now _ _
  refine ⟨hnow, Part.raise_params _ _, Part.raise_sides _ _, ?_⟩
  rw [Part.timeCounter, hnow]
  rfl

theorem Part.downNoted_derivedSide : (p.downNoted l cause low).derivedSide l.side =
    if (p.lane l.sibling).state.inService then .impaired else .lost := by
  have hlane : ∀ m, (p.downNoted l cause low).lane m = (p.modLane l (fun r => { r.moved .down with
      timers := { Timers.stopped with holdDown := some (p.now + p.params.holdDown * 10000) } })).lane m :=
    fun m => Part.raise_lane _ _ m
  rw [Part.derivedSide_of_out, hlane, Part.modLane_lane_of_ne _ (Lane.sibling_ne l)]
  rw [hlane, Part.modLane_lane_self, LaneRec.moved_of_out _ (.inr (.inl rfl))]
  rfl

theorem Part.downNoted_log {p : Part} (hu : p.unwatched) (l : Lane) (cause : DownCause) (low : Nat) :
    (p.downNoted l cause low).log =
      p.log.take .laneDown (some l) none (bytePair cause.code low) p.timeCounter := by
  obtain ⟨-, -, -, htime⟩ := p.downNoted_rest l cause low
  have hlog : ((p.modLane l (fun r => { r.moved .down with
      timers := { Timers.stopped with holdDown := some (p.now + p.params.holdDown * 10000) } })).raise
        (.lane l .downEntries)).log = p.log := Part.raise_lane_counter_log (p := p.modLane l _) hu.2.1 l _
  rw [← htime]
  exact congrArg (fun log : EventLog => log.take .laneDown (some l) none (bytePair cause.code low)
    (p.downNoted l cause low).timeCounter) hlog

theorem Part.enterDown_sides : (p.enterDown l cause low).sides = (p.downLane l cause low).sides :=
  (Part.streamsOnly_streamsTake _ l _ .down).sides

theorem Part.enterDown_lastLoss (m : Lane) : (p.enterDown l cause low).lastLoss m =
    if m = l ∧ (p.lane l).state.inService = true then some p.now else p.lastLoss m := by
  have hsides : ∀ {q r : Part}, q.sides = r.sides → q.lastLoss m = r.lastLoss m := by
    intro q r h; cases m <;> simp [Part.lastLoss, h]
  obtain ⟨hnow, -, hs, -⟩ := p.downNoted_rest l cause low
  rw [hsides (p.enterDown_sides l cause low), Part.downLane_eq, Part.sideTakes_lastLoss, hnow, hsides hs]
  simp only [show LaneState.down.inService = false from rfl, and_true]

theorem Part.enterDown_side (d : Side) : (p.enterDown l cause low).side d = (p.downLane l cause low).side d :=
  (Part.streamsOnly_streamsTake _ l _ .down).side d

theorem Part.enterDown_side_state : ((p.enterDown l cause low).side l.side).state =
    if (p.lane l.sibling).state.inService then .impaired else .lost := by
  rw [Part.enterDown_side, Part.downLane_eq, Part.sideTakes_side_state, if_pos rfl, Part.downNoted_derivedSide]

theorem Part.sides_side {p q : Part} (h : q.sides = p.sides) (d : Side) : q.side d = p.side d := by
  cases d <;> simp [Part.side, h]

theorem Part.enterDown_suspectUntil : ((p.enterDown l cause low).side l.side).suspectUntil =
    if p.params.suspectWindow = 0 then none else some (p.now + p.params.suspectWindow * 1000) := by
  obtain ⟨hnow, hparams, -, -⟩ := p.downNoted_rest l cause low
  rw [Part.enterDown_side, Part.downLane_eq, Part.sideTakes_suspectUntil _ _ _ _ (.inl rfl), hnow, hparams]

theorem Part.enterDown_lostSince : ((p.enterDown l cause low).side l.side).lostSince =
    if (p.side l.side).state ≠ .lost ∧ (p.lane l.sibling).state.inService = false then p.now
    else (p.side l.side).lostSince := by
  obtain ⟨hnow, -, hs, -⟩ := p.downNoted_rest l cause low
  rw [Part.enterDown_side, Part.downLane_eq, Part.sideTakes_lostSince, Part.downNoted_derivedSide, hnow,
    Part.sides_side hs]
  cases (p.lane l.sibling).state.inService <;> simp

end

theorem Part.downLane_engine (p : Part) (l : Lane) (cause : DownCause) (low : Nat) :
    (p.downLane l cause low).engine = p.engine := by
  rw [Part.downLane_eq, Part.sideTakes_engine, Part.downNoted, laneEvent_engine, Part.raise_engine, Part.modLane_engine]

theorem Part.downLane_stream (p : Part) (l : Lane) (cause : DownCause) (low : Nat) (n : StreamId) :
    (p.downLane l cause low).stream n = p.stream n := by
  rw [Part.stream, Part.downLane_engine]
  rfl

/-- What an unwatched lane that carries no stream logs at its entry to DOWN (R67, R104). -/
theorem Part.enterDown_log {p : Part} (hu : p.unwatched) {l : Lane} (hfree : ∀ n, (p.stream n).carrier ≠ some l)
    (cause : DownCause) (low : Nat) : (p.enterDown l cause low).log =
      if (p.side l.side).state ≠ .lost ∧ (p.lane l.sibling).state.inService = false then
        (p.log.take .laneDown (some l) none (bytePair cause.code low) p.timeCounter).take .sideLost (some l) none
          (p.lostDetail l) p.timeCounter
      else if (p.side l.side).state = .lost ∧ (p.lane l.sibling).state.inService = true then
        (p.log.take .laneDown (some l) none (bytePair cause.code low) p.timeCounter).take .sideRestored (some l) none
          (wholeMs (p.now - (p.side l.side).lostSince)) p.timeCounter
      else p.log.take .laneDown (some l) none (bytePair cause.code low) p.timeCounter := by
  obtain ⟨hnow, -, hs, htime⟩ := p.downNoted_rest l cause low
  have hstream := p.downLane_stream l cause low
  have hlog : (p.enterDown l cause low).log = (p.downLane l cause low).log :=
    ((p.downLane l cause low).streamsTake_of_not_carried l (p.lane l).state .down (by decide)
      fun n => by rw [hstream]; exact hfree n).log
  have hdetail : (p.downNoted l cause low).lostDetail l = p.lostDetail l := by
    have hloss : (p.downNoted l cause low).lastLoss l.sibling = p.lastLoss l.sibling := by
      rw [Part.lastLoss_eq_side, Part.lastLoss_eq_side, Part.sides_side hs]
    rw [Part.lostDetail, Part.lostDetail, hloss, hnow]
  rw [hlog, Part.downLane_eq, Part.sideTakes_log, Part.downNoted_derivedSide, Part.downNoted_log hu, hnow, htime, hdetail,
    Part.sides_side hs]
  cases (p.lane l.sibling).state.inService <;> simp

/-- The part of a link loss that takes its lane down, as it stands before that (R80, R92). -/
def Part.lineLost (p : Part) (l : Lane) : Part := (p.raise (.lane l .linkLosses)).forced l

section
variable (p : Part) (l : Lane)

theorem Part.lineLost_rest : (p.lineLost l).now = p.now ∧ (p.lineLost l).params = p.params ∧
    (p.lineLost l).timeCounter = p.timeCounter ∧ (p.lineLost l).completions = p.completions ∧
    (p.lineLost l).intake = p.intake := by
  have hnow : (p.lineLost l).now = p.now := p.raise_now _
  refine ⟨hnow, p.raise_params _, ?_, p.raise_completions _, p.raise_intake _⟩
  rw [Part.timeCounter, hnow]
  rfl

theorem Part.lineLost_side (d : Side) : (p.lineLost l).side d = p.side d := Part.sides_side (p.raise_sides _) d
theorem Part.lineLost_stream (n : StreamId) : (p.lineLost l).stream n = p.stream n := p.raise_stream _ n
theorem Part.lineLost_lane_state (m : Lane) : ((p.lineLost l).lane m).state = (p.lane m).state := by
  rw [Part.lineLost, Part.forced_lane_state, Part.raise_lane]
theorem Part.lineLost_lane_self : (p.lineLost l).lane l =
    { p.lane l with figure := if (p.lane l).state.inService then 1023 else (p.lane l).figure } := by
  rw [Part.lineLost, Part.forced, Part.modLane_lane_self, Part.raise_lane]
theorem Part.lineLost_lane_of_ne {m : Lane} (h : m ≠ l) : (p.lineLost l).lane m = p.lane m := by
  rw [Part.lineLost, Part.forced, Part.modLane_lane_of_ne _ h, Part.raise_lane]
theorem Part.lineLost_lastLoss (m : Lane) : (p.lineLost l).lastLoss m = p.lastLoss m := by
  rw [Part.lastLoss_eq_side, Part.lastLoss_eq_side, p.lineLost_side]
theorem Part.lineLost_counter : (p.lineLost l).counter (.lane l .linkLosses) = p.counter (.lane l .linkLosses) + 1 :=
  p.raise_counter_self _
theorem Part.lineLost_log {p : Part} (hu : p.unwatched) (l : Lane) : (p.lineLost l).log = p.log :=
  Part.raise_lane_counter_log hu.2.1 l _

end

theorem exec_linkLoss_of_up {p : Part} {l : Lane}
    (h : (p.lane l).state ∈ [LaneState.training, .qualify, .active, .degraded, .held]) (w : List Instr) :
    exec (.linkLoss l) ⟨p, w⟩ = .next ⟨(p.lineLost l).enterDown l .linkLoss 0, w⟩ := by
  have hlose : (p.raise (.lane l .linkLosses)).loseLine l = (p.lineLost l).enterDown l .linkLoss 0 :=
    Part.loseLine_of_up (p := p.raise (.lane l .linkLosses)) (by rw [Part.raise_lane]; exact h)
  exact congrArg (fun q => Host.Outcome.next (State.mk q w)) hlose

theorem inService_eq_false_iff (s : LaneState) : s.inService = false ↔ s ≠ .active ∧ s ≠ .degraded := by
  cases s <;> simp [LaneState.inService]

theorem out_of_lost_side {s : SideState} {up : Bool} (h : s = if up then .impaired else .lost)
    (hlost : s = .lost) : up = false := by
  cases up with
  | true => rw [hlost] at h; exact absurd h (by decide)
  | false => rfl

/-- Settles O27. -/
theorem linkLossTakesDown : Obligations.LinkLossTakesDown := by
  intro p w l hu
  by_cases hidle : (p.lane l).state ∈ [LaneState.off, .quiet, .down]
  · have hlose : (p.raise (.lane l .linkLosses)).loseLine l = p.raise (.lane l .linkLosses) :=
      Part.loseLine_of_idle (by rw [Part.raise_lane]; exact hidle)
    refine ⟨p.raise (.lane l .linkLosses), congrArg (fun q => Host.Outcome.next (State.mk q w)) hlose,
      p.raise_completions _, p.raise_intake _, p.raise_counter_self _,
      fun _ => ⟨p.raise_lanes _, p.raise_engine _, Part.raise_lane_counter_log hu.2.1 l _, p.raise_sides _⟩,
      fun hup => ?_⟩
    cases hs : (p.lane l).state <;> simp [hs] at hidle hup
  · have hup : (p.lane l).state ∈ [LaneState.training, .qualify, .active, .degraded, .held] := by
      cases hs : (p.lane l).state <;> simp [hs] at hidle ⊢
    obtain ⟨hnow, hparams, htime, hcompletions, hintake⟩ := p.lineLost_rest l
    have hwork := (p.lineLost l).laneWork_enterDown l .linkLoss 0
    have hlane := (p.lineLost l).enterDown_lane_self l .linkLoss 0
    have hsiblingState := p.lineLost_lane_state l l.sibling
    have hside : (((p.lineLost l).enterDown l .linkLoss 0).side l.side).state =
        if (p.lane l.sibling).state.inService then .impaired else .lost := by
      rw [Part.enterDown_side_state, hsiblingState]
    have hsince := (p.lineLost l).enterDown_lostSince l .linkLoss 0
    rw [p.lineLost_side, hsiblingState, hnow] at hsince
    have hlog := fun hfree : ∀ n, (p.stream n).carrier ≠ some l => Part.enterDown_log (p := p.lineLost l) (hu.of_params hparams) (l := l)
      (fun n => by rw [p.lineLost_stream]; exact hfree n) .linkLoss 0
    rw [p.lineLost_side, hsiblingState, Part.lineLost_log hu, htime] at hlog
    refine ⟨_, exec_linkLoss_of_up hup w, hwork.completions.trans hcompletions, hwork.intake.trans hintake, ?_,
      fun h => absurd h hidle, fun _ => ⟨?_, ?_, ?_, ?_, ?_, ?_, ?_, fun m hm => ⟨?_, ?_⟩, fun hact hdeg => ?_,
        fun hs => ⟨?_, ?_, fun hlost hwas => ⟨?_, fun hfree => ?_⟩, fun hkept => ⟨?_, fun hfree himpaired hwas => ?_⟩⟩⟩⟩
    · rw [Part.enterDown_counter _ l _ _ (CounterId.notMoves_lane l (by decide)), p.lineLost_counter]
    · rw [hlane]
    · rw [hlane]
    · rw [hlane]
    · rw [hlane, hnow, hparams]
    · rw [hlane, p.lineLost_lane_self]
      simp [LaneState.inService_iff]
    · rw [Part.enterDown_suspectUntil, hnow, hparams]
    · rw [Part.enterDown_downEntries]
      exact congrArg (· + 1) ((p.raise (.lane l .linkLosses)).modLane_counter l _ _ |>.trans (p.raise_counter_of_ne (by simp)))
    · rw [Part.enterDown_lane_of_ne _ hm, p.lineLost_lane_of_ne l hm]
    · rw [Part.enterDown_lastLoss, if_neg fun h => hm h.1, p.lineLost_lastLoss]
    · rw [Part.enterDown_lastLoss, p.lineLost_lane_state, (inService_eq_false_iff _).mpr ⟨hact, hdeg⟩, p.lineLost_lastLoss]
      simp
    · rw [Part.enterDown_lastLoss, p.lineLost_lane_state, if_pos ⟨rfl, (LaneState.inService_iff _).mpr hs⟩, hnow]
    · rw [hside]
      simp [LaneState.inService_iff]
    · have hout := out_of_lost_side hside hlost
      rw [hsince, if_pos ⟨hwas, hout⟩]
    · have hout := out_of_lost_side hside hlost
      rw [hlog hfree, if_pos ⟨hwas, hout⟩, Part.lostDetail, p.lineLost_lastLoss, hnow]
      rfl
    · rw [hsince, if_neg]
      rintro ⟨hwas, hout⟩
      rcases hkept with h | h
      · exact h (hside.trans (by simp [hout]))
      · exact hwas h
    · rw [hlog hfree, if_neg, if_neg fun h => hwas h.1]
      · rfl
      · rintro ⟨-, hout⟩
        rw [hside, hout] at himpaired
        exact absurd himpaired (by decide)

/-! ### O28: failover -/

/-- What a failover leaves of a stream (R114, R115, R125). -/
theorem Part.failedOver_spec (p : Part) (l : Lane) (r : StreamRec) :
    (((p.failedOver l r).state = .binding ∧ ∃ m, (p.failedOver l r).carrier = some m ∧
        ((p.lane m).state = .active ∨ (p.lane m).state = .degraded) ∧ (p.lane m).pin ≠ .out ∧
        (p.lane m).partnerLeaving = false ∧ (p.lane m).restartPending = false) ∨
      (p.failedOver l r).state = .stalled ∧ (p.failedOver l r).carrier = none ∧
        (p.failedOver l r).stallDeadline ≠ none) := by
  unfold Part.failedOver
  cases hc : p.choose r.preferred (r.lostCarrier l).tried ⟨r.manualTarget, none⟩ with
  | none => exact .inr ⟨rfl, rfl, by simp [StreamRec.rebound, StreamRec.stalledBy]⟩
  | some m =>
    obtain ⟨hs, hpin, hleaving, hrestart, -, -⟩ := (p.eligible_iff _ _ _).mp (p.choose_eligible _ _ _ m hc)
    exact .inl ⟨rfl, m, rfl, hs, hpin, hleaving, hrestart⟩

theorem Part.failedOver_keeps (p : Part) (l : Lane) (r : StreamRec) : (p.failedOver l r).epoch = r.epoch + 1 ∧
    (p.failedOver l r).nextSeq = r.nextSeq ∧ (p.failedOver l r).mark = r.mark ∧ (p.failedOver l r).hold = r.hold ∧
    (p.failedOver l r).inflight = r.inflight.map OttEntry.requeued := by
  simp [Part.failedOver, StreamRec.lostCarrier]

/-- Settles O28. -/
theorem linkLossFailsOver : Obligations.LinkLossFailsOver := by
  intro p w l hs
  have hup : (p.lane l).state ∈ [LaneState.training, .qualify, .active, .degraded, .held] := by
    rcases hs with h | h <;> rw [h] <;> decide
  have hin : ((p.lineLost l).lane l).state.inService = true := by
    rw [p.lineLost_lane_state]; exact (LaneState.inService_iff _).mpr hs
  have hstream := fun n => ((p.lineLost l).downLane_stream l .linkLoss 0 n).trans (p.lineLost_stream l n)
  have hexit := fun n => ((p.lineLost l).downLane l .linkLoss 0).streamsTake_stream_of_exit l hin (new := .down) rfl n
  refine ⟨_, exec_linkLoss_of_up hup w, fun n hn => ?_, fun n hn => ?_⟩
  · rw [Part.enterDown, hexit n, hstream n, if_pos hn]
    refine ⟨?_, Part.failedOver_keeps ((p.lineLost l).downLane l .linkLoss 0) l (p.stream n)⟩
    rcases Part.failedOver_spec ((p.lineLost l).downLane l .linkLoss 0) l (p.stream n) with
      ⟨hbinding, m, hm, hstate, hpin, hleaving, hrestart⟩ | hstalled
    · have hne : m ≠ l := by
        rintro rfl
        rw [Part.downLane_lane_self] at hstate
        rcases hstate with h | h <;> exact absurd h (by simp)
      rw [Part.downLane_lane_of_ne _ hne, p.lineLost_lane_of_ne l hne] at hstate hpin hleaving hrestart
      exact .inl ⟨hbinding, m, hne, hm, hstate, hpin, hleaving, hrestart⟩
    · exact .inr hstalled
  · rw [Part.enterDown, hexit n, hstream n, if_neg hn]

/-! ### O30: the end of a burst -/

/-- The record of a lane at its entry to ACTIVE from QUALIFY (R77, R81). -/
theorem Part.qualified_lane_self (p : Part) (l : Lane) : (p.qualified l).lane l =
    { ({ p.lane l with state := .active } : LaneRec).freshStorm p.now with
      figure := 0, latency := 100, requalify := 0, queue := ((p.qualified l).lane l).queue } := by
  rw [Part.qualified, Part.changeLane_lane_self _ _ _ _ (laneEvent_lanes _ _ _), LaneRec.moved_of_service _ rfl]

/-- A failed burst counted (R77). -/
def Part.failedBurst (p : Part) (l : Lane) : Part :=
  (p.raise (.lane l .qualifyFailures)).modLane l (fun r => { r with requalify := r.requalify + 1 })

theorem Part.failedBurst_lane_self (p : Part) (l : Lane) :
    (p.failedBurst l).lane l = { p.lane l with requalify := (p.lane l).requalify + 1 } := by
  rw [Part.failedBurst, Part.modLane_lane_self, Part.raise_lane]

theorem Part.qualifyFail_eq (p : Part) (l : Lane) : p.qualifyFail l =
    if 3 ≤ (p.lane l).requalify + 1 then
      (p.failedBurst l).enterOff l .retired (laneEvent .laneRetired l (sat16 (p.lane l).errorBytes))
    else (p.failedBurst l).enterDown l .qualifyFailed (p.lane l).errorBytes := by
  unfold Part.qualifyFail
  dsimp only
  rw [← Part.failedBurst, p.failedBurst_lane_self]

/-- A burst at its end: the lane is judged, and its checker, error bytes and qualify timer stay (R77). -/
theorem Part.judgeQualify_lane (p : Part) (l : Lane) :
    (p.lane l).afterBurst p.params.qualTolerance (p.lane l).errorBytes ((p.judgeQualify l).lane l) ∧
    ((p.lane l).checker = none → ((p.judgeQualify l).lane l).checker = none) ∧
    ((p.judgeQualify l).lane l).errorBytes = (p.lane l).errorBytes ∧
    ((p.lane l).timers.qualify = none → ((p.judgeQualify l).lane l).timers.qualify = none) := by
  unfold Part.judgeQualify LaneRec.afterBurst
  by_cases hpass : (p.lane l).errorBytes ≤ p.params.qualTolerance
  · rw [if_pos hpass, if_pos hpass, Part.qualified_lane_self, Part.raise_lane]
    exact ⟨⟨rfl, rfl, rfl, rfl, rfl⟩, id, rfl, id⟩
  · rw [if_neg hpass, if_neg hpass, Part.qualifyFail_eq]
    by_cases hlimit : 3 ≤ (p.lane l).requalify + 1
    · rw [if_pos hlimit, if_neg (Nat.not_lt.mpr hlimit), Part.enterOff_lane_self _ _ _ (laneEvent_lanes _ _ _),
        p.failedBurst_lane_self]
      exact ⟨⟨rfl, rfl⟩, fun _ => rfl, rfl, fun _ => rfl⟩
    · rw [if_neg hlimit, if_pos (Nat.lt_of_not_le hlimit), Part.enterDown_lane_self, p.failedBurst_lane_self]
      exact ⟨⟨rfl, rfl⟩, fun _ => rfl, rfl, fun _ => rfl⟩

theorem Part.judgeQualify_completions (p : Part) (l : Lane) : (p.judgeQualify l).completions = p.completions := by
  unfold Part.judgeQualify
  split
  · exact ((Part.laneWork_changeLane _ l .active _ _ (laneWork_laneEvent _ l 1)).completions).trans (p.raise_completions _)
  · rw [Part.qualifyFail_eq]
    split
    · exact (Part.laneWork_enterOff _ l _ _ (laneWork_laneEvent _ l _)).completions.trans (p.raise_completions _)
    · exact (Part.laneWork_enterDown _ l _ _).completions.trans (p.raise_completions _)

/-- A lane's checker and qualify timer as the end of a burst leaves them (R164). -/
def Part.burstOver (p : Part) (l : Lane) : Part :=
  p.modLane l (fun r => { r with checker := none, timers := { r.timers with qualify := none } })

theorem Part.burstOver_lane_self (p : Part) (l : Lane) : (p.burstOver l).lane l =
    { p.lane l with checker := none, timers := { (p.lane l).timers with qualify := none } } := p.modLane_lane_self l _

theorem Part.endBurst_qualify {b : Burst} (h : b.owner = .qualify) (p : Part) (l : Lane) :
    p.endBurst l b = (p.burstOver l).judgeQualify l := by
  unfold Part.endBurst
  rw [h]
  rfl

theorem Part.endBurst_diagnostic {b : Burst} (h : b.owner = .diagnostic) (p : Part) (l : Lane) :
    p.endBurst l b = (p.burstOver l).endDiagnostic l b := by
  unfold Part.endBurst
  rw [h]
  rfl

/-- What the end of a burst leaves of its lane, whoever owns the burst (R77, R164). -/
theorem Part.endBurst_lane (p : Part) (l : Lane) (b : Burst) : ((p.endBurst l b).lane l).checker = none ∧
    ((p.endBurst l b).lane l).errorBytes = (p.lane l).errorBytes ∧
    ((p.endBurst l b).lane l).timers.qualify = none ∧ (p.endBurst l b).completions = p.completions := by
  have hself := p.burstOver_lane_self l
  cases h : b.owner with
  | qualify =>
    obtain ⟨-, hchecker, herr, htimer⟩ := (p.burstOver l).judgeQualify_lane l
    rw [Part.endBurst_qualify h]
    rw [hself] at hchecker herr htimer
    exact ⟨hchecker rfl, herr, htimer rfl, Part.judgeQualify_completions _ l⟩
  | diagnostic =>
    rw [Part.endBurst_diagnostic h]
    show ((p.burstOver l).lane l).checker = _ ∧ ((p.burstOver l).lane l).errorBytes = _ ∧
      ((p.burstOver l).lane l).timers.qualify = _ ∧ _
    rw [hself]
    exact ⟨rfl, rfl, rfl, rfl⟩

/-- The end of a qualification burst judges the lane by its error bytes (R77). -/
theorem Part.endBurst_afterBurst {b : Burst} (h : b.owner = .qualify) (p : Part) (l : Lane) :
    (p.lane l).afterBurst p.params.qualTolerance (p.lane l).errorBytes ((p.endBurst l b).lane l) := by
  have hjudged := ((p.burstOver l).judgeQualify_lane l).1
  rw [p.burstOver_lane_self] at hjudged
  rw [Part.endBurst_qualify h]
  exact hjudged

/-- The part with a lane's error bytes set as a burst that was cut short sets them (R77). -/
def Part.cutShort (p : Part) (l : Lane) (b : Burst) : Part :=
  p.modLane l (fun r => { r with errorBytes := min 255 (r.errorBytes + 64 * (b.length - b.compared)) })

theorem toBigEndian_two (x : Nat) : toBigEndian 2 x = [BitVec.ofNat 8 (x / 256), BitVec.ofNat 8 x] := by
  simp [toBigEndian]

/-- Settles O30. -/
theorem qualifyTimerEnds : Obligations.QualifyTimerEnds := by
  intro p w l t err b htimer hchecker herr
  have hexec : exec (.qualifyTimerExpiry l) ⟨p, w⟩ = .next ⟨((p.reach t).cutShort l b).endBurst l b, w⟩ := by
    have hexpire : p.expire (p.lane l).timers.qualify (fun q =>
        match (q.lane l).checker with
        | some b => q.expireBurst l b
        | none => q) = ((p.reach t).cutShort l b).endBurst l b := by
      rw [htimer]
      show (match (p.lane l).checker with
        | some b => (p.reach t).expireBurst l b
        | none => p.reach t) = _
      rw [hchecker]
      rfl
    exact congrArg (fun q => Host.Outcome.next (State.mk q w)) hexpire
  have hself : ((p.reach t).cutShort l b).lane l = { p.lane l with errorBytes := err } := by
    rw [Part.cutShort, Part.modLane_lane_self, herr]
    rfl
  obtain ⟨hidle, hbytes, hstopped, hcompletions⟩ := Part.endBurst_lane ((p.reach t).cutShort l b) l b
  rw [hself] at hbytes
  refine ⟨_, hexec, hidle, hbytes, hstopped, hcompletions, fun howner _ => ?_, fun howner => ?_⟩
  · have hjudged := Part.endBurst_afterBurst howner ((p.reach t).cutShort l b) l
    rw [hself] at hjudged
    exact hjudged
  · rw [Part.endBurst_diagnostic howner]
    refine ⟨rfl, rfl, ?_, ?_, ?_, rfl, rfl⟩
    · show [BitVec.ofNat 8 ((((p.reach t).cutShort l b).burstOver l).lane l).errorBytes] ++ toBigEndian 2 b.length ++
        toBigEndian 2 b.compared = _
      rw [Part.burstOver_lane_self, hself, toBigEndian_two, toBigEndian_two]
      rfl
    · show ((((p.reach t).cutShort l b).burstOver l).lane l).state = _
      rw [Part.burstOver_lane_self, hself]
    · show ((((p.reach t).cutShort l b).burstOver l).lane l).figure = _
      rw [Part.burstOver_lane_self, hself]

end Sys2Proof.Machine
end

section
/-! Bad and unexpected frames (O15) and the partner states of a BEAT (O24). -/

namespace Sys2Proof.Machine

/-! ### O15: bad and unexpected frames -/

/-- A lane in ACTIVE whose raised figure stays below the thresholds has its figure raised, and nothing else changes
(R90, R94). -/
theorem Part.addWeight_of_quiet {p : Part} {l : Lane} (hs : (p.lane l).state = .active) (hord : p.params.ordered)
    {w : Nat} (hw : (p.lane l).figure + w < p.params.warnLevel) : p.addWeight l w = p.weighted l w := by
  obtain ⟨-, hwd, hd⟩ := hord
  have hself := p.weighted_lane_self l w
  rw [Part.addWeight_of_raised ⟨.inl hs, by omega⟩, Part.evaluate_of_quiet]
  · rw [hself]; exact hs
  · rw [hself]
    show ¬p.params.downLevel ≤ min 1023 _
    omega
  · rw [hself]
    show ¬p.params.warnLevel ≤ min 1023 _
    omega

theorem Part.weighted_lane_of_quiet {p : Part} {l : Lane} (hord : p.params.ordered) {w : Nat}
    (hw : (p.lane l).figure + w < p.params.warnLevel) :
    (p.weighted l w).lane l = { p.lane l with figure := (p.lane l).figure + w } := by
  obtain ⟨-, hwd, hd⟩ := hord
  rw [p.weighted_lane_self, Nat.min_eq_right (by omega)]

/-- What a weight does is a statement about the lanes, the sides, the parameters and the engine. -/
theorem Part.weighs.of_same {p q p' : Part} {l : Lane} {w : Nat} (h : q.weighs p' l w) (hlanes : q.lanes = p.lanes)
    (hparams : q.params = p.params) (hengine : q.engine = p.engine) (hsides : q.sides = p.sides) : p.weighs p' l w := by
  have hlane : ∀ m, q.lane m = p.lane m := fun m => by rw [Part.lane, hlanes]; rfl
  unfold Part.weighs at h ⊢
  simp only [hlane, hparams, hengine, hsides] at h
  exact h

/-- The weight of a frame that fails its check (R44, R90). -/
def badWeight (violation : Bool) : Nat := if violation then 10 else 8

/-- A frame that fails its check counted, with its code violations (R44). -/
def Part.badCounted (p : Part) (l : Lane) (violation : Bool) : Part :=
  if violation then (p.raise (.lane l .badFrames)).raise (.lane l .codeViolationFrames) else p.raise (.lane l .badFrames)

theorem Part.receiveBad_eq (p : Part) (l : Lane) (violation : Bool) :
    p.receiveBad l violation = (p.badCounted l violation).addWeight l (badWeight violation) := by
  cases violation <;> rfl

theorem Part.badCounted_rest (p : Part) (l : Lane) (violation : Bool) :
    (p.badCounted l violation).lanes = p.lanes ∧ (p.badCounted l violation).params = p.params ∧
    (p.badCounted l violation).engine = p.engine ∧ (p.badCounted l violation).sides = p.sides ∧
    (p.badCounted l violation).intake = p.intake ∧ (p.badCounted l violation).completions = p.completions := by
  cases violation <;> simp [Part.badCounted]

theorem Part.badCounted_lane (p : Part) (l : Lane) (violation : Bool) (m : Lane) :
    (p.badCounted l violation).lane m = p.lane m := by
  rw [Part.lane, (p.badCounted_rest l violation).1]; rfl

theorem Part.badCounted_counter (p : Part) (l : Lane) (violation : Bool) :
    (p.badCounted l violation).counter (.lane l .badFrames) = p.counter (.lane l .badFrames) + 1 ∧
    (p.badCounted l violation).counter (.lane l .codeViolationFrames) =
      p.counter (.lane l .codeViolationFrames) + (if violation then 1 else 0) ∧
    (p.badCounted l violation).counter (.lane l .framesReceived) = p.counter (.lane l .framesReceived) := by
  cases violation with
  | true =>
    refine ⟨?_, ?_, ?_⟩ <;> simp only [Part.badCounted, if_true]
    · rw [Part.raise_counter_of_ne _ (by simp), p.raise_counter_self]
    · rw [Part.raise_counter_self, p.raise_counter_of_ne (by simp)]
    · rw [Part.raise_counter_of_ne _ (by simp), p.raise_counter_of_ne (by simp)]
  | false =>
    refine ⟨p.raise_counter_self _, ?_, p.raise_counter_of_ne (by simp)⟩
    exact (p.raise_counter_of_ne (by simp)).trans (by simp)

theorem exec_badFrame {p : Part} {l : Lane} (h : (p.lane l).loopback = false) (violation : Bool) (w : List Instr) :
    exec (.badFrame l violation) ⟨p, w⟩ =
      .next ⟨(p.badCounted l violation).addWeight l (badWeight violation), w⟩ := by
  have harrive := Part.arriveBad_of_not_looped (p := p) (l := l) (by simp [LaneRec.looped, h]) violation
  exact congrArg (fun q => Host.Outcome.next (State.mk q w)) (harrive.trans (p.receiveBad_eq l violation))

/-- A good frame with code violations as its weight finds the part (R44, R45). -/
def Part.violationCounted (p : Part) (l : Lane) : Part :=
  (p.raise (.lane l .framesReceived)).raise (.lane l .codeViolationFrames)

/-- A good frame with code violations as its handling finds the part (R44, R78, R90). -/
def Part.reachedViolated (p : Part) (l : Lane) : Part := ((p.violationCounted l).addWeight l 2).heard l

/-- The thresholds take no lane to OFF (R94). -/
theorem thresholdStateUnder_ne_off (q : Params) (pin : Pin) {s : LaneState} (h : s ≠ .off) (figure : Nat) :
    thresholdStateUnder q pin s figure ≠ .off := by
  have hstate : thresholdState q s figure ≠ .off := by
    unfold thresholdState
    cases s with
    | active | degraded => dsimp only; split_ifs <;> simp
    | off => exact absurd rfl h
    | quiet | training | qualify | held | down => simp
  unfold thresholdStateUnder
  split_ifs
  · exact h
  · exact hstate

theorem Part.addWeight_ne_off {p : Part} {l : Lane} (h : (p.lane l).state ≠ .off) (w : Nat) :
    ((p.addWeight l w).lane l).state ≠ .off := by
  obtain ⟨hraised, hnot, -⟩ := p.weighs_addWeight l w
  by_cases hr : ((p.lane l).state = .active ∨ (p.lane l).state = .degraded) ∧ (p.lane l).figure < 1023
  · rw [(hraised hr).2]; exact thresholdStateUnder_ne_off _ _ h _
  · rw [(hnot hr).2]; exact h

theorem Part.violationCounted_lane (p : Part) (l m : Lane) : (p.violationCounted l).lane m = p.lane m := by
  simp [Part.violationCounted]

theorem Part.heard_lane_self (p : Part) (l : Lane) : (p.heard l).lane l = { p.lane l with
    timers := { (p.lane l).timers with
      silence := if (p.lane l).state.isUp then some (p.now + 2 * p.params.beatUs) else (p.lane l).timers.silence } } :=
  p.modLane_lane_self l _
theorem Part.heard_lane_of_ne (p : Part) {l m : Lane} (h : m ≠ l) : (p.heard l).lane m = p.lane m :=
  p.modLane_lane_of_ne h _

theorem Part.reachedViolated_state (p : Part) (l : Lane) :
    ((p.reachedViolated l).lane l).state = (((p.violationCounted l).addWeight l 2).lane l).state := by
  rw [Part.reachedViolated, Part.heard_lane_self]

/-- A good frame with code violations outside OFF is counted, weighs, restarts the silence timer and is handled by its
kind (R44, R45, R78, R90). -/
theorem Part.arrive_violated {p : Part} {l : Lane} (h : (p.lane l).state ≠ .off) (f : Frame) :
    p.arrive l f true = (p.reachedViolated l).inService l f := by
  have hoff : ((p.reachedViolated l).lane l).state ≠ .off := by
    rw [Part.reachedViolated_state]
    exact Part.addWeight_ne_off (by rw [Part.violationCounted_lane]; exact h) 2
  have hloop : ((p.reachedViolated l).lane l).looped = false := LaneRec.looped_of_state hoff
  rw [Part.arrive_of_not_looped (LaneRec.looped_of_state h), Part.receive]
  exact (if_neg fun hc => Bool.false_ne_true (hloop.symm.trans hc)).trans (if_neg hoff)

/-- An unexpected kind is counted and discarded (R45). -/
theorem Part.inService_unexpected (p : Part) (l : Lane) (k : UnexpectedKind) (h : Header) (payload : List Byte) :
    p.inService l { kind := unexpectedKind k, header := h, payload } = p.raise (.lane l .unexpectedFrames) := by
  have hd : destined (unexpectedKind k) = false := by cases k <;> rfl
  have hm : malformedFrame { kind := unexpectedKind k, header := h, payload } = false := by cases k <;> rfl
  unfold Part.inService
  rw [if_neg (by simp [hd]), hm]
  cases k <;> rfl

/-- What a raise or a heard frame leaves of what a weight has done. -/
theorem Part.weighs.heard {p q : Part} {l : Lane} {w : Nat} (h : p.weighs q l w) : p.weighs (q.heard l) l w := by
  obtain ⟨hraised, hnot, hsame⟩ := h
  have hself := q.heard_lane_self l
  refine ⟨fun hr => ?_, fun hn => ?_, fun hs => ?_⟩
  · rw [hself]; exact hraised hr
  · rw [hself]; exact hnot hn
  · rw [hself] at hs
    obtain ⟨hqueue, hengine, hsides, hlanes⟩ := hsame hs
    rw [hself]
    exact ⟨hqueue, hengine, (q.heard_sides l).trans hsides, fun m hm => (q.heard_lane_of_ne hm).trans (hlanes m hm)⟩

theorem Part.weighs.raise {p q : Part} {l : Lane} {w : Nat} (h : p.weighs q l w) (c : CounterId) :
    p.weighs (q.raise c) l w := by
  unfold Part.weighs at h ⊢
  simpa using h

theorem Part.reached_lanes_of_ne (p : Part) {l m : Lane} (h : m ≠ l) (c : CounterId) :
    ((p.reached l).raise c).lane m = p.lane m := by
  rw [Part.raise_lane, p.reached_lane_of_ne h]

/-- Settles O15. -/
theorem badAndUnexpectedFrames : Obligations.BadAndUnexpectedFrames := by
  refine ⟨fun p w l violation hloop => ?_, fun p w l k h payload _ hoff => ?_,
    fun p w l violation hloop => ⟨fun hact hdeg => ?_, fun hord hact hw => ?_⟩, fun p w l k h payload _ hoff => ?_⟩
  · obtain ⟨hlanes, hparams, hengine, hsides, -, hcompletions⟩ := p.badCounted_rest l violation
    obtain ⟨hbad, hcode, hreceived⟩ := p.badCounted_counter l violation
    have hcounter := fun (c : LaneCounter) (hc : c ≠ .downEntries) =>
      (p.badCounted l violation).addWeight_counter l (badWeight violation) (CounterId.notMoves_lane l hc)
    refine ⟨_, exec_badFrame hloop violation w, ?_, ?_, ?_, ?_, ?_⟩
    · exact ((p.badCounted l violation).laneWork_addWeight l _).completions.trans hcompletions
    · rw [hcounter _ (by decide), hbad]
    · rw [hcounter _ (by decide), hcode]
    · rw [hcounter _ (by decide), hreceived]
    · exact ((p.badCounted l violation).weighs_addWeight l (badWeight violation)).of_same hlanes hparams hengine hsides
  · have harrive : p.arrive l { kind := unexpectedKind k, header := h, payload } true =
        (p.reachedViolated l).raise (.lane l .unexpectedFrames) :=
      (Part.arrive_violated hoff _).trans (Part.inService_unexpected _ l k h payload)
    have hwork := (p.violationCounted l).laneWork_addWeight l 2
    have hcounter := fun (c : LaneCounter) (hc : c ≠ .downEntries) =>
      (p.violationCounted l).addWeight_counter l 2 (CounterId.notMoves_lane l hc)
    have hweighs := ((p.violationCounted l).weighs_addWeight l 2).of_same (p := p)
      (by simp [Part.violationCounted]) (by simp [Part.violationCounted]) (by simp [Part.violationCounted])
      (by simp [Part.violationCounted])
    refine ⟨_, congrArg (fun q => Host.Outcome.next (State.mk q w)) harrive, ?_, ?_, ?_, ?_, ?_, ?_, fun hup => ?_⟩
    · rw [Part.raise_completions, Part.reachedViolated, Part.heard_completions, hwork.completions]
      simp [Part.violationCounted]
    · rw [Part.raise_counter_of_ne _ (by simp), Part.reachedViolated, Part.heard_counter, hcounter _ (by decide),
        Part.violationCounted, Part.raise_counter_self, p.raise_counter_of_ne (by simp)]
    · rw [Part.raise_counter_self, Part.reachedViolated, Part.heard_counter, hcounter _ (by decide),
        Part.violationCounted, Part.raise_counter_of_ne _ (by simp), p.raise_counter_of_ne (by simp)]
    · rw [Part.raise_counter_of_ne _ (by simp), Part.reachedViolated, Part.heard_counter, hcounter _ (by decide),
        Part.violationCounted, Part.raise_counter_of_ne _ (by simp), p.raise_counter_self]
    · rw [Part.raise_counter_of_ne _ (by simp), Part.reachedViolated, Part.heard_counter, hcounter _ (by decide),
        Part.violationCounted, Part.raise_counter_of_ne _ (by simp), p.raise_counter_of_ne (by simp)]
    · exact hweighs.heard.raise _
    · rw [Part.raise_lane, Part.reachedViolated_state] at hup
      rw [Part.raise_lane, Part.reachedViolated, Part.heard_lane_self]
      dsimp only
      rw [if_pos ((LaneState.isUp_iff _).mpr (by simpa using hup)), hwork.now, hwork.params]
      simp [Part.violationCounted, Params.beatUs]
  · obtain ⟨hlanes, -, hengine, -, hintake, hcompletions⟩ := p.badCounted_rest l violation
    refine ⟨_, exec_badFrame hloop violation w, ?_⟩
    rw [Part.addWeight_of_not]
    · exact ⟨hlanes, hengine, hintake, hcompletions, (p.badCounted_counter l violation).1⟩
    · rw [p.badCounted_lane]
      exact fun hin => hin.1.elim hact hdeg
  · obtain ⟨-, hparams, hengine, -⟩ := p.badCounted_rest l violation
    have hlane := p.badCounted_lane l violation
    have hord' : (p.badCounted l violation).params.ordered := by rw [hparams]; exact hord
    have hw' : ((p.badCounted l violation).lane l).figure + badWeight violation <
        (p.badCounted l violation).params.warnLevel := by rw [hlane, hparams]; exact hw
    refine ⟨_, exec_badFrame hloop violation w, ?_⟩
    rw [Part.addWeight_of_quiet (by rw [hlane]; exact hact) hord' hw']
    refine ⟨?_, fun m hm => ?_, hengine, ?_⟩
    · rw [Part.weighted_lane_of_quiet hord' hw', hlane]; rfl
    · rw [Part.weighted_lane_of_ne _ hm, hlane]
    · exact (p.badCounted_counter l violation).1
  · have harrive : p.arrive l { kind := unexpectedKind k, header := h, payload } false =
        (p.reached l).raise (.lane l .unexpectedFrames) :=
      (Part.arrive_good hoff _).trans (Part.inService_unexpected _ l k h payload)
    refine ⟨_, congrArg (fun q => Host.Outcome.next (State.mk q w)) harrive, ?_, ?_, by simp, by simp, by simp, by simp, ?_,
      fun m hm => p.reached_lanes_of_ne hm _⟩
    · rw [Part.raise_counter_self, p.reached_counter_of_ne l (by simp)]
    · rw [Part.raise_counter_of_ne _ (by simp), p.reached_counter_self]
    · rw [Part.raise_lane, p.reached_lane_self]

/-! ### Partner states (R79) -/

/-- A lane with the partner state written into its page data (R79). -/
def Part.partnered (p : Part) (l : Lane) (c : PartnerState) : Part := p.modLane l (fun r => r.withPartner c)

theorem Part.partnered_lane_self (p : Part) (l : Lane) (c : PartnerState) :
    (p.partnered l c).lane l = (p.lane l).withPartner c := p.modLane_lane_self l _
theorem Part.partnered_lane_of_ne (p : Part) {l m : Lane} (h : m ≠ l) (c : PartnerState) :
    (p.partnered l c).lane m = p.lane m := p.modLane_lane_of_ne h _
@[simp] theorem Part.partnered_lane_state (p : Part) (l m : Lane) (c : PartnerState) :
    ((p.partnered l c).lane m).state = (p.lane m).state := by
  by_cases hm : m = l
  · subst hm; rw [p.partnered_lane_self]; rfl
  · rw [p.partnered_lane_of_ne hm]

/-- A lane whose partner is no longer leaving (R79). -/
def Part.partnerBack (p : Part) (l : Lane) : Part := p.modLane l (fun r => { r with partnerLeaving := false })

/-- A lane whose partner has just begun to leave, with its event (R79). -/
def Part.partnerLeft (p : Part) (l : Lane) : Part :=
  (p.modLane l (fun r => { r with partnerLeaving := true })).event .partnerOffline (some l) none
    (BitVec.ofNat 16 (p.lane l).state.code)

theorem Part.takePartner_ok (p : Part) (l : Lane) :
    ((p.partnered l .ok).partnerBack l).Retimed (p.takePartner l .ok) :=
  ((p.partnered l .ok).partnerBack l).retimed_judgeReturns l
theorem Part.takePartner_offline (p : Part) (l : Lane) :
    p.takePartner l .offline = (p.partnered l .offline).partnerOffline l := rfl
theorem Part.takePartner_linkFail (p : Part) (l : Lane) :
    p.takePartner l .linkFail = (p.partnered l .linkFail).forceDown l .partnerLinkFail := rfl
theorem Part.takePartner_configError (p : Part) (l : Lane) : p.takePartner l .configError =
    (p.partnered l .configError).mismatch l 4 ((p.partnered l .configError).lane l).partnerPort := rfl

theorem Part.partnerOffline_of_set {p : Part} {l : Lane} (h : (p.lane l).partnerLeaving = true) :
    p.partnerOffline l = p := if_pos h

theorem Part.partnerOffline_of_clear {p : Part} {l : Lane} (h : (p.lane l).partnerLeaving = false) :
    p.partnerOffline l =
      (if (p.lane l).leaving then p.partnerLeft l else (p.partnerLeft l).leavingMoves l).judgeReturns l :=
  if_neg (by rw [h]; exact Bool.false_ne_true)

theorem Part.streamsOnly_partnerOffline {p : Part} {l : Lane} (h : (p.lane l).partnerLeaving = false) :
    (p.partnerLeft l).StreamsOnly (p.partnerOffline l) := by
  rw [Part.partnerOffline_of_clear h]
  split
  · exact Part.streamsOnly_judgeReturns _ l
  · exact (Part.streamsOnly_leavingMoves _ l).trans (Part.streamsOnly_judgeReturns _ l)

theorem Part.leavingMoves_of_not_carried {p : Part} {l : Lane} (h : ∀ n, (p.stream n).carrier ≠ some l) :
    p.leavingMoves l = p := foldl_eq_self fun n _ => if_neg (h n)

/-- The partner's leave of a lane that carries no stream logs PARTNER_OFFLINE alone (R79). -/
theorem Part.partnerOffline_retimed {p : Part} {l : Lane} (h : (p.lane l).partnerLeaving = false)
    (hfree : ∀ n, (p.stream n).carrier ≠ some l) : (p.partnerLeft l).Retimed (p.partnerOffline l) := by
  rw [Part.partnerOffline_of_clear h, Part.leavingMoves_of_not_carried (p := p.partnerLeft l) hfree, ite_self]
  exact Part.retimed_judgeReturns _ l

theorem Part.partnerLeft_lane_self (p : Part) (l : Lane) :
    (p.partnerLeft l).lane l = { p.lane l with partnerLeaving := true } :=
  p.modLane_lane_self l (fun r => { r with partnerLeaving := true })

theorem Part.partnerLeft_lane_of_ne (p : Part) {l m : Lane} (h : m ≠ l) : (p.partnerLeft l).lane m = p.lane m :=
  p.modLane_lane_of_ne h (fun r => { r with partnerLeaving := true })

/-- The record of a lane whose partner leaves: the flag is set, and at most the queue changes besides. -/
theorem Part.partnerOffline_lane_self (p : Part) (l : Lane) : (p.partnerOffline l).lane l =
    { p.lane l with partnerLeaving := true, queue := ((p.partnerOffline l).lane l).queue } := by
  cases h : (p.lane l).partnerLeaving with
  | true => rw [Part.partnerOffline_of_set h, ← h]
  | false => rw [(Part.streamsOnly_partnerOffline h).lane l, p.partnerLeft_lane_self]

theorem Part.partnerOffline_lane_of_ne (p : Part) {l m : Lane} (h : m ≠ l) : (p.partnerOffline l).lane m =
    { p.lane m with queue := ((p.partnerOffline l).lane m).queue } := by
  cases hl : (p.lane l).partnerLeaving with
  | true => rw [Part.partnerOffline_of_set hl]
  | false => rw [(Part.streamsOnly_partnerOffline hl).lane m, p.partnerLeft_lane_of_ne h]

theorem Part.laneWork_mismatch (p : Part) (l : Lane) (reason : Nat) (port : Byte) : p.LaneWork (p.mismatch l reason port) :=
  p.laneWork_enterOff l _ _ (laneWork_laneEvent _ l _)

theorem Part.laneWork_partnered (p : Part) (l : Lane) (c : PartnerState) : p.LaneWork (p.partnered l c) :=
  p.laneWork_modLane l _
theorem Part.laneWork_partnerBack (p : Part) (l : Lane) : p.LaneWork (p.partnerBack l) := p.laneWork_modLane l _
theorem Part.laneWork_partnerLeft (p : Part) (l : Lane) : p.LaneWork (p.partnerLeft l) :=
  (p.laneWork_modLane l (fun r => { r with partnerLeaving := true })).trans (Part.streamsOnly_event _ _ _ _ _).lanes

theorem Part.laneWork_partnerOffline (p : Part) (l : Lane) : p.LaneWork (p.partnerOffline l) := by
  cases h : (p.lane l).partnerLeaving with
  | true => rw [Part.partnerOffline_of_set h]; exact .refl p
  | false => exact (p.laneWork_partnerLeft l).trans (Part.streamsOnly_partnerOffline h).lanes

theorem Part.laneWork_takePartner (p : Part) (l : Lane) (c : PartnerState) : p.LaneWork (p.takePartner l c) := by
  have hset := p.laneWork_partnered l c
  cases c with
  | ok => exact (hset.trans (Part.laneWork_partnerBack _ l)).trans (p.takePartner_ok l).streamsOnly.lanes
  | offline => rw [p.takePartner_offline]; exact hset.trans (Part.laneWork_partnerOffline _ l)
  | linkFail =>
    rw [p.takePartner_linkFail, Part.forceDown_eq]
    exact hset.trans ((Part.laneWork_modLane _ l _).trans (Part.laneWork_enterDown _ l _ _))
  | configError => rw [p.takePartner_configError]; exact hset.trans (Part.laneWork_mismatch _ l _ _)

theorem Part.changeLane_state_of_ne (p : Part) {l m : Lane} (h : m ≠ l) (new : LaneState) (enter : LaneRec → LaneRec)
    {log : Part → Part} (hlog : ∀ q : Part, (log q).lanes = q.lanes) :
    ((p.changeLane l new enter log).lane m).state = (p.lane m).state := by
  rw [p.changeLane_lane_of_ne h new enter hlog]

theorem Part.takePartner_state_of_ne (p : Part) {l m : Lane} (h : m ≠ l) (c : PartnerState) :
    ((p.takePartner l c).lane m).state = (p.lane m).state := by
  cases c with
  | ok =>
    rw [(p.takePartner_ok l).lane, Part.partnerBack, Part.modLane_lane_of_ne _ h, p.partnered_lane_of_ne h]
  | offline => rw [p.takePartner_offline, Part.partnerOffline_lane_of_ne _ h, p.partnered_lane_of_ne h]
  | linkFail => rw [p.takePartner_linkFail, Part.forceDown_lane_state_of_ne _ h, p.partnered_lane_of_ne h]
  | configError =>
    rw [p.takePartner_configError, Part.mismatch, Part.enterOff, Part.changeLane_state_of_ne _ h _ _ (laneEvent_lanes _ _ _),
      p.partnered_lane_of_ne h]

/-- Settles O24. -/
theorem beatPartnerStates : Obligations.BeatPartnerStates := by
  intro p w l h hu
  refine ⟨p.arrive l ⟨.beat, h, []⟩ false, rfl, fun hidle => ?_, fun hup => ?_⟩
  · have hoff : (p.lane l).state ≠ .off := by rcases hidle with hs | hs <;> rw [hs] <;> decide
    have htake : (p.reached l).takeBeat l h.partner = p.reached l := by
      unfold Part.takeBeat
      rw [Part.reached_lane_state]
      rcases hidle with hs | hs <;> rw [hs]
    rw [Part.arrive_good hoff]
    show ((p.reached l).takeBeat l h.partner).lanes = _ ∧ ((p.reached l).takeBeat l h.partner).engine = _ ∧
      ((p.reached l).takeBeat l h.partner).log = _ ∧ ((p.reached l).takeBeat l h.partner).intake = _
    rw [htake]
    refine ⟨Part.reached_lanes_of_not_up ?_, by simp, Part.reached_log hu l, by simp⟩
    rcases hidle with hs | hs <;> rw [hs] <;> rfl
  · have hoff : (p.lane l).state ≠ .off := fun hs => by rw [hs] at hup; exact absurd hup (by decide)
    have htake : (p.reached l).takeBeat l h.partner = (p.reached l).takePartner l h.partner := by
      unfold Part.takeBeat
      rw [Part.reached_lane_state]
      cases hs : (p.lane l).state <;> simp [hs] at hup ⊢
    have harrive : p.arrive l ⟨.beat, h, []⟩ false = (p.reached l).takePartner l h.partner :=
      (Part.arrive_good hoff _).trans htake
    have hself := p.reached_lane_self l
    have hsilence : (if (p.lane l).state.isUp then some (p.now + 2 * p.params.beatUs) else (p.lane l).timers.silence) =
        if (p.lane l).state = .training then (p.lane l).timers.silence
        else some (p.now + 2 * (p.params.beatInterval * 250)) := by
      cases hs : (p.lane l).state <;> simp [hs, LaneState.isUp, Params.beatUs] at hup ⊢
    rw [harrive]
    refine ⟨((p.reached l).laneWork_takePartner l h.partner).completions.trans (by simp), fun m hm => ?_, fun hc => ?_,
      fun hc => ?_, fun hc => ?_, fun hc => ?_⟩
    · rw [Part.takePartner_state_of_ne _ hm, Part.reached_lane_state]
    · have hretimed := (p.reached l).takePartner_ok l
      rw [hc, hretimed.log, hretimed.lane]
      refine ⟨Part.reached_log hu l, ?_⟩
      rw [Part.partnerBack, Part.modLane_lane_self, Part.partnered_lane_self, hself, hsilence]
      rfl
    · rw [hc, Part.takePartner_offline]
      have hleaving : (((p.reached l).partnered l .offline).lane l).partnerLeaving = (p.lane l).partnerLeaving := by
        rw [Part.partnered_lane_self, hself]; rfl
      refine ⟨?_, ?_, fun hset => ?_, fun hclear hfree => ?_⟩
      · rw [Part.partnerOffline_lane_self, Part.partnered_lane_state, Part.reached_lane_state]
      · rw [Part.partnerOffline_lane_self]
      · rw [Part.partnerOffline_of_set (hleaving.trans hset)]
        exact ⟨Part.reached_log hu l, p.reached_engine l⟩
      · have hcarried : ∀ n, (((p.reached l).partnered l .offline).stream n).carrier ≠ some l := fun n => by
          rw [show ((p.reached l).partnered l .offline).stream n = p.stream n from p.reached_stream l n]
          exact (p.carries_eq_false_iff l).mp hfree n
        rw [(Part.partnerOffline_retimed (hleaving.trans hclear) hcarried).log, Part.partnerLeft, Part.partnered_lane_state,
          Part.reached_lane_state]
        show (p.reached l).log.take _ _ _ _ (p.reached l).timeCounter = _
        rw [Part.reached_log hu, Part.reached_timeCounter]
    · rw [hc, Part.takePartner_linkFail, Part.forceDown_lane_self, Part.partnered_lane_self, hself]
      refine ⟨rfl, rfl, ?_, ?_⟩
      · show some ((p.reached l).now + (p.reached l).params.holdDown * 10000) = _
        rw [Part.reached_now, Part.reached_params]
      · show (if (p.lane l).state.inService = true then 1023 else (p.lane l).figure) = _
        simp only [LaneState.inService_iff]
    · rw [hc, Part.takePartner_configError, Part.mismatch, Part.enterOff_lane_self _ _ _ (laneEvent_lanes _ _ _)]
      exact ⟨rfl, rfl, rfl, rfl⟩

end Sys2Proof.Machine
end

section
/-! The lane timers (O29). -/

namespace Sys2Proof.Machine

theorem Part.expire_some {p : Part} {timer : Option Micros} {t : Micros} (h : timer = some t) (act : Part → Part) :
    p.expire timer act = act (p.reach t) := by rw [h]; rfl

/-- A command that expires a running timer (log entry 3). -/
theorem next_of_expire {p q : Part} {timer : Option Micros} {t : Micros} (h : timer = some t) {act : Part → Part}
    (hact : act (p.reach t) = q) (w : List Instr) : Host.Outcome.next (State.mk (p.expire timer act) w) =
      (Host.Outcome.next ⟨q, w⟩ : Result) := by rw [Part.expire_some h, hact]

@[simp] theorem Part.modTimers_lane_self (p : Part) (l : Lane) (f : Timers → Timers) :
    (p.modTimers l f).lane l = { p.lane l with timers := f (p.lane l).timers } := p.modLane_lane_self l _
theorem Part.modTimers_lane_of_ne (p : Part) {l m : Lane} (h : m ≠ l) (f : Timers → Timers) :
    (p.modTimers l f).lane m = p.lane m := p.modLane_lane_of_ne h _

/-- The partner state that a lane announces, as R70 gives it. -/
theorem LaneRec.announced_eq (r : LaneRec) :
    r.announced = if r.pin = .out ∨ r.restartPending = true then .offline else .ok := by
  unfold LaneRec.announced
  simp

/-- A change between states out of service, but to ACTIVE, is the lane's own: the streams' return timers follow. -/
theorem Part.changeLane_retimed (p : Part) (l : Lane) {new : LaneState} (hold : (p.lane l).state.inService = false)
    (hnew : new ≠ .active) (enter : LaneRec → LaneRec) (log : Part → Part) :
    (p.moveLane l new enter log).Retimed (p.changeLane l new enter log) :=
  Part.streamsTake_retimed _ l hold hnew

theorem Part.changeLane_lane_of_out (p : Part) (l : Lane) {new : LaneState} (hold : (p.lane l).state.inService = false)
    (hnew : new ≠ .active) (enter : LaneRec → LaneRec) {log : Part → Part} (hlog : ∀ q : Part, (log q).lanes = q.lanes) :
    (p.changeLane l new enter log).lane l = enter ((p.lane l).moved new) := by
  rw [(p.changeLane_retimed l hold hnew enter log).lane, p.moveLane_lane_self l new enter hlog]

theorem Part.lanes_of_id (p : Part) : (id p).lanes = p.lanes := rfl

/-- The record of a lane that starts a burst out of service (R76, R81). -/
theorem Part.startQualify_lane_self {p : Part} {l : Lane} (h : (p.lane l).state.inService = false) :
    (p.startQualify l).lane l = { p.lane l with
      state := .qualify, errorBytes := 0, checker := some ⟨.qualify, 256, 0, 0⟩,
      queue := (p.lane l).queue ++ p.burstFrames true 256,
      timers := { (p.lane l).timers with
        page := none, held := none,
        beat := if (p.lane l).state == .training then some (p.now + p.params.beatUs) else (p.lane l).timers.beat,
        silence := if (p.lane l).state == .training then some (p.now + 2 * p.params.beatUs)
          else (p.lane l).timers.silence } } := by
  rw [Part.startQualify, Part.changeLane_lane_of_out _ _ h (by decide) _ Part.lanes_of_id,
    LaneRec.moved_of_up _ h (by decide)]

theorem Part.burstFrames_payload (p : Part) (reflect : Bool) (n : Nat) :
    (p.burstFrames reflect n).map Frame.payload = burstPayloads n := by
  unfold Part.burstFrames
  rw [List.map_map]
  exact List.map_id _

theorem Part.mem_burstFrames {p : Part} {reflect : Bool} {n : Nat} {f : Frame} (h : f ∈ p.burstFrames reflect n) :
    f.kind = .test ∧ f.header.reflect = reflect := by
  obtain ⟨x, -, rfl⟩ := List.mem_map.mp h
  exact ⟨rfl, rfl⟩

/-- The page that a lane in TRAINING sends again (R74). -/
def Part.currentPage (p : Part) (l : Lane) : Frame :=
  if (p.lane l).training.next then p.nextPage l else p.basePage l

theorem Part.currentPage_spec (p : Part) (l : Lane) : (p.currentPage l).kind = .page ∧
    (p.currentPage l).header.pageKind = (if (p.lane l).training.next then 1 else 0) ∧
    (p.currentPage l).header.toggle = (p.lane l).training.toggle ∧
    (p.currentPage l).header.ack = (p.lane l).training.ownAck := by
  unfold Part.currentPage
  cases (p.lane l).training.next <;> exact ⟨rfl, rfl, rfl, rfl⟩

theorem Part.resendPage_lane_self (p : Part) (l : Lane) : (p.resendPage l).lane l = { p.lane l with
    queue := (p.lane l).queue ++ [p.currentPage l],
    training := { (p.lane l).training with resends := (p.lane l).training.resends + 1 },
    timers := { (p.lane l).timers with page := some (p.now + 10000) } } := by
  unfold Part.resendPage Part.startPageTimer Part.place
  rw [Part.modLane_lane_self, Part.modLane_lane_self, Part.modLane_lane_self]
  rfl

theorem Part.resendPage_lane_of_ne (p : Part) {l m : Lane} (h : m ≠ l) : (p.resendPage l).lane m = p.lane m := by
  unfold Part.resendPage Part.startPageTimer Part.place
  rw [Part.modLane_lane_of_ne _ h, Part.modLane_lane_of_ne _ h, Part.modLane_lane_of_ne _ h]

/-- A silence expiry counted, its timer started again (R78). -/
def Part.silenceNoted (p : Part) (l : Lane) : Part :=
  (p.modTimers l (fun t => { t with silence := some (p.now + 2 * p.params.beatUs) })).raise (.lane l .silenceExpiries)

theorem Part.silenceNoted_lane_self (p : Part) (l : Lane) : (p.silenceNoted l).lane l =
    { p.lane l with timers := { (p.lane l).timers with silence := some (p.now + 2 * p.params.beatUs) } } := by
  rw [Part.silenceNoted, Part.raise_lane, Part.modTimers_lane_self]

theorem Part.silenceNoted_lane_of_ne (p : Part) {l m : Lane} (h : m ≠ l) : (p.silenceNoted l).lane m = p.lane m := by
  rw [Part.silenceNoted, Part.raise_lane, Part.modTimers_lane_of_ne _ h]

/-- What a silence expiry does, by the state of the lane (R78). -/
theorem Part.silent_cases (p : Part) (l : Lane) :
    ((p.lane l).state.inService = true ∧ p.silent l = (p.silenceNoted l).addWeight l 128) ∨
    (((p.lane l).state = .qualify ∨ (p.lane l).state = .held) ∧
      p.silent l = (p.silenceNoted l).enterDown l .silence 0) ∨
    (((p.lane l).state.inService = false ∧ (p.lane l).state ≠ .qualify ∧ (p.lane l).state ≠ .held) ∧
      p.silent l = p.silenceNoted l) := by
  unfold Part.silent
  dsimp only
  rw [← Part.silenceNoted, p.silenceNoted_lane_self]
  cases (p.lane l).state <;> simp [LaneState.inService]

theorem Part.silent_in (p : Part) {l : Lane} (h : (p.lane l).state.inService = true) :
    p.silent l = (p.silenceNoted l).addWeight l 128 := by
  rcases p.silent_cases l with ⟨-, hs⟩ | ⟨hs, -⟩ | ⟨⟨hs, -⟩, -⟩
  · exact hs
  · rcases hs with hs | hs <;> rw [hs] at h <;> exact absurd h (by decide)
  · exact absurd (hs.symm.trans h) Bool.false_ne_true

@[simp] theorem Part.silenceNoted_params (p : Part) (l : Lane) : (p.silenceNoted l).params = p.params :=
  Part.raise_params _ _
@[simp] theorem Part.silenceNoted_engine (p : Part) (l : Lane) : (p.silenceNoted l).engine = p.engine :=
  Part.raise_engine _ _

theorem Part.silent_counter (p : Part) (l : Lane) :
    (p.silent l).counter (.lane l .silenceExpiries) = p.counter (.lane l .silenceExpiries) + 1 := by
  have hnoted : (p.silenceNoted l).counter (.lane l .silenceExpiries) = p.counter (.lane l .silenceExpiries) + 1 :=
    Part.raise_counter_self (p.modTimers l _) _
  have hmoves := CounterId.notMoves_lane l (k := .silenceExpiries) (by decide)
  rcases p.silent_cases l with ⟨-, h⟩ | ⟨-, h⟩ | ⟨-, h⟩ <;> rw [h]
  · rw [Part.addWeight_counter _ l _ hmoves, hnoted]
  · rw [Part.enterDown_counter _ l _ _ hmoves, hnoted]
  · exact hnoted

theorem Part.laneWork_silent (p : Part) (l : Lane) : p.LaneWork (p.silent l) := by
  have hnoted : p.LaneWork (p.silenceNoted l) :=
    (p.laneWork_modLane l _).trans (Part.streamsOnly_raise _ _).lanes
  rcases p.silent_cases l with ⟨-, h⟩ | ⟨-, h⟩ | ⟨-, h⟩ <;> rw [h]
  · exact hnoted.trans (Part.laneWork_addWeight _ l _)
  · exact hnoted.trans (Part.laneWork_enterDown _ l _ _)
  · exact hnoted

/-- Settles O29. -/
theorem laneTimersAct : Obligations.LaneTimersAct := by
  intro p w l t
  refine ⟨fun ht => ?beat, fun ht => ?probe, fun ht => ?pause, fun ht => ?storm, fun ht => ?page, fun d ht => ?suspect,
    fun ht => ?silence, fun ht hs => ?held, fun ht hs => ?holdDown⟩
  case beat =>
    refine ⟨((p.reach t).place l ((p.reach t).beatFrame l)).modTimers l (fun t => { t with beat := none }),
      (p.reach t).beatFrame l, next_of_expire ht rfl w, ?_, rfl, (p.lane l).announced_eq, fun m hm => ?_, rfl, rfl, rfl⟩
    · rw [Part.modTimers_lane_self, Part.place_lane_self]; rfl
    · rw [Part.modTimers_lane_of_ne _ hm, Part.place_lane_of_ne _ hm]; rfl
  case probe =>
    refine ⟨(p.reach t).probeAgain l, (p.reach t).probeFrame, next_of_expire ht rfl w, ?_, rfl, rfl, fun m hm => ?_, rfl,
      rfl⟩
    · rw [Part.probeAgain, Part.modTimers_lane_self, Part.place_lane_self]; rfl
    · rw [Part.probeAgain, Part.modTimers_lane_of_ne _ hm, Part.place_lane_of_ne _ hm]; rfl
  case pause =>
    exact ⟨(p.reach t).modTimers l (fun t => { t with pause := none }), next_of_expire ht rfl w,
      Part.modTimers_lane_self _ l _, fun m hm => Part.modTimers_lane_of_ne _ hm _, rfl, rfl⟩
  case storm =>
    exact ⟨(p.reach t).modLane l (fun r => r.freshStorm (p.reach t).now), next_of_expire ht rfl w,
      Part.modLane_lane_self _ l _, fun m hm => Part.modLane_lane_of_ne _ hm _, rfl, rfl⟩
  case page =>
    by_cases hlow : (p.lane l).training.resends < 8
    · have hact : (p.reach t).judgePageTimer l = (p.reach t).resendPage l := if_pos hlow
      refine ⟨(p.reach t).resendPage l, (p.reach t).currentPage l, next_of_expire (act := fun q => q.judgePageTimer l) ht hact w, rfl, fun _ => ?_,
        fun hhigh => absurd hlow (Nat.not_lt.mpr hhigh)⟩
      obtain ⟨hkind, hpage, htoggle, hack⟩ := (p.reach t).currentPage_spec l
      exact ⟨(p.reach t).resendPage_lane_self l, hkind, hpage, htoggle, hack,
        fun m hm => (p.reach t).resendPage_lane_of_ne hm, rfl, rfl⟩
    · have hact : (p.reach t).judgePageTimer l =
          (p.reach t).enterQuiet l (laneEvent .laneTrainingFailed l (p.lane l).training.reached) := if_neg hlow
      refine ⟨_, (p.reach t).probeFrame, next_of_expire (act := fun q => q.judgePageTimer l) ht hact w,
        ((p.reach t).laneWork_enterQuiet l _ (laneWork_laneEvent _ l _)).completions, fun h => absurd h hlow, fun _ => ?_⟩
      rw [(p.reach t).enterQuiet_lane_self l (laneEvent_lanes _ _ _)]
      exact ⟨rfl, rfl, rfl, rfl⟩
  case suspect =>
    refine ⟨(p.reach t).modSide d (fun r => { r with suspectUntil := none }), next_of_expire ht rfl w,
      Part.modSide_side_self _ d _, fun e he => Part.modSide_side_of_ne _ he _, ?_, ?_, ?_⟩
    · rw [Part.modSide_lanes]; rfl
    · rw [Part.modSide_engine]; rfl
    · rw [Part.modSide_log]; rfl
  case silence =>
    have hself := (p.reach t).silenceNoted_lane_self l
    refine ⟨(p.reach t).silent l, next_of_expire ht rfl w, (p.reach t).silent_counter l,
      ((p.reach t).laneWork_silent l).completions, fun hs => ?_, fun hs hord hlow => ?_, fun hs hfigure => ?_⟩
    · rcases (p.reach t).silent_cases l with ⟨hin, -⟩ | ⟨-, h⟩ | ⟨⟨-, hq, hh⟩, -⟩
      · rcases (LaneState.inService_iff _).mp hin with h | h <;> rcases hs with hs | hs <;>
          exact absurd (hs.symm.trans h) (by decide)
      · rw [h, Part.enterDown_lane_self]
      · exact (hs.elim hq hh).elim
    · have hweight := Part.silent_in ((p.reach t)) (l := l) ((LaneState.inService_iff _).mpr (.inl hs))
      have hquiet : ((p.reach t).silenceNoted l).addWeight l 128 = ((p.reach t).silenceNoted l).weighted l 128 :=
        Part.addWeight_of_quiet (by rw [hself]; exact hs) (by rw [Part.silenceNoted_params]; exact hord)
          (by rw [hself, Part.silenceNoted_params]; exact hlow)
      rw [hweight, hquiet]
      refine ⟨?_, Part.silenceNoted_engine _ l, fun m hm => ?_⟩
      · rw [Part.weighted_lane_of_quiet (by rw [Part.silenceNoted_params]; exact hord)
          (by rw [hself, Part.silenceNoted_params]; exact hlow), hself]
        rfl
      · rw [Part.weighted_lane_of_ne _ hm, Part.silenceNoted_lane_of_ne _ hm]; rfl
    · rw [Part.silent_in ((p.reach t)) (l := l) ((LaneState.inService_iff _).mpr hs)]
      obtain ⟨hraised, -, -⟩ := ((p.reach t).silenceNoted l).weighs_addWeight l 128
      rw [hself, Part.silenceNoted_params] at hraised
      obtain ⟨hfig, hstate⟩ := hraised ⟨hs, hfigure⟩
      exact ⟨hfig, fun hpin => hstate.trans (thresholdStateUnder_of_not_keep _ hpin _ _)⟩
  case held =>
    have hout : ((p.reach t).lane l).state.inService = false := by
      show (p.lane l).state.inService = false
      rw [hs]; rfl
    refine ⟨(p.reach t).startQualify l, (p.reach t).burstFrames true 256, next_of_expire ht rfl w, ?_⟩
    rw [Part.startQualify_lane_self hout, show ((p.reach t).lane l).state = .held from hs]
    exact ⟨rfl, rfl, rfl, rfl, rfl, rfl, rfl, rfl, Part.burstFrames_payload _ _ _⟩
  case holdDown =>
    refine ⟨(p.reach t).enterQuiet l id, (p.reach t).probeFrame, next_of_expire ht rfl w, ?_⟩
    rw [(p.reach t).enterQuiet_lane_self l Part.lanes_of_id, show ((p.reach t).lane l).state = .down from hs]
    exact ⟨rfl, rfl, rfl, rfl, rfl, rfl, rfl⟩

end Sys2Proof.Machine
end

section
/-! Training pages (O25). -/

namespace Sys2Proof.Machine

/-! ### A lane that stays out of service -/

/-- A side's derived state does not see a lane that stays out of service (R103). -/
theorem Part.derivedSide_of_still_out {p q : Part} {l : Lane} (hp : (p.lane l).state.inService = false)
    (hq : (q.lane l).state.inService = false) (hothers : ∀ m, m ≠ l → (q.lane m).state = (p.lane m).state) (d : Side) :
    q.derivedSide d = p.derivedSide d := by
  by_cases hd : d = l.side
  · subst hd
    rw [Part.derivedSide_of_out hp, Part.derivedSide_of_out hq, hothers _ (Lane.sibling_ne l)]
  · exact Part.derivedSide_congr d fun m hm => hothers m fun h => hd (by rw [← hm, h])

/-- A change between states out of service logs its own event alone, and the sides stay as they are (R103, R104). -/
theorem Part.changeLane_log_of_out {p : Part} {l : Lane} (hsides : p.sidesHold) (hold : (p.lane l).state.inService = false)
    {new : LaneState} (hnew : new.inService = false) {enter : LaneRec → LaneRec}
    (henter : (enter ((p.lane l).moved new)).state = new) {log : Part → Part} (hlanes : ∀ q : Part, (log q).lanes = q.lanes)
    (hlogsides : ∀ q : Part, (log q).sides = q.sides) :
    (p.changeLane l new enter log).log = (log (p.modLane l (fun r => enter (r.moved new)))).log ∧
    (p.changeLane l new enter log).sidesHold := by
  have hactive : new ≠ .active := fun h => by rw [h] at hnew; exact Bool.false_ne_true hnew.symm
  have hretimed := p.changeLane_retimed l hold hactive enter log
  have hlane : ∀ m, (log (p.modLane l (fun r => enter (r.moved new)))).lane m =
      (p.modLane l (fun r => enter (r.moved new))).lane m := fun m => by rw [Part.lane, hlanes]; rfl
  have hside : ∀ d, (log (p.modLane l (fun r => enter (r.moved new)))).side d = p.side d :=
    fun d => Part.sides_side ((hlogsides _).trans rfl) d
  have hself : ((log (p.modLane l (fun r => enter (r.moved new)))).lane l).state.inService = false := by
    rw [hlane, Part.modLane_lane_self, henter]; exact hnew
  have hderived := Part.derivedSide_of_still_out hold hself fun m hm => by rw [hlane, p.modLane_lane_of_ne hm]
  refine ⟨?_, fun d => ?_⟩
  · rw [hretimed.log, Part.moveLane, Part.sideTakes_log, hderived, hside, hsides]
    simp
  · rw [Part.sides_side hretimed.sides, Part.derivedSide_of_lanes hretimed.lanes, Part.moveLane, Part.sideTakes_side_state,
      Part.derivedSide_of_lanes (Part.sideTakes_lanes _ _ _ _), hderived, hside]
    split
    · rfl
    · exact hsides d

theorem laneEvent_sides (k : EventKind) (l : Lane) (d : BitVec 16) (p : Part) : (laneEvent k l d p).sides = p.sides := rfl

/-- A mismatch of a lane out of service logs LANE_MISMATCH alone (R67, R75). -/
theorem Part.mismatch_log {p : Part} {l : Lane} (hsides : p.sidesHold) (hold : (p.lane l).state.inService = false)
    (reason : Nat) (port : Byte) : (p.mismatch l reason port).log =
      p.log.take .laneMismatch (some l) none (bytePair reason port.toNat) p.timeCounter := by
  have hmoved : ((p.lane l).moved .off).state = .off := by rw [(p.lane l).moved_of_out (.inr (.inr rfl))]
  rw [Part.mismatch, Part.enterOff, (Part.changeLane_log_of_out hsides hold (new := .off) rfl hmoved (laneEvent_lanes _ _ _)
    (laneEvent_sides _ _ _)).1]
  rfl

/-! ### The entry to TRAINING (R71, R72) -/

/-- Training as its entry leaves it (R72). -/
def Training.begun (t : Training) : Training :=
  { next := false, ownAck := false, seen := 0, last := none, toggle := !t.toggle, resends := 0 }

/-- A lane that has just entered TRAINING, before its first page is queued. -/
def Part.trainingBegun (p : Part) (l : Lane) : Part :=
  p.changeLane l .training
    (fun r => { r with training := r.training.begun, timers := { r.timers with probe := none } }) id

theorem Part.startTraining_eq (p : Part) (l : Lane) : p.startTraining l =
    ((p.trainingBegun l).place l ((p.trainingBegun l).basePage l)).startPageTimer l := rfl

theorem Part.trainingBegun_lane_self {p : Part} {l : Lane} (h : (p.lane l).state.inService = false) :
    (p.trainingBegun l).lane l = { p.lane l with
      state := .training, training := (p.lane l).training.begun, timers := { (p.lane l).timers with probe := none } } := by
  rw [Part.trainingBegun, Part.changeLane_lane_of_out _ _ h (by decide) _ Part.lanes_of_id,
    LaneRec.moved_of_up _ h (by decide)]

theorem Part.laneWork_trainingBegun (p : Part) (l : Lane) : p.LaneWork (p.trainingBegun l) :=
  p.laneWork_changeLane l _ _ _ fun q => .refl q

theorem Part.laneWork_startTraining (p : Part) (l : Lane) : p.LaneWork (p.startTraining l) := by
  rw [p.startTraining_eq, Part.startPageTimer]
  exact ((p.laneWork_trainingBegun l).trans
    ((p.trainingBegun l).streamsOnly_place l ((p.trainingBegun l).basePage l)).lanes).trans
    (Part.laneWork_modLane ((p.trainingBegun l).place l ((p.trainingBegun l).basePage l)) l _)

/-- The record of a lane that has entered TRAINING (R71, R72). -/
theorem Part.startTraining_lane_self {p : Part} {l : Lane} (h : (p.lane l).state.inService = false) :
    (p.startTraining l).lane l = { p.lane l with
      state := .training, training := (p.lane l).training.begun,
      timers := { (p.lane l).timers with probe := none, page := some (p.now + 10000) },
      queue := (p.lane l).queue ++ [(p.trainingBegun l).basePage l] } := by
  rw [p.startTraining_eq, Part.startPageTimer, Part.modLane_lane_self, Part.place_lane_self, Part.trainingBegun_lane_self h,
    ((p.trainingBegun l).streamsOnly_place l ((p.trainingBegun l).basePage l)).now, (p.laneWork_trainingBegun l).now]

theorem Part.startTraining_log {p : Part} {l : Lane} (hsides : p.sidesHold) (h : (p.lane l).state.inService = false) :
    (p.startTraining l).log = p.log ∧ (p.startTraining l).sidesHold := by
  obtain ⟨hlog, hheld⟩ := Part.changeLane_log_of_out (p := p) (l := l) hsides h (new := .training) rfl
    (enter := fun r => { r with training := r.training.begun, timers := { r.timers with probe := none } })
    (by rw [LaneRec.moved_of_up _ h (by decide)]) (log := id) Part.lanes_of_id (fun _ => rfl)
  rw [← Part.trainingBegun] at hlog hheld
  rw [p.startTraining_eq, Part.startPageTimer]
  refine ⟨?_, hheld.congr (fun d => congrArg SideRec.state (Part.sides_side ?_ d)) fun m => ?_⟩
  · rw [Part.modLane_log, Part.place_log, hlog]; rfl
  · exact (Part.modLane_sides _ _ _).trans (Part.modLane_sides _ _ _)
  by_cases hm : m = l
  · subst hm; rw [Part.modLane_lane_self, Part.place_lane_self]
  · rw [Part.modLane_lane_of_ne _ hm, Part.place_lane_of_ne _ hm]

/-! ### Pages in TRAINING (R72, R73) -/

section
variable (p : Part) (l : Lane) (g : BasePage)

/-- The pages seen, counted at a lane (R72). -/
def Part.pageSeen : Part := p.modLane l (fun r => { r with training := r.training.sees g })

theorem Part.laneWork_pageSeen : p.LaneWork (p.pageSeen l g) := p.laneWork_modLane l _

theorem Part.pageSeen_lane_self : (p.pageSeen l g).lane l = { p.lane l with training := (p.lane l).training.sees g } :=
  p.modLane_lane_self l _

/-- The record of a lane that queues a page and starts the page timer (R72, R74). -/
theorem Part.sendPage_lane_self (f : LaneRec → LaneRec) (page : Part → Frame) :
    ((((p.modLane l f).place l (page (p.modLane l f))).startPageTimer l).lane l) =
      { f (p.lane l) with queue := (f (p.lane l)).queue ++ [page (p.modLane l f)],
                          timers := { (f (p.lane l)).timers with page := some (p.now + 10000) } } := by
  rw [Part.startPageTimer, Part.modLane_lane_self, Part.place_lane_self, Part.modLane_lane_self]
  rfl

/-- Training in which own ack has been set (R72). -/
def Training.acked (t : Training) : Training := { t with ownAck := true, resends := 0 }
/-- Training that has reached phase NEXT (R72). -/
def Training.nexted (t : Training) : Training := { t with next := true, resends := 0 }

theorem Part.setAck_lane_self : ∃ f, (p.setAck l).lane l = { p.lane l with
      training := (p.lane l).training.acked, queue := (p.lane l).queue ++ [f],
      timers := { (p.lane l).timers with page := some (p.now + 10000) } } ∧
    f.kind = .page ∧ f.header.pageKind = 0 ∧ f.header.ack = true := by
  refine ⟨_, p.sendPage_lane_self l (fun r => { r with training := r.training.acked }) (fun q => q.basePage l), rfl, rfl, ?_⟩
  show ((p.modLane l _).lane l).training.ownAck = true
  rw [Part.modLane_lane_self]
  rfl

theorem Part.startNext_lane_self : ∃ f, (p.startNext l).lane l = { p.lane l with
      training := (p.lane l).training.nexted, queue := (p.lane l).queue ++ [f],
      timers := { (p.lane l).timers with page := some (p.now + 10000) } } ∧
    f.kind = .page ∧ f.header.pageKind = 1 ∧ f.header.toggle = (p.lane l).training.toggle := by
  refine ⟨_, p.sendPage_lane_self l (fun r => { r with training := r.training.nexted }) (fun q => q.nextPage l), rfl, rfl, ?_⟩
  show ((p.modLane l _).lane l).training.toggle = _
  rw [Part.modLane_lane_self]
  rfl

variable {p l}

theorem Part.trainBase_of_next (h : (p.lane l).training.next = true) (ack : Bool) : p.trainBase l ack g = p.pageSeen l g :=
  if_pos h

theorem Part.trainBase_of_acked (h : (p.lane l).training.next = false) (hack : (p.lane l).training.ownAck = true) :
    p.trainBase l true g = (p.pageSeen l g).startNext l :=
  (if_neg (by rw [h]; exact Bool.false_ne_true)).trans (if_pos hack)

theorem Part.trainBase_of_unacked (h : (p.lane l).training.next = false) (hack : (p.lane l).training.ownAck = false)
    (ack : Bool) : p.trainBase l ack g =
      if ((p.lane l).training.sees g).seen = 2 then (p.pageSeen l g).setAck l else p.pageSeen l g := by
  refine (if_neg (by rw [h]; exact Bool.false_ne_true)).trans
    ((if_neg (by rw [hack]; exact Bool.false_ne_true)).trans ?_)
  rw [← Part.pageSeen, p.pageSeen_lane_self]

/-- What every BASE page in TRAINING leaves of a lane's record (R72). -/
theorem Part.trainBase_lane (p : Part) (l : Lane) (ack : Bool) (g : BasePage) :
    ((p.trainBase l ack g).lane l).state = (p.lane l).state ∧
    ((p.trainBase l ack g).lane l).partnerLeaving = (p.lane l).partnerLeaving ∧
    ((p.trainBase l ack g).lane l).page = (p.lane l).page := by
  have hseen := p.pageSeen_lane_self l g
  obtain ⟨f, hnext, -⟩ := (p.pageSeen l g).startNext_lane_self l
  obtain ⟨f', hack', -⟩ := (p.pageSeen l g).setAck_lane_self l
  cases hn : (p.lane l).training.next with
  | true => rw [Part.trainBase_of_next g hn, hseen]; exact ⟨rfl, rfl, rfl⟩
  | false =>
    cases ha : (p.lane l).training.ownAck with
    | true =>
      cases ack with
      | true => rw [Part.trainBase_of_acked g hn ha, hnext, hseen]; exact ⟨rfl, rfl, rfl⟩
      | false =>
        have hstay : p.trainBase l false g = p.pageSeen l g :=
          (if_neg (by rw [hn]; exact Bool.false_ne_true)).trans ((if_pos ha).trans (if_neg Bool.false_ne_true))
        rw [hstay, hseen]; exact ⟨rfl, rfl, rfl⟩
    | false =>
      rw [Part.trainBase_of_unacked g hn ha]
      split
      · rw [hack', hseen]; exact ⟨rfl, rfl, rfl⟩
      · rw [hseen]; exact ⟨rfl, rfl, rfl⟩

end

theorem Part.laneWork_trainBase (p : Part) (l : Lane) (ack : Bool) (g : BasePage) : p.LaneWork (p.trainBase l ack g) := by
  have hseen := p.laneWork_pageSeen l g
  have hsend : ∀ (q : Part) (f : LaneRec → LaneRec) (page : Frame),
      q.LaneWork (((q.modLane l f).place l page).startPageTimer l) := fun q f page =>
    ((q.laneWork_modLane l f).trans ((q.modLane l f).streamsOnly_place l page).lanes).trans
      (((q.modLane l f).place l page).laneWork_modLane l _)
  unfold Part.trainBase
  dsimp only
  split
  · exact hseen
  · split
    · split
      · exact hseen.trans (hsend _ _ _)
      · exact hseen
    · split
      · exact hseen.trans (hsend _ _ _)
      · exact hseen

/-- The lane's page data written (R72). -/
def Part.paged (p : Part) (l : Lane) (g : BasePage) : Part := p.modLane l (fun r => { r with page := some g })

theorem Part.laneWork_paged (p : Part) (l : Lane) (g : BasePage) : p.LaneWork (p.paged l g) := p.laneWork_modLane l _

theorem Part.paged_lane_self (p : Part) (l : Lane) (g : BasePage) : (p.paged l g).lane l = { p.lane l with page := some g } :=
  p.modLane_lane_self l _

section
variable {p : Part} {l : Lane} {g : BasePage}

theorem Part.takeBasePage_of_mismatch {reason : Nat} (h : mismatchReason l g = some reason) (ack : Bool) :
    p.takeBasePage l ack g = (p.paged l g).mismatch l reason g.port := by
  unfold Part.takeBasePage; rw [h]; rfl

theorem Part.takeBasePage_of_match (h : mismatchReason l g = none) (ack : Bool) : p.takeBasePage l ack g =
    if (((p.takePartner l g.partner).paged l g).lane l).state = .training then
      ((p.takePartner l g.partner).paged l g).trainBase l ack g
    else (p.takePartner l g.partner).paged l g := by
  unfold Part.takeBasePage; rw [h]; rfl

end

theorem Part.laneWork_takeBasePage (p : Part) (l : Lane) (ack : Bool) (g : BasePage) :
    p.LaneWork (p.takeBasePage l ack g) := by
  have hpaged : ∀ q : Part, q.LaneWork (q.paged l g) := fun q => q.laneWork_paged l g
  cases h : mismatchReason l g with
  | some reason => rw [Part.takeBasePage_of_mismatch h]; exact (hpaged p).trans (Part.laneWork_mismatch _ l _ _)
  | none =>
    rw [Part.takeBasePage_of_match h]
    have htaken := (p.laneWork_takePartner l g.partner).trans (hpaged _)
    split
    · exact htaken.trans (Part.laneWork_trainBase _ l ack g)
    · exact htaken

/-- The count of pages sent again, started afresh (R74). -/
def Part.resendsCleared (p : Part) (l : Lane) : Part :=
  p.modLane l (fun r => { r with training := { r.training with resends := 0 } })

/-- The page data of a lane that has taken a BASE page, however it fares (R72, R79; log entry 43). -/
theorem Part.takeBasePage_page (p : Part) (l : Lane) (ack : Bool) (g : BasePage) :
    ((p.takeBasePage l ack g).lane l).page = some g := by
  cases h : mismatchReason l g with
  | some reason =>
    rw [Part.takeBasePage_of_mismatch h, Part.mismatch, Part.enterOff_lane_self _ _ _ (laneEvent_lanes _ _ _),
      Part.paged_lane_self]
  | none =>
    rw [Part.takeBasePage_of_match h]
    split
    · obtain ⟨-, -, hpage⟩ := Part.trainBase_lane ((p.takePartner l g.partner).paged l g) l ack g
      rw [hpage, Part.paged_lane_self]
    · rw [Part.paged_lane_self]

/-- The reasons of a mismatch in the order of R75's table. -/
theorem mismatchReason_of_table {l : Lane} {g : BasePage} {reason : Nat}
    (h : g.side ≠ sideByte l.side ∧ reason = 1 ∨
      g.side = sideByte l.side ∧ g.maxPayload.toNat < 256 ∧ reason = 2 ∨
      g.side = sideByte l.side ∧ 256 ≤ g.maxPayload.toNat ∧ g.resume = false ∧ reason = 3 ∨
      g.side = sideByte l.side ∧ 256 ≤ g.maxPayload.toNat ∧ g.resume = true ∧ g.partner = .configError ∧ reason = 4) :
    mismatchReason l g = some reason := by
  unfold mismatchReason
  rcases h with ⟨hs, rfl⟩ | ⟨hs, hm, rfl⟩ | ⟨hs, hm, hr, rfl⟩ | ⟨hs, hm, hr, hp, rfl⟩
  · simp [hs]
  · simp [hs, hm]
  · simp [hs, Nat.not_lt.mpr hm, hr]
  · simp [hs, Nat.not_lt.mpr hm, hr, hp]

theorem mismatchReason_none {l : Lane} {g : BasePage} (hs : g.side = sideByte l.side) (hm : 256 ≤ g.maxPayload.toNat)
    (hr : g.resume = true) (hp : g.partner ≠ .configError) : mismatchReason l g = none := by
  unfold mismatchReason
  simp [hs, Nat.not_lt.mpr hm, hr, hp]

/-! ### The page commands -/

theorem Part.laneWork_takeBase (p : Part) (l : Lane) (f : Frame) : p.LaneWork (p.takeBase l f) := by
  unfold Part.takeBase
  cases (p.lane l).state with
  | quiet => exact (p.laneWork_startTraining l).trans (Part.laneWork_takeBasePage _ l _ _)
  | training => exact p.laneWork_takeBasePage l _ _
  | qualify | active | degraded | held => exact p.laneWork_takePartner l _
  | off | down => exact .refl p

theorem Part.laneWork_takeNext (p : Part) (l : Lane) (f : Frame) : p.LaneWork (p.takeNext l f) := by
  have hstart : ∀ q : Part, q.LaneWork (q.startQualify l) := fun q => q.laneWork_changeLane l _ _ _ fun q => .refl q
  unfold Part.takeNext
  dsimp only
  split
  · exact (p.laneWork_modLane l _).trans (hstart _)
  · exact .refl p

theorem Part.laneWork_inOff (p : Part) (l : Lane) (f : Frame) : p.LaneWork (p.inOff l f) := by
  unfold Part.inOff
  split
  · exact p.laneWork_enterQuiet l _ (laneWork_laneEvent _ l _)
  · exact .refl p

theorem Part.laneWork_inService_page (p : Part) (l : Lane) (h : Header) (payload : List Byte) :
    p.LaneWork (p.inService l ⟨.page, h, payload⟩) := by
  unfold Part.inService
  rw [if_neg (by simp [destined])]
  split
  · exact (p.streamsOnly_raise _).lanes
  · show p.LaneWork (if h.pageKind = 0#2 then _ else _)
    split
    · exact p.laneWork_takeBase l _
    · exact p.laneWork_takeNext l _

theorem Part.laneWork_heard (p : Part) (l : Lane) : p.LaneWork (p.heard l) := p.laneWork_modLane l _
theorem Part.laneWork_reached (p : Part) (l : Lane) : p.LaneWork (p.reached l) :=
  (p.streamsOnly_raise (.lane l .framesReceived)).lanes.trans (Part.laneWork_heard _ l)

/-- Whatever the state of a lane, a PAGE ends no transaction and reaches no request (R45). -/
theorem Part.laneWork_arrive_page (p : Part) (l : Lane) (h : Header) (payload : List Byte) :
    p.LaneWork (p.arrive l ⟨.page, h, payload⟩ false) := by
  have hreceive : ∀ q : Part, q.LaneWork (q.receive l ⟨.page, h, payload⟩ false) := by
    intro q
    refine (q.laneWork_reached l).trans ?_
    show (q.reached l).LaneWork (if ((q.reached l).lane l).looped then (q.reached l).inLoopback l ⟨.page, h, payload⟩
      else if ((q.reached l).lane l).state = .off then (q.reached l).inOff l ⟨.page, h, payload⟩
      else (q.reached l).inService l ⟨.page, h, payload⟩)
    split
    · exact (Part.streamsOnly_raise (q.reached l) _).lanes
    · split
      · exact Part.laneWork_inOff _ l _
      · exact Part.laneWork_inService_page _ l h payload
  unfold Part.arrive
  split
  · exact (p.laneWork_modLane l LaneRec.unloop).trans (hreceive _)
  · exact .refl p

/-- The part as it judges a BASE page that has reached a lane in QUIET or TRAINING (R71, R72). -/
def Part.atPage (p : Part) (l : Lane) : Part :=
  if (p.lane l).state = .quiet then (p.reached l).startTraining l else p.reached l

theorem Part.arrive_basePage {p : Part} {l : Lane} (hs : (p.lane l).state = .quiet ∨ (p.lane l).state = .training)
    {h : Header} {payload : List Byte} (hkind : h.pageKind = 0) (hlen : payload.length = 8) :
    p.arrive l ⟨.page, h, payload⟩ false = (p.atPage l).takeBasePage l h.ack (BasePage.ofFrame h payload) := by
  have hoff : (p.lane l).state ≠ .off := by rcases hs with hs | hs <;> rw [hs] <;> decide
  have hform : malformedFrame ⟨.page, h, payload⟩ = false := by simp [malformedFrame, requiredLength, hlen, hkind]
  have hservice : (p.reached l).inService l ⟨.page, h, payload⟩ = (p.reached l).takeBase l ⟨.page, h, payload⟩ := by
    unfold Part.inService
    rw [if_neg (by simp [destined]), hform]
    exact if_pos hkind
  rw [Part.arrive_good hoff]
  refine hservice.trans ?_
  unfold Part.takeBase Part.atPage
  rw [Part.reached_lane_state]
  rcases hs with hs | hs <;> rw [hs] <;> rfl

theorem Part.laneWork_atPage (p : Part) (l : Lane) : p.LaneWork (p.atPage l) := by
  unfold Part.atPage
  split
  · exact (p.laneWork_reached l).trans (Part.laneWork_startTraining _ l)
  · exact p.laneWork_reached l

theorem Part.reached_lane_of_not_up {p : Part} {l : Lane} (h : (p.lane l).state.isUp = false) (m : Lane) :
    (p.reached l).lane m = p.lane m := by
  rw [Part.lane, Part.reached_lanes_of_not_up h]; rfl

section
variable {p : Part} {l : Lane}

theorem Part.atPage_of_training (hs : (p.lane l).state = .training) : p.atPage l = p.reached l := by
  unfold Part.atPage
  rw [hs]
  rfl

/-- A lane in TRAINING is judged as it stands. -/
theorem Part.atPage_lane_of_training (hs : (p.lane l).state = .training) : (p.atPage l).lane l = p.lane l := by
  rw [Part.atPage_of_training hs, Part.reached_lane_of_not_up (by rw [hs]; rfl)]

/-- A lane in QUIET is judged as its entry to TRAINING leaves it (R71, R72). -/
theorem Part.atPage_lane_of_quiet (hs : (p.lane l).state = .quiet) : ∃ f, (p.atPage l).lane l = { p.lane l with
      state := .training, training := (p.lane l).training.begun,
      timers := { (p.lane l).timers with probe := none, page := some (p.now + 10000) },
      queue := (p.lane l).queue ++ [f] } ∧
    f.kind = .page ∧ f.header.pageKind = 0 ∧ f.header.ack = false ∧
    f.header.toggle = !(p.lane l).training.toggle := by
  have hlane := Part.reached_lane_of_not_up (p := p) (l := l) (by rw [hs]; rfl) l
  have hout : ((p.reached l).lane l).state.inService = false := by rw [hlane, hs]; rfl
  have hbegun := Part.trainingBegun_lane_self hout
  refine ⟨((p.reached l).trainingBegun l).basePage l, ?_, rfl, rfl, ?_, ?_⟩
  · rw [Part.atPage, if_pos hs, Part.startTraining_lane_self hout, hlane, Part.reached_now]
  · show (((p.reached l).trainingBegun l).lane l).training.ownAck = false
    rw [hbegun]; rfl
  · show (((p.reached l).trainingBegun l).lane l).training.toggle = _
    rw [hbegun, hlane]; rfl

theorem Part.atPage_state (hs : (p.lane l).state = .quiet ∨ (p.lane l).state = .training) :
    ((p.atPage l).lane l).state = .training := by
  rcases hs with hs | hs
  · obtain ⟨f, hlane, -⟩ := Part.atPage_lane_of_quiet hs
    rw [hlane]
  · rw [Part.atPage_lane_of_training hs, hs]

/-- Nothing is logged before a BASE page is judged. -/
theorem Part.atPage_log (hu : p.unwatched) (hsides : p.sidesHold)
    (hs : (p.lane l).state = .quiet ∨ (p.lane l).state = .training) :
    (p.atPage l).log = p.log ∧ (p.atPage l).sidesHold ∧ (p.atPage l).timeCounter = p.timeCounter := by
  have hreached : (p.reached l).sidesHold :=
    hsides.congr (fun d => congrArg SideRec.state (Part.sides_side (p.reached_sides l) d)) fun m => p.reached_lane_state l m
  rcases hs with hs | hs
  · have hout : ((p.reached l).lane l).state.inService = false := by rw [Part.reached_lane_state, hs]; rfl
    obtain ⟨hlog, hheld⟩ := Part.startTraining_log hreached hout
    rw [Part.atPage, if_pos hs]
    refine ⟨hlog.trans (Part.reached_log hu l), hheld, ?_⟩
    rw [Part.timeCounter, ((p.reached l).laneWork_startTraining l).now, Part.reached_now]
    rfl
  · rw [Part.atPage_of_training hs]
    exact ⟨Part.reached_log hu l, hreached, p.reached_timeCounter l⟩

end

/-- The record of a lane that takes a matching BASE page with a present partner, before training follows (R79). -/
theorem Part.pagedOk_lane_self (p : Part) (l : Lane) (g : BasePage) :
    ((p.takePartner l .ok).paged l g).lane l = { p.lane l with partnerLeaving := false, page := some g } := by
  rw [Part.paged_lane_self, (p.takePartner_ok l).lane, Part.partnerBack, Part.modLane_lane_self, Part.partnered_lane_self]
  rfl

theorem Part.takeBasePage_ok {p : Part} {l : Lane} {g : BasePage} (hs : (p.lane l).state = .training)
    (hmatch : mismatchReason l g = none) (hok : g.partner = .ok) (ack : Bool) :
    p.takeBasePage l ack g = ((p.takePartner l .ok).paged l g).trainBase l ack g := by
  rw [Part.takeBasePage_of_match hmatch, hok, if_pos]
  rw [Part.pagedOk_lane_self]
  exact hs

theorem Training.sees_of_last {t : Training} {g : BasePage} (h : t.last = some g) :
    t.sees g = { t with seen := min 2 (t.seen + 1) } := if_pos h

theorem Training.begun_sees (t : Training) (g : BasePage) :
    t.begun.sees g = ⟨false, false, 1, some g, !t.toggle, 0⟩ := by
  unfold Training.sees
  rw [if_neg (by simp [Training.begun])]
  rfl

theorem Training.sees_toggle (t : Training) (g : BasePage) : (t.sees g).toggle = t.toggle := by
  unfold Training.sees
  split <;> rfl

/-- The pages seen after a BASE page, field by field (R72). -/
theorem Training.sees_eq (t : Training) (g : BasePage) : t.sees g =
    { t with seen := if t.last = some g then min 2 (t.seen + 1) else 1, last := some g } := by
  unfold Training.sees
  split
  · next h => cases t; simp_all
  · rfl

/-- Settles O25. -/
theorem pagesTrain : Obligations.PagesTrain := by
  refine ⟨fun p w l h payload g hkind hlen hg => ?_, fun p w l h payload hkind hlen hoff => ?_⟩
  · have hheader : ({ h with pageKind := if h.pageKind = 1#2 then 0#2 else h.pageKind } : Header) = h := by
      rw [hkind]; cases h; simp_all
    have hexec : exec (.receiveBasePage l h payload false) ⟨p, w⟩ = .next ⟨p.arrive l ⟨.page, h, payload⟩ false, w⟩ :=
      congrArg (fun x => Host.Outcome.next (State.mk (p.arrive l ⟨.page, x, payload⟩ false) w)) hheader
    have hwork := p.laneWork_arrive_page l h payload
    refine ⟨_, hexec, hwork.completions, hwork.intake, fun hs => ?_⟩
    rw [Part.arrive_basePage hs hkind hlen, ← hg]
    have hstate := Part.atPage_state hs
    have hout : ((p.atPage l).lane l).state.inService = false := by rw [hstate]; rfl
    refine ⟨Part.takeBasePage_page _ l _ g, fun reason htable => ?mismatch, fun hside hmax hresume => ⟨fun hfail => ?linkFail,
      fun hoffline => ?offline, fun hok => ?ok⟩⟩
    case mismatch =>
      rw [Part.takeBasePage_of_mismatch (mismatchReason_of_table htable)]
      refine ⟨?_, ?_, ?_, fun hu hsides => ?_⟩
      · rw [Part.mismatch, Part.enterOff_lane_self _ _ _ (laneEvent_lanes _ _ _)]
      · rw [Part.mismatch, Part.enterOff_lane_self _ _ _ (laneEvent_lanes _ _ _)]
      · rw [Part.mismatch, Part.enterOff_lane_self _ _ _ (laneEvent_lanes _ _ _)]
      · obtain ⟨hlog, hheld, htime⟩ := Part.atPage_log hu hsides hs
        have hpaged : ((p.atPage l).paged l g).sidesHold := hheld.congr (fun d => rfl) fun m => by
          by_cases hm : m = l
          · subst hm; rw [Part.paged_lane_self]
          · rw [Part.paged, Part.modLane_lane_of_ne _ hm]
        rw [Part.mismatch_log hpaged (by rw [Part.paged_lane_self]; exact hout)]
        show (p.atPage l).log.take _ _ _ _ (p.atPage l).timeCounter = _
        rw [hlog, htime]
    case linkFail =>
      have hmatch := mismatchReason_none hside hmax hresume (by rw [hfail]; decide)
      have hdown : (((p.atPage l).takePartner l g.partner).paged l g |>.lane l).state = .down := by
        rw [hfail, Part.paged_lane_self, Part.takePartner_linkFail, Part.forceDown_lane_self]
      rw [Part.takeBasePage_of_match hmatch, if_neg (by rw [hdown]; decide), hdown]
    case offline =>
      have hmatch := mismatchReason_none hside hmax hresume (by rw [hoffline]; decide)
      have hleft : (((p.atPage l).takePartner l g.partner).paged l g |>.lane l).state = .training ∧
          (((p.atPage l).takePartner l g.partner).paged l g |>.lane l).partnerLeaving = true := by
        rw [hoffline, Part.paged_lane_self, Part.takePartner_offline, Part.partnerOffline_lane_self]
        exact ⟨by rw [Part.partnered_lane_state]; exact hstate, rfl⟩
      obtain ⟨htstate, htleaving, -⟩ :=
        (((p.atPage l).takePartner l g.partner).paged l g).trainBase_lane l h.ack g
      rw [Part.takeBasePage_of_match hmatch, if_pos hleft.1, htstate, htleaving]
      exact hleft
    case ok =>
      have hmatch := mismatchReason_none hside hmax hresume (by rw [hok]; decide)
      have hready := (p.atPage l).pagedOk_lane_self l g
      have hnow : some (((((p.atPage l).takePartner l .ok).paged l g).pageSeen l g).now + 10000) = some (p.now + 10000) :=
        congrArg (fun t => some (t + 10000)) ((((p.laneWork_atPage l).trans (Part.laneWork_takePartner _ l .ok)).trans
          (Part.laneWork_paged _ l g)).trans (Part.laneWork_pageSeen _ l g)).now
      obtain ⟨htstate, htleaving, -⟩ := (((p.atPage l).takePartner l .ok).paged l g).trainBase_lane l h.ack g
      rw [Part.takeBasePage_ok hstate hmatch hok]
      refine ⟨?_, ?_, fun hquiet => ?quiet, fun htraining hnext hack hlast hseen => ?second,
        fun htraining hnext hack hheader => ?acked, fun htraining hnext => ?next⟩
      · rw [htstate, hready]; exact hstate
      · rw [htleaving, hready]
      case quiet =>
        obtain ⟨f, hlane, hf⟩ := Part.atPage_lane_of_quiet hquiet
        rw [hlane] at hready
        have hsees := (p.lane l).training.begun_sees g
        rw [Part.trainBase_of_unacked g (by rw [hready]; rfl) (by rw [hready]; rfl),
          if_neg (by rw [hready]; show ((p.lane l).training.begun.sees g).seen ≠ 2; rw [hsees]; exact (by decide : (1 : Nat) ≠ 2)),
          Part.pageSeen_lane_self, hready]
        exact ⟨f, hsees, rfl, rfl, rfl, hf⟩
      case second =>
        rw [Part.atPage_lane_of_training htraining] at hready
        have hsees := Training.sees_of_last hlast
        rw [hseen] at hsees
        rw [Part.trainBase_of_unacked g (by rw [hready]; exact hnext) (by rw [hready]; exact hack),
          if_pos (by rw [hready, hsees]; rfl)]
        obtain ⟨f, hlane, hkind, hpage, hfack⟩ := ((((p.atPage l).takePartner l .ok).paged l g).pageSeen l g).setAck_lane_self l
        rw [Part.pageSeen_lane_self, hready] at hlane
        rw [hlane]
        refine ⟨f, ?_, hnow, rfl, hkind, hpage, hfack⟩
        show ((p.lane l).training.sees g).acked = _
        rw [hsees]
        rfl
      case acked =>
        rw [Part.atPage_lane_of_training htraining] at hready
        rw [hheader, Part.trainBase_of_acked g (by rw [hready]; exact hnext) (by rw [hready]; exact hack)]
        obtain ⟨f, hlane, hkind, hpage, htoggle⟩ :=
          ((((p.atPage l).takePartner l .ok).paged l g).pageSeen l g).startNext_lane_self l
        rw [Part.pageSeen_lane_self, hready] at hlane htoggle
        rw [hlane]
        exact ⟨f, rfl, rfl, (p.lane l).training.sees_toggle g, rfl, hkind, hpage,
          htoggle.trans ((p.lane l).training.sees_toggle g)⟩
      case next =>
        rw [Part.atPage_lane_of_training htraining] at hready
        rw [Part.trainBase_of_next g (by rw [hready]; exact hnext), Part.pageSeen_lane_self, hready]
        exact ⟨rfl, rfl, (p.lane l).training.sees_eq g⟩
  · have hheader : ({ h with pageKind := 1 } : Header) = h := by cases h; simp_all
    have hexec : exec (.receiveNextPage l h payload false) ⟨p, w⟩ = .next ⟨p.arrive l ⟨.page, h, payload⟩ false, w⟩ :=
      congrArg (fun x => Host.Outcome.next (State.mk (p.arrive l ⟨.page, x, payload⟩ false) w)) hheader
    have harrive : p.arrive l ⟨.page, h, payload⟩ false = (p.reached l).takeNext l ⟨.page, h, payload⟩ := by
      have hform : malformedFrame ⟨.page, h, payload⟩ = false := by simp [malformedFrame, requiredLength, hlen, hkind]
      rw [Part.arrive_good hoff]
      unfold Part.inService
      rw [if_neg (by simp [destined]), hform]
      exact if_neg (show ¬h.pageKind = 0#2 by rw [hkind]; decide)
    refine ⟨_, hexec, (p.laneWork_arrive_page l h payload).completions, fun hs hnext hack htoggle => ?_, fun hnot => ?_⟩
    · have hlane := Part.reached_lane_of_not_up (p := p) (l := l) (by rw [hs]; rfl) l
      have htake : (p.reached l).takeNext l ⟨.page, h, payload⟩ = ((p.reached l).resendsCleared l).startQualify l :=
        if_pos (by rw [hlane]; exact ⟨hs, hnext, hack, htoggle⟩)
      have hself : ((p.reached l).resendsCleared l).lane l =
          { p.lane l with training := { (p.lane l).training with resends := 0 } } := by
        rw [Part.resendsCleared, Part.modLane_lane_self, hlane]
      have hstarted := Part.startQualify_lane_self (p := (p.reached l).resendsCleared l) (l := l) (by rw [hself, hs]; rfl)
      rw [hself] at hstarted
      rw [harrive, htake, hstarted]
      refine ⟨_, rfl, rfl, rfl, rfl, Part.burstFrames_payload _ _ _, fun f hf => Part.mem_burstFrames hf, rfl, ?_, ?_⟩
      · show (if (p.lane l).state == .training then some ((p.reached l).now + (p.reached l).params.beatUs) else _) = _
        rw [hs, Part.reached_now, Part.reached_params]; rfl
      · show (if (p.lane l).state == .training then some ((p.reached l).now + 2 * (p.reached l).params.beatUs) else _) = _
        rw [hs, Part.reached_now, Part.reached_params]; rfl
    · have hself := p.reached_lane_self l
      have htake : (p.reached l).takeNext l ⟨.page, h, payload⟩ = p.reached l :=
        if_neg (by rw [hself]; exact hnot)
      rw [harrive, htake, hself]
      exact ⟨rfl, rfl, rfl, p.reached_engine l, fun m hm => p.reached_lane_of_ne hm⟩

end Sys2Proof.Machine
end

section
/-! TEST frames (O26): the pattern checker's frames, the pass that ends a qualification, and the release of STALLED
streams that follows it. -/

namespace Sys2Proof.Machine

/-! ### The release of STALLED streams (R126) -/

/-- What every step of a fold but those for `n` keeps. -/
theorem foldl_keeps_but {I : Part → Prop} {f : Part → StreamId → Part} {n : StreamId}
    (hf : ∀ (q : Part) k, k ≠ n → I q → I (f q k)) : ∀ (xs : List StreamId), n ∉ xs → ∀ {q : Part}, I q → I (xs.foldl f q)
  | [], _, _, h => h
  | x :: xs, hn, q, h => by
    rw [List.mem_cons, not_or] at hn
    exact foldl_keeps_but hf xs hn.2 (hf q x (Ne.symm hn.1) h)

/-- What one stream's step of a fold over the streams makes of an observation that no other step moves. -/
theorem Part.foldl_observed {β : Type} {f : Part → StreamId → Part} (p : Part) (n : StreamId) (obs : Part → β) (b : β)
    (honly : ∀ (q : Part) k, q.StreamsOnly (f q k))
    (hstream : ∀ (q : Part) k, k ≠ n → (f q k).stream n = q.stream n)
    (hothers : ∀ (q : Part) k, k ≠ n → obs (f q k) = obs q)
    (hself : ∀ q : Part, p.StreamsOnly q → q.stream n = p.stream n → obs (f q n) = b) :
    obs (allStreams.foldl f p) = b := by
  have hmem : n ∈ allStreams := List.mem_finRange n
  obtain ⟨xs, ys, hsplit⟩ := List.append_of_mem hmem
  have hnodup : (xs ++ n :: ys).Nodup := hsplit ▸ List.nodup_finRange 64
  have hxs : n ∉ xs := fun h => List.disjoint_of_nodup_append hnodup h List.mem_cons_self
  have hys : n ∉ ys := (List.nodup_cons.mp (List.nodup_append.mp hnodup).2.1).1
  have hbefore : p.StreamsOnly (xs.foldl f p) ∧ (xs.foldl f p).stream n = p.stream n :=
    foldl_keeps_but (I := fun q => p.StreamsOnly q ∧ q.stream n = p.stream n)
      (fun q k hk hq => ⟨hq.1.trans (honly q k), (hstream q k hk).trans hq.2⟩) xs hxs ⟨.refl p, rfl⟩
  rw [hsplit, List.foldl_append, List.foldl_cons]
  exact foldl_keeps_but (I := fun q => obs q = b) (fun q k hk hq => (hothers q k hk).trans hq) ys hys
    (hself _ hbefore.1 hbefore.2)

/-- One step of the release (R126). -/
def Part.releaseOne (p : Part) (n : StreamId) : Part := if (p.stream n).state = .stalled then p.release n else p

theorem Part.releaseStalled_eq (p : Part) : p.releaseStalled = allStreams.foldl Part.releaseOne p := rfl

theorem Part.streamsOnly_releaseOne (p : Part) (n : StreamId) : p.StreamsOnly (p.releaseOne n) := by
  unfold Part.releaseOne
  split
  · exact (p.streamsOnly_modStream n _).trans (Part.streamsOnly_bind _ _ _)
  · exact .refl p

theorem Part.releaseOne_stream_of_ne (p : Part) {n m : StreamId} (h : m ≠ n) : (p.releaseOne n).stream m = p.stream m := by
  unfold Part.releaseOne
  split
  · exact p.modStream_bind_stream_of_ne h _ _
  · rfl

theorem Frame.isOf_stream {f : Frame} {n : StreamId} (h : f.isOf n = true) : f.header.stream = n := by
  unfold Frame.isOf at h
  simp at h
  exact h.2

theorem Part.nextAsk_isOf (p : Part) (n : StreamId) : (p.nextAsk n).isOf n = true := by
  simp [Part.nextAsk, Frame.isOf, Frame.isTransaction]

/-- An entry to BINDING leaves on every lane the other streams' frames as they are. -/
theorem Part.bind_queue_others (p : Part) {n k : StreamId} (h : k ≠ n) (kind : BindingKind) (m : Lane) :
    ((p.bind k kind).lane m).queue.filter (fun f => f.isOf n) = (p.lane m).queue.filter (fun f => f.isOf n) := by
  have hask : (p.nextAsk k).isOf n = false := by
    cases hf : (p.nextAsk k).isOf n with
    | false => rfl
    | true => exact absurd (Frame.isOf_stream hf) h
  have hadded : (if p.chooseFor k kind = some m then [p.nextAsk k] else []).filter (fun f => f.isOf n) = [] := by
    split
    · rw [List.filter_cons_of_neg (by simp [hask])]; rfl
    · rfl
  rw [Part.bind_queue, List.filter_append, hadded, List.append_nil, List.filter_filter]
  refine List.filter_congr fun f _ => ?_
  cases hn : f.isOf n with
  | false => rfl
  | true =>
    have hk : f.isOf k = false := by
      cases hf : f.isOf k with
      | false => rfl
      | true => exact absurd ((Frame.isOf_stream hf).symm.trans (Frame.isOf_stream hn)) h
    rw [hk]; rfl

/-- The frames of a stream after its entry to BINDING: the ASK on the lane chosen, and no other (R114). -/
theorem Part.bind_queue_own (p : Part) (n : StreamId) (kind : BindingKind) (m : Lane) :
    ((p.bind n kind).lane m).queue.filter (fun f => f.isOf n) =
      if p.chooseFor n kind = some m then [p.nextAsk n] else [] := by
  have hgone : ((p.lane m).queue.filter (fun f => !f.isOf n)).filter (fun f => f.isOf n) = [] := by
    rw [List.filter_filter, List.filter_eq_nil_iff]
    intro f _
    cases f.isOf n <;> simp
  rw [Part.bind_queue, List.filter_append, hgone, List.nil_append]
  split
  · exact List.filter_cons_of_pos (p.nextAsk_isOf n)
  · rfl

/-- The frames of a released stream: its ASK on the lane chosen, under its new epoch (R114, R126). -/
theorem Part.releaseStalled_queue {p : Part} {n : StreamId} (h : (p.stream n).state = .stalled) (m : Lane) :
    (p.releaseStalled.lane m).queue.filter (fun f => f.isOf n) =
      if p.choose (p.stream n).preferred .empty .plain = some m then
        [(p.modStream n (fun r => { r with tried := .empty })).nextAsk n]
      else [] := by
  refine p.foldl_observed n (fun q => (q.lane m).queue.filter (fun f => f.isOf n)) _ Part.streamsOnly_releaseOne
    (fun q k hk => q.releaseOne_stream_of_ne (Ne.symm hk)) (fun q k hk => ?_) fun q hq hqn => ?_
  · unfold Part.releaseOne
    split
    · exact Part.bind_queue_others (q.modStream k (fun r => { r with tried := .empty })) hk .plain m
    · rfl
  · have hstream : (q.modStream n (fun r => { r with tried := .empty })).stream n =
        (p.modStream n (fun r => { r with tried := .empty })).stream n := by
      rw [q.modStream_stream_self, p.modStream_stream_self, hqn]
    have hask : (q.modStream n (fun r => { r with tried := .empty })).nextAsk n =
        (p.modStream n (fun r => { r with tried := .empty })).nextAsk n := by
      unfold Part.nextAsk
      rw [hstream]
      simp only [Part.modStream_params, hq.params]
    have hchoose : (q.modStream n (fun r => { r with tried := .empty })).chooseFor n .plain =
        p.choose (p.stream n).preferred .empty .plain := by
      rw [Part.chooseFor, q.modStream_stream_self, hqn, ((q.streamsOnly_modStream n _)).choose, hq.choose]
    rw [Part.releaseOne, if_pos (by rw [hqn]; exact h), Part.release, Part.bind_queue_own, hchoose, hask]

/-- A STALLED stream with a stall deadline and no move logs nothing at its release (R125, R126). -/
theorem Part.releaseStalled_log {p : Part} (hu : p.unwatched)
    (h : ∀ n, (p.stream n).state = .stalled → (p.stream n).stallDeadline ≠ none ∧ (p.stream n).move = none) :
    p.releaseStalled.log = p.log := by
  have hstep : ∀ (q : Part) (k : StreamId), q.unwatched →
      (∀ n, (q.stream n).state = .stalled → (q.stream n).stallDeadline ≠ none ∧ (q.stream n).move = none) →
      (q.releaseOne k).log = q.log := by
    intro q k hqu hq
    unfold Part.releaseOne
    split
    · next hk =>
      obtain ⟨hdeadline, hmove⟩ := hq k hk
      rw [Part.release, Part.bind_log (p := q.modStream k (fun r => { r with tried := .empty })) hqu]
      split
      · rw [Part.stallLog, q.modStream_stream_self]
        dsimp only
        rw [hmove, if_neg hdeadline]
        rfl
      · rfl
    · rfl
  have hkeep : ∀ (q : Part) (k : StreamId),
      (∀ n, (q.stream n).state = .stalled → (q.stream n).stallDeadline ≠ none ∧ (q.stream n).move = none) →
      ∀ n, ((q.releaseOne k).stream n).state = .stalled →
        ((q.releaseOne k).stream n).stallDeadline ≠ none ∧ ((q.releaseOne k).stream n).move = none := by
    intro q k hq n hn
    by_cases hnk : n = k
    · subst hnk
      unfold Part.releaseOne at hn ⊢
      split at hn
      · next hs =>
        rw [if_pos hs]
        rw [Part.release, q.modStream_bind_stream_self] at hn ⊢
        cases hc : q.choose (q.stream n).preferred .empty .plain with
        | none => exact ⟨by simp [StreamRec.rebound, StreamRec.stalledBy], by simp [StreamRec.rebound, StreamRec.stalledBy]⟩
        | some l => rw [StreamRec.rebound_state, hc] at hn; simp at hn
      · next hs => exact absurd hn hs
    · rw [q.releaseOne_stream_of_ne hnk] at hn ⊢
      exact hq n hn
  exact (foldl_keeps (I := fun q => q.log = p.log ∧ q.unwatched ∧
      ∀ n, (q.stream n).state = .stalled → (q.stream n).stallDeadline ≠ none ∧ (q.stream n).move = none)
    (f := Part.releaseOne)
    (fun q k hq => ⟨(hstep q k hq.2.1 hq.2.2).trans hq.1,
      hq.2.1.of_params (q.streamsOnly_releaseOne k).params, hkeep q k hq.2.2⟩) allStreams ⟨rfl, hu, h⟩).1

/-! ### The entry to ACTIVE from QUALIFY (R77, R103, R104) -/

/-- The part at a lane's entry to ACTIVE from QUALIFY, before its side is judged. -/
def Part.passNoted (p : Part) (l : Lane) : Part :=
  laneEvent .laneUp l 1 (p.modLane l (fun r =>
    { (r.moved .active).freshStorm p.now with figure := 0, latency := 100, requalify := 0 }))

/-- The part at a lane's entry to ACTIVE from QUALIFY, before the streams take it. -/
def Part.passed (p : Part) (l : Lane) : Part := (p.passNoted l).sideTakes l (p.lane l).state .active

section
variable {p : Part} {l : Lane}

theorem Part.qualified_retimed (h : (p.lane l).state = .qualify) :
    (p.passed l).releaseStalled.Retimed (p.qualified l) := by
  have heq : p.qualified l = (p.passed l).streamsTake l (p.lane l).state .active := rfl
  rw [heq, h]
  exact Part.retimed_judgeReturns _ l

variable (p l)

theorem Part.passed_engine : (p.passed l).engine = p.engine := Part.sideTakes_engine _ _ _ _
theorem Part.passed_stream (n : StreamId) : (p.passed l).stream n = p.stream n := by
  rw [Part.stream, Part.passed_engine]; rfl
theorem Part.passed_params : (p.passed l).params = p.params := (Part.laneWork_sideTakes _ l _ _).params

theorem Part.passNoted_derivedSide : (p.passNoted l).derivedSide l.side =
    if (p.lane l.sibling).state.inService then .up else .impaired := by
  have hlane : ∀ m, (p.passNoted l).lane m = (p.modLane l (fun r =>
    { (r.moved .active).freshStorm p.now with figure := 0, latency := 100, requalify := 0 })).lane m := fun _ => rfl
  rw [Part.derivedSide_of_in, hlane, Part.modLane_lane_of_ne _ (Lane.sibling_ne l)]
  rw [hlane, Part.modLane_lane_self, LaneRec.moved_of_service _ rfl]
  rfl

/-- The side of a lane that has passed its qualification (R103). -/
theorem Part.passed_side : ((p.passed l).side l.side).state =
      (if (p.lane l.sibling).state.inService then .up else .impaired) ∧
    ((p.passed l).side l.side).lostSince = (p.side l.side).lostSince := by
  refine ⟨?_, ?_⟩
  · rw [Part.passed, Part.sideTakes_side_state, if_pos rfl, Part.passNoted_derivedSide]
  · rw [Part.passed, Part.sideTakes_lostSince, Part.passNoted_derivedSide, if_neg]
    · rfl
    · cases (p.lane l.sibling).state.inService <;> simp

/-- What a lane that passes its qualification logs with its side (R104). -/
theorem Part.passed_log : (p.passed l).log =
    if (p.side l.side).state = .lost then
      (p.log.take .laneUp (some l) none 1 p.timeCounter).take .sideRestored (some l) none
        (wholeMs (p.now - (p.side l.side).lostSince)) p.timeCounter
    else p.log.take .laneUp (some l) none 1 p.timeCounter := by
  have hup : (p.passNoted l).derivedSide l.side ≠ .lost := by
    rw [Part.passNoted_derivedSide]
    cases (p.lane l.sibling).state.inService <;> simp
  have hside : (p.passNoted l).side l.side = p.side l.side := rfl
  rw [Part.passed, Part.sideTakes_log, if_neg fun h => hup h.2, hside]
  by_cases hlost : (p.side l.side).state = .lost
  · rw [if_pos ⟨hlost, hup⟩, if_pos hlost]; rfl
  · rw [if_neg fun h => hlost h.1, if_neg hlost]; rfl

end

/-! ### The pattern checker (R77, R164) -/

/-- A burst with one more frame compared (R77). -/
def Burst.next (b : Burst) : Burst := { b with compared := b.compared + 1 }

/-- A lane whose checker has compared one more frame of its burst (R77). -/
def Part.compared (p : Part) (l : Lane) (b : Burst) (payload : List Byte) : Part :=
  p.modLane l (fun r =>
    { r with errorBytes := min 255 (r.errorBytes + differing payload (burstPayload b.compared)), checker := some b.next })

theorem Part.compared_lane_self (p : Part) (l : Lane) (b : Burst) (payload : List Byte) :
    (p.compared l b payload).lane l = { p.lane l with
      errorBytes := min 255 ((p.lane l).errorBytes + differing payload (burstPayload b.compared)),
      checker := some b.next } := p.modLane_lane_self l _
theorem Part.compared_lane_of_ne (p : Part) {l m : Lane} (h : m ≠ l) (b : Burst) (payload : List Byte) :
    (p.compared l b payload).lane m = p.lane m := p.modLane_lane_of_ne h _

theorem Part.check_of_idle {p : Part} {l : Lane} (h : (p.lane l).checker = none) (payload : List Byte) :
    p.check l payload = p.raise (.lane l .unexpectedFrames) := by
  unfold Part.check
  rw [h]

theorem Part.check_of_burst {p : Part} {l : Lane} {b : Burst} (h : (p.lane l).checker = some b) (payload : List Byte) :
    p.check l payload = if b.length ≤ b.compared + 1 then (p.compared l b payload).endBurst l b.next
      else p.compared l b payload := by
  unfold Part.check
  rw [h]
  rfl

/-- A burst that passes: the lane enters ACTIVE (R77). -/
theorem Part.endBurst_of_pass {p : Part} {l : Lane} {b : Burst} (howner : b.owner = .qualify)
    (hpass : (p.lane l).errorBytes ≤ p.params.qualTolerance) :
    p.endBurst l b = ((p.burstOver l).raise (.lane l .qualifyPasses)).qualified l := by
  rw [Part.endBurst_qualify howner, Part.judgeQualify, if_pos]
  rw [p.burstOver_lane_self]
  exact hpass

/-- The part with the last frame of a burst compared and the burst passed, before the lane enters ACTIVE (R77). -/
def Part.passing (p : Part) (l : Lane) (b : Burst) (payload : List Byte) : Part :=
  (((p.reached l).compared l b payload).burstOver l).raise (.lane l .qualifyPasses)

section
variable (p : Part) (l : Lane) (b : Burst) (payload : List Byte)

theorem Part.passing_rest : (p.passing l b payload).now = p.now ∧ (p.passing l b payload).params = p.params ∧
    (p.passing l b payload).timeCounter = p.timeCounter ∧ (∀ n, (p.passing l b payload).stream n = p.stream n) ∧
    (∀ d, (p.passing l b payload).side d = p.side d) := by
  have hnow : (p.passing l b payload).now = p.now := by rw [Part.passing, Part.raise_now]; exact p.reached_now l
  refine ⟨hnow, (Part.raise_params _ _).trans (p.reached_params l), ?_, fun n => ?_, fun d => ?_⟩
  · rw [Part.timeCounter, hnow]; rfl
  · rw [Part.passing, Part.raise_stream]; exact p.reached_stream l n
  · have hsides : (p.passing l b payload).sides = p.sides := by
      rw [Part.passing, Part.raise_sides]; exact p.reached_sides l
    exact Part.sides_side hsides d

theorem Part.passing_lane_state (m : Lane) : ((p.passing l b payload).lane m).state = (p.lane m).state := by
  rw [Part.passing, Part.raise_lane]
  by_cases hm : m = l
  · subst hm; rw [Part.burstOver_lane_self, Part.compared_lane_self, Part.reached_lane_state]
  · rw [Part.burstOver, Part.modLane_lane_of_ne _ hm, Part.compared_lane_of_ne _ hm, Part.reached_lane_state]

theorem Part.passing_log {p : Part} (hu : p.unwatched) (l : Lane) (b : Burst) (payload : List Byte) :
    (p.passing l b payload).log = p.log := by
  have hover : (((p.reached l).compared l b payload).burstOver l).unwatched := hu.of_params (p.reached_params l)
  rw [Part.passing, Part.unwatched_raise hover]
  exact Part.reached_log hu l

end

theorem LaneSet.empty_has (m : Lane) : LaneSet.empty.has m = false := by cases m <;> rfl

/-- What a release leaves of a STALLED stream (R114, R126). -/
theorem Part.releasedTo_spec (p : Part) (r : StreamRec) : (p.releasedTo r).epoch = r.epoch + 1 ∧
    (∀ m, (p.releasedTo r).tried.has m = false) ∧ (p.releasedTo r).hold = r.hold ∧
    (p.releasedTo r).nextSeq = r.nextSeq ∧ (p.releasedTo r).mark = r.mark ∧
    (p.releasedTo r).inflight = r.inflight.map OttEntry.requeued ∧
    (r.stallDeadline ≠ none → (p.releasedTo r).stallDeadline = r.stallDeadline) := by
  refine ⟨by simp [Part.releasedTo], fun m => ?_, by simp [Part.releasedTo], by simp [Part.releasedTo],
    by simp [Part.releasedTo], by simp [Part.releasedTo], fun h => ?_⟩
  · rw [Part.releasedTo, StreamRec.rebound_tried]; exact LaneSet.empty_has m
  · obtain ⟨t, ht⟩ := Option.ne_none_iff_exists'.mp h
    unfold Part.releasedTo
    cases p.choose r.preferred .empty .plain <;>
      simp [StreamRec.rebound, StreamRec.landed, StreamRec.stalledBy, StreamRec.opened, ht]

section
variable {p : Part} {l : Lane} {b : Burst} {payload : List Byte}

theorem Part.qualified_passing_retimed (hs : (p.lane l).state = .qualify) :
    ((p.passing l b payload).passed l).releaseStalled.Retimed ((p.passing l b payload).qualified l) :=
  Part.qualified_retimed (by rw [p.passing_lane_state]; exact hs)

/-- The lanes and sides that every choice of a release reads are those that it leaves (R112, R126). -/
theorem Part.qualified_choose (hs : (p.lane l).state = .qualify) (pref : Lane) (tried : LaneSet) (k : BindingKind) :
    ((p.passing l b payload).qualified l).choose pref tried k = ((p.passing l b payload).passed l).choose pref tried k :=
  ((Part.streamsOnly_releaseStalled _).trans (Part.qualified_passing_retimed hs).streamsOnly).choose pref tried k

/-- The record of every stream after a passed qualification, but for the return timer (R126, R141). -/
theorem Part.qualified_stream (hs : (p.lane l).state = .qualify) (n : StreamId) :
    ((p.passing l b payload).qualified l).stream n =
      { (if (p.stream n).state = .stalled then ((p.passing l b payload).passed l).releasedTo (p.stream n)
          else p.stream n) with returnTimer := (((p.passing l b payload).qualified l).stream n).returnTimer } := by
  obtain ⟨-, -, -, hstream, -⟩ := p.passing_rest l b payload
  have hreleased := ((p.passing l b payload).passed l).releaseStalled_stream n
  rw [Part.passed_stream, hstream] at hreleased
  rw [← hreleased]
  exact (Part.qualified_passing_retimed hs).stream n

/-- What a released stream chooses, and the frames it leaves (R114, R126). -/
theorem Part.qualified_released (hs : (p.lane l).state = .qualify) {n : StreamId} (hn : (p.stream n).state = .stalled) :
    match ((p.passing l b payload).qualified l).choose (p.stream n).preferred .empty ⟨none, none⟩ with
    | some m => (((p.passing l b payload).qualified l).stream n).state = .binding ∧
      (((p.passing l b payload).qualified l).stream n).carrier = some m ∧
      (((p.passing l b payload).qualified l).stream n).askAttempts = 1 ∧
      ∃ f, (((p.passing l b payload).qualified l).lane m).queue.filter (fun x => x.isOf n) = [f] ∧
        f.kind = .ask ∧ f.header.epoch = (p.stream n).epoch + 1 ∧ f.header.seq = (p.stream n).nextSeq
    | none => (((p.passing l b payload).qualified l).stream n).state = .stalled ∧
      (((p.passing l b payload).qualified l).stream n).carrier = none ∧
      (((p.passing l b payload).qualified l).stream n).askAttempts = 0 := by
  obtain ⟨-, -, -, hstream, -⟩ := p.passing_rest l b payload
  have hpassed : ((p.passing l b payload).passed l).stream n = p.stream n := by rw [Part.passed_stream, hstream]
  rw [Part.qualified_choose hs, Part.qualified_stream hs n, if_pos hn]
  unfold Part.releasedTo
  cases hc : ((p.passing l b payload).passed l).choose (p.stream n).preferred .empty ⟨none, none⟩ with
  | none =>
    have hc' : ((p.passing l b payload).passed l).choose (p.stream n).preferred .empty .plain = none := hc
    rw [hc']
    exact ⟨rfl, rfl, rfl⟩
  | some m =>
    have hc' : ((p.passing l b payload).passed l).choose (p.stream n).preferred .empty .plain = some m := hc
    have hqueue := Part.releaseStalled_queue (p := (p.passing l b payload).passed l) (n := n)
      (by rw [hpassed]; exact hn) m
    rw [hpassed, if_pos hc'] at hqueue
    rw [hc']
    show _ ∧ _ ∧ _ ∧ ∃ f, (((p.passing l b payload).qualified l).lane m).queue.filter (fun x => x.isOf n) = [f] ∧ _
    rw [(Part.qualified_passing_retimed hs).lane]
    refine ⟨rfl, rfl, rfl, _, hqueue, rfl, ?_, ?_⟩
    · show (((p.passing l b payload).passed l).modStream n _ |>.stream n).epoch + 1 = _
      rw [Part.modStream_stream_self, hpassed]
    · show (((p.passing l b payload).passed l).modStream n _ |>.stream n).nextSeq = _
      rw [Part.modStream_stream_self, hpassed]

/-- What a passed qualification logs where no release logs anything (R67, R104). -/
theorem Part.qualified_log (hs : (p.lane l).state = .qualify) (hu : p.unwatched)
    (hquiet : ∀ n, (p.stream n).state = .stalled → (p.stream n).stallDeadline ≠ none ∧ (p.stream n).move = none) :
    ((p.passing l b payload).qualified l).log = if (p.side l.side).state = .lost then
        (p.log.take .laneUp (some l) none 1 p.timeCounter).take .sideRestored (some l) none
          (wholeMs (p.now - (p.side l.side).lostSince)) p.timeCounter
      else p.log.take .laneUp (some l) none 1 p.timeCounter := by
  obtain ⟨hnow, hparams, htime, hstream, hside⟩ := p.passing_rest l b payload
  have hreleased := Part.releaseStalled_log (p := (p.passing l b payload).passed l)
    (hu.of_params ((Part.passed_params _ l).trans hparams))
    (fun n hn => by rw [Part.passed_stream, hstream] at hn ⊢; exact hquiet n hn)
  rw [(Part.qualified_passing_retimed hs).log, hreleased, Part.passed_log, hside, hnow, htime, Part.passing_log hu]

end

/-- Settles O26. -/
theorem testFrames : Obligations.TestFrames := by
  intro p w l h payload hlen hoff
  have hform : ∀ x : Header, malformedFrame ⟨.test, x, payload⟩ = false := fun x => by
    simp [malformedFrame, requiredLength, hlen]
  have hservice : ∀ x : Header, p.arrive l ⟨.test, x, payload⟩ false = (p.reached l).byKind l ⟨.test, x, payload⟩ := by
    intro x
    rw [Part.arrive_good hoff]
    unfold Part.inService
    rw [if_neg (by simp [destined]), hform]
    rfl
  refine ⟨fun hreflect => ?_, fun hreflect => ?_⟩
  · have hheader : ({ h with reflect := true } : Header) = h := by cases h; simp_all
    have harrive : p.arrive l ⟨.test, { h with reflect := true }, payload⟩ false =
        (p.reached l).place l ((p.reached l).testFrame false payload) := hservice _
    refine ⟨_, (p.reached l).testFrame false payload, congrArg (fun q => Host.Outcome.next (State.mk q w)) harrive, ?_, rfl,
      rfl, rfl, ?_, ?_, fun m hm => ?_⟩
    · rw [Part.place_lane_queue_self, p.reached_lane_self]
    · rw [Part.place_lane_self, p.reached_lane_self]
    · rw [Part.place_engine, p.reached_engine]
    · rw [Part.place_lane_of_ne _ hm, p.reached_lane_of_ne hm]
  · have harrive : p.arrive l ⟨.test, { h with reflect := false }, payload⟩ false = (p.reached l).check l payload :=
      hservice _
    have hself := p.reached_lane_self l
    refine ⟨_, congrArg (fun q => Host.Outcome.next (State.mk q w)) harrive, fun hidle => ?idle, fun b err hb herr =>
      ⟨fun hmore => ?more, fun hlast howner hs => ?last⟩⟩
    case idle =>
      rw [Part.check_of_idle (by rw [hself]; exact hidle)]
      refine ⟨by simp, by simp, ?_, ?_⟩
      · rw [Part.raise_lane, hself]
      · rw [Part.raise_counter_self, p.reached_counter_of_ne l (by simp)]
    case more =>
      rw [Part.check_of_burst (b := b) (by rw [hself]; exact hb), if_neg (Nat.not_le.mpr hmore), Part.compared_lane_self, hself]
      exact ⟨rfl, herr.symm, rfl, p.reached_engine l⟩
    case last =>
      have hcompared := (p.reached l).compared_lane_self l b payload
      rw [hself] at hcompared
      obtain ⟨hchecker, hbytes, -, -⟩ := Part.endBurst_lane ((p.reached l).compared l b payload) l b.next
      have hjudged := Part.endBurst_afterBurst (b := b.next) howner ((p.reached l).compared l b payload) l
      have hparams : ((p.reached l).compared l b payload).params = p.params := p.reached_params l
      rw [hcompared] at hbytes
      rw [hcompared, hparams] at hjudged
      rw [Part.check_of_burst (b := b) (by rw [hself]; exact hb), if_pos hlast]
      refine ⟨hchecker, hbytes.trans herr.symm, ?_, fun hpass => ?_⟩
      · rw [herr]; exact hjudged
      · have hend : ((p.reached l).compared l b payload).endBurst l b.next = (p.passing l b payload).qualified l :=
          Part.endBurst_of_pass howner (by rw [hcompared, hparams, ← herr]; exact hpass)
        rw [hend]
        have hqualified := Part.qualified_passing_retimed (b := b) (payload := payload) hs
        obtain ⟨-, -, -, -, hside⟩ := p.passing_rest l b payload
        have hsideEq : ((p.passing l b payload).qualified l).side l.side = ((p.passing l b payload).passed l).side l.side :=
          ((Part.streamsOnly_releaseStalled _).trans hqualified.streamsOnly).side l.side
        obtain ⟨hsideState, hsince⟩ := (p.passing l b payload).passed_side l
        refine ⟨?_, ?_, fun n hn => ?_, fun n hn => ?_, fun hu hquiet => Part.qualified_log hs hu hquiet⟩
        · rw [hsideEq, hsideState, p.passing_lane_state]
          simp only [LaneState.inService_iff]
        · rw [hsideEq, hsince, hside]
        · have hstream := Part.qualified_stream (b := b) (payload := payload) hs n
          rw [if_neg hn] at hstream
          exact hstream
        · have hstream := Part.qualified_stream (b := b) (payload := payload) hs n
          obtain ⟨hepoch, htried, hhold, hseq, hmark, hinflight, hdeadline⟩ :=
            ((p.passing l b payload).passed l).releasedTo_spec (p.stream n)
          refine ⟨?_, ?_, ?_, ?_, ?_, ?_, ?_, Part.qualified_released hs hn⟩ <;> rw [hstream, if_pos hn]
          · exact hepoch
          · exact htried
          · exact hhold
          · exact hseq
          · exact hmark
          · exact hinflight
          · exact hdeadline

end Sys2Proof.Machine
end

section
/-! The end of an event, planned moves, and the commands on lanes and streams (O43, O44, O45). -/

namespace Sys2Proof.Machine

/-! ### The end of an event of the stream engine (R87, R143) -/

theorem Part.judgeRestart_of_not {p : Part} {l : Lane} (h : (p.lane l).restartPending = false) : p.judgeRestart l = p :=
  if_neg fun hc => Bool.false_ne_true (h.symm.trans hc.1)

theorem Part.judgeRestart_of_carried {p : Part} {l : Lane} {n : StreamId} (h : (p.stream n).carrier = some l) :
    p.judgeRestart l = p :=
  if_neg fun hc => (p.carries_eq_false_iff l).mp hc.2 n h

/-- With nothing waiting to be judged, the end of an event changes nothing. -/
theorem Part.settle_of_settled {p : Part} (h : p.settled) : p.settle = p := by
  obtain ⟨hlanes, hservice⟩ := h
  rw [Part.settle, Part.judgeRestarts, Part.judgeRestart_of_not (hlanes .a0), Part.judgeRestart_of_not (hlanes .a1),
    Part.judgeRestart_of_not (hlanes .b0), Part.judgeRestart_of_not (hlanes .b1), Part.judgeQuiesce_of_service hservice]

theorem Part.settled.streamsOnly {p q : Part} (h : p.settled) (k : p.StreamsOnly q) : q.settled :=
  ⟨fun l => by rw [k.lane l]; exact h.1 l, by rw [k.intake]; exact h.2⟩

theorem Part.judgeQuiesce_completions (p : Part) : p.judgeQuiesce.completions = p.completions := by
  unfold Part.judgeQuiesce
  split
  · exact Part.setService_completions _ _
  · rfl

theorem Part.settle_completions (p : Part) : p.settle.completions = p.completions := by
  rw [Part.settle, Part.judgeQuiesce_completions]
  exact p.laneWork_judgeRestarts.completions

/-- What a field of a lane's record keeps at a restart of any lane, the end of an event keeps. -/
theorem Part.settle_lane_keeps {β : Type} (field : LaneRec → β) (l : Lane)
    (hfield : ∀ (q : Part) m, field ((q.judgeRestart m).lane l) = field (q.lane l)) (p : Part) :
    field (p.settle.lane l) = field (p.lane l) := by
  rw [Part.settle, (Part.aside_judgeQuiesce _).lane, Part.judgeRestarts, hfield, hfield, hfield, hfield]

theorem Part.restartLane_lane_of_ne (p : Part) {l m : Lane} (h : m ≠ l) : (p.restartLane l).lane m =
    { p.lane m with queue := ((p.restartLane l).lane m).queue } := by
  unfold Part.restartLane Part.enterQuiet
  exact p.changeLane_lane_of_ne h _ _ (laneEvent_lanes _ _ _)

theorem Part.settle_lane_pin (p : Part) (l : Lane) : (p.settle.lane l).pin = (p.lane l).pin := by
  refine Part.settle_lane_keeps LaneRec.pin l (fun q m => ?_) p
  unfold Part.judgeRestart
  split
  · by_cases hm : l = m
    · subst hm; rw [Part.restartLane, Part.enterQuiet_lane_self _ _ (laneEvent_lanes _ _ _)]
    · rw [Part.restartLane_lane_of_ne _ hm]
  · rfl

/-- A lane that carries a stream is not restarted (R87): it keeps its record but for its queue. -/
theorem Part.settle_lane_of_carried {p : Part} {l : Lane} {n : StreamId} (h : (p.stream n).carrier = some l) :
    p.settle.lane l = { p.lane l with queue := (p.settle.lane l).queue } := by
  have hstep : ∀ {q : Part} (m : Lane), (q.stream n).carrier = some l →
      (q.judgeRestart m).lane l = { q.lane l with queue := ((q.judgeRestart m).lane l).queue } ∧
      ((q.judgeRestart m).stream n).carrier = some l := by
    intro q m hq
    refine ⟨?_, by rw [q.judgeRestart_stream m n]; exact hq⟩
    by_cases hm : l = m
    · subst hm; rw [Part.judgeRestart_of_carried hq]
    · unfold Part.judgeRestart
      split
      · exact q.restartLane_lane_of_ne hm
      · rfl
  obtain ⟨h0, c0⟩ := hstep .a0 h
  obtain ⟨h1, c1⟩ := hstep .a1 c0
  obtain ⟨h2, c2⟩ := hstep .b0 c1
  obtain ⟨h3, -⟩ := hstep .b1 c2
  rw [Part.settle, (Part.aside_judgeQuiesce _).lane, Part.judgeRestarts, h3, h2, h1, h0]

/-! ### Planned moves (R131 to R135) -/

/-- The record of a stream in the drain of a move (R131, R132). -/
def StreamRec.inMove (r : StreamRec) (m : Move) : StreamRec :=
  { r with state := .draining, returnTimer := none, move := some m }

/-- The move that a stream starts now (R131). -/
def Part.newMove (p : Part) (target : Option Lane) (cause : MoveCause) (left : Lane) : Move :=
  ⟨target, cause, .running (p.now + p.params.drainLimit * 1000), left⟩

theorem Part.startMove_eq {p : Part} {n : StreamId} {l : Lane} (h : (p.stream n).carrier = some l) (t : Option Lane)
    (c : MoveCause) : p.startMove n t c = (p.modStream n (fun r => r.inMove (p.newMove t c l))).judgeDrain n := by
  unfold Part.startMove
  rw [h]
  rfl

/-- With entries in flight a move drains (R132). -/
theorem Part.startMove_of_inflight {p : Part} {n : StreamId} {l : Lane} (h : (p.stream n).carrier = some l)
    (hi : (p.stream n).inflight ≠ []) (t : Option Lane) (c : MoveCause) :
    p.startMove n t c = p.modStream n (fun r => r.inMove (p.newMove t c l)) := by
  rw [Part.startMove_eq h, Part.judgeDrain, if_neg]
  rintro ⟨-, hempty⟩
  rw [p.modStream_stream_self] at hempty
  exact hi hempty

/-- With none in flight a move's drain ends at once, in a binding (R132, R135). -/
theorem Part.startMove_of_empty {p : Part} {n : StreamId} {l : Lane} (h : (p.stream n).carrier = some l)
    (hi : (p.stream n).inflight = []) (t : Option Lane) (c : MoveCause) : p.startMove n t c =
      ((((p.modStream n (fun r => r.inMove (p.newMove t c l))).modStream n
        (fun r => { r with move := some (p.newMove t c l).over })).bind n (p.newMove t c l).kind).migrated n l) := by
  have hself := p.modStream_stream_self n (fun r => r.inMove (p.newMove t c l))
  rw [Part.startMove_eq h, Part.judgeDrain, if_pos (by rw [hself]; exact ⟨rfl, hi⟩), Part.endDrain, hself]
  rfl

theorem Part.startMove_stream_of_ne (p : Part) {n m : StreamId} (h : m ≠ n) (t : Option Lane) (c : MoveCause) :
    (p.startMove n t c).stream m = p.stream m := by
  cases hc : (p.stream n).carrier with
  | none => unfold Part.startMove; rw [hc]
  | some l =>
    by_cases hi : (p.stream n).inflight = []
    · rw [Part.startMove_of_empty hc hi]
      rw [Part.migrated_stream, Part.modStream_bind_stream_of_ne _ h, Part.modStream_stream_of_ne _ h]
    · rw [Part.startMove_of_inflight hc hi, Part.modStream_stream_of_ne _ h]

theorem Part.startMove_stream_of_inflight {p : Part} {n : StreamId} {l : Lane} (h : (p.stream n).carrier = some l)
    (hi : (p.stream n).inflight ≠ []) (t : Option Lane) (c : MoveCause) :
    (p.startMove n t c).stream n = (p.stream n).inMove (p.newMove t c l) := by
  rw [Part.startMove_of_inflight h hi, p.modStream_stream_self]

theorem Part.startMove_stream_of_empty {p : Part} {n : StreamId} {l : Lane} (h : (p.stream n).carrier = some l)
    (hi : (p.stream n).inflight = []) (t : Option Lane) (c : MoveCause) : (p.startMove n t c).stream n =
      ((p.stream n).inMove (p.newMove t c l).over).rebound p.now (p.newMove t c l).kind p.stallEnd
        (p.choose (p.stream n).preferred (p.stream n).tried (p.newMove t c l).kind) := by
  have honly := p.streamsOnly_modStream n (fun r => r.inMove (p.newMove t c l))
  rw [Part.startMove_of_empty h hi]
  rw [Part.migrated_stream, Part.modStream_bind_stream_self, p.modStream_stream_self, honly.now, honly.stallEnd, honly.choose]
  rfl

theorem Part.judgeLeaving_eq {p : Part} {n : StreamId} {l : Lane} (h : (p.stream n).carrier = some l) :
    p.judgeLeaving n =
      if (p.stream n).state = .bound ∧ (p.stream n).move = none ∧ (p.lane l).leaving = true then
        p.startMove n (p.chooseFor n ⟨none, some l⟩) .leaving
      else p := by
  unfold Part.judgeLeaving
  rw [h]

theorem Part.judgeLeaving_stream_of_ne (p : Part) {n m : StreamId} (h : m ≠ n) :
    (p.judgeLeaving n).stream m = p.stream m := by
  unfold Part.judgeLeaving
  split
  · rfl
  · split
    · exact p.startMove_stream_of_ne h _ _
    · rfl

/-- What the leaving rule does to a stream with entries in flight (R134). -/
theorem Part.leavingMoves_stream_of_inflight {p : Part} {l : Lane} {n : StreamId} (h : (p.stream n).carrier = some l)
    (hi : (p.stream n).inflight ≠ []) : (p.leavingMoves l).stream n =
      if (p.stream n).state = .bound ∧ (p.stream n).move = none ∧ (p.lane l).leaving = true then
        (p.stream n).inMove (p.newMove (p.chooseFor n ⟨none, some l⟩) .leaving l)
      else p.stream n := by
  refine p.foldl_observed n (fun q => q.stream n) _ (fun q k => ?_) (fun q k hk => ?_) (fun q k hk => ?_)
    fun q hq hqn => ?_
  · split
    · exact q.streamsOnly_judgeLeaving k
    · exact .refl q
  · split
    · exact q.judgeLeaving_stream_of_ne (Ne.symm hk)
    · rfl
  · split
    · exact q.judgeLeaving_stream_of_ne (Ne.symm hk)
    · rfl
  · have hc : (q.stream n).carrier = some l := by rw [hqn]; exact h
    have hmove : ∀ t, q.newMove t .leaving l = p.newMove t .leaving l := fun t => by
      rw [Part.newMove, hq.now, hq.params]; rfl
    rw [if_pos hc, Part.judgeLeaving_eq hc, hqn, hq.leaving]
    split
    · rw [Part.startMove_stream_of_inflight hc (by rw [hqn]; exact hi), hqn, hmove, Part.chooseFor, hqn, hq.choose]
      rfl
    · exact hqn

/-- A stream with entries in flight keeps its carrier through the leaving rule. -/
theorem Part.leavingMoves_carrier {p : Part} {l : Lane} {n : StreamId} (h : (p.stream n).carrier = some l)
    (hi : (p.stream n).inflight ≠ []) : ((p.leavingMoves l).stream n).carrier = some l := by
  rw [Part.leavingMoves_stream_of_inflight h hi]
  split
  · exact h
  · exact h

/-! ### O44: ENABLE, DISABLE and RESTART -/

section
variable {p : Part} (hport : p.port.burst = none)
include hport

/-- A management command on a lane outside the encoding is refused BAD_OPERAND (R174). -/
theorem manage_badLane {b : Byte} (hb : laneOfByte b = none) (w : List Instr) (f : Part → Lane → Part) :
    (State.mk p w).manage (fun q => q.withOperand (laneOfByte b) (f q)) = .next ⟨p.reply .badOperand, w⟩ := by
  rw [State.manage_of_free hport, hb]
  rfl

theorem manage_lane {b : Byte} {l : Lane} (hb : laneOfByte b = some l) (w : List Instr) (f : Part → Lane → Part) :
    (State.mk p w).manage (fun q => q.withOperand (laneOfByte b) (f q)) = .next ⟨f p l, w⟩ := by
  rw [State.manage_of_free hport, hb]
  rfl

end

theorem Part.reply_lane (p : Part) (st : Status) (l : Lane) : (p.reply st).lane l = p.lane l := rfl

theorem Part.disableLane_of_up {p : Part} {l : Lane} (h : (p.lane l).state ≠ .off) : p.disableLane l =
    p.enterOff l .disabled (laneEvent .laneDown l (bytePair DownCause.disabled.code 0)) := if_neg h

/-- An entry to OFF takes every stream off a lane in service (R66). -/
theorem Part.enterOff_carrier {p : Part} {l : Lane} (h : (p.lane l).state.inService = true) (reason : OffReason)
    {log : Part → Part} (hlog : ∀ q : Part, (log q).lanes = q.lanes) (n : StreamId) :
    ((p.enterOff l reason log).stream n).carrier ≠ some l := by
  unfold Part.enterOff Part.changeLane
  refine Part.streamsTake_carrier_of_exit h rfl ?_ n
  rw [Part.moveLane_lane_self _ _ _ _ hlog, LaneRec.moved_of_out _ (.inr (.inr rfl))]
  rfl

/-- A restart made pending, as the leaving rule leaves it (R87, R134). -/
def Part.restartMarked (p : Part) (l : Lane) : Part :=
  let q := p.modLane l (fun r => { r with restartPending := true })
  (if (p.lane l).leaving then q else q.leavingMoves l).judgeReturns l

theorem Part.pendRestart_eq (p : Part) (l : Lane) : p.pendRestart l = (p.restartMarked l).settle := rfl

theorem Part.streamsOnly_restartMarked (p : Part) (l : Lane) :
    (p.modLane l (fun r => { r with restartPending := true })).StreamsOnly (p.restartMarked l) := by
  unfold Part.restartMarked
  dsimp only
  split
  · exact Part.streamsOnly_judgeReturns _ l
  · exact (Part.streamsOnly_leavingMoves _ l).trans (Part.streamsOnly_judgeReturns _ l)

theorem Part.restartMarked_carrier {p : Part} {l : Lane} {n : StreamId} (h : (p.stream n).carrier = some l)
    (hi : (p.stream n).inflight ≠ []) : ((p.restartMarked l).stream n).carrier = some l := by
  have hmoved : ((if (p.lane l).leaving then p.modLane l (fun r => { r with restartPending := true })
      else (p.modLane l (fun r => { r with restartPending := true })).leavingMoves l).stream n).carrier = some l := by
    split
    · exact h
    · exact Part.leavingMoves_carrier (p := p.modLane l (fun r => { r with restartPending := true })) h hi
  rw [Part.restartMarked, (Part.retimed_judgeReturns _ l).stream n]
  exact hmoved

/-- A RESTART of a lane that carries a stream with entries in flight leaves the lane waiting (R87). -/
theorem Part.pendRestart_lane {p : Part} {l : Lane} {n : StreamId} (h : (p.stream n).carrier = some l)
    (hi : (p.stream n).inflight ≠ []) : ((p.pendRestart l).lane l).state = (p.lane l).state ∧
      ((p.pendRestart l).lane l).restartPending = true := by
  rw [p.pendRestart_eq, Part.settle_lane_of_carried (Part.restartMarked_carrier h hi),
    (p.streamsOnly_restartMarked l).lane l, Part.modLane_lane_self]
  exact ⟨rfl, rfl⟩

/-- Settles O44. -/
theorem laneCommands : Obligations.LaneCommands := by
  intro p w b hport
  refine ⟨fun hb c hc => ?_, fun l hb => ⟨?enable, ?disable, ?restart⟩⟩
  · have hexec : exec c ⟨p, w⟩ = .next ⟨p.reply .badOperand, w⟩ := by
      simp only [List.mem_cons, List.not_mem_nil, or_false] at hc
      rcases hc with rfl | rfl | rfl | rfl | rfl | rfl | rfl <;> exact manage_badLane hport hb w _
    exact ⟨_, hexec, rfl, rfl, Part.sameButResponse_reply p _⟩
  case enable =>
    refine ⟨_, manage_lane hport hb w _, rfl, fun hs => ?_, fun hs => ?_⟩
    · rw [if_neg hs]; exact Part.sameButResponse_reply p _
    · refine ⟨p.probeFrame, ?_⟩
      rw [Part.reply_lane, if_pos hs, p.enterQuiet_lane_self l Part.lanes_of_id, hs]
      exact ⟨rfl, rfl, rfl, rfl, rfl, rfl, rfl, rfl⟩
  case disable =>
    refine ⟨_, manage_lane hport hb w _, rfl, fun hs => ?_, fun hs => ?_⟩
    · have hdisable : p.disableLane l = p.modLane l (fun r => { r with offReason := some .disabled }) := if_pos hs
      rw [hdisable]
      refine ⟨?_, fun m hm => ?_, rfl, rfl⟩
      · rw [Part.reply_lane, Part.modLane_lane_self]
      · rw [Part.reply_lane, Part.modLane_lane_of_ne _ hm]
    · rw [Part.reply_lane, Part.disableLane_of_up hs, Part.enterOff_lane_self _ _ _ (laneEvent_lanes _ _ _)]
      refine ⟨rfl, rfl, rfl, rfl, rfl, fun n => ?_⟩
      cases hin : (p.lane l).state.inService with
      | true => rw [Part.reply_stream]; exact .inl (Part.enterOff_carrier hin _ (laneEvent_lanes _ _ _) n)
      | false => exact .inr rfl
  case restart =>
    refine ⟨_, manage_lane hport hb w _, fun hs => ?_, fun hs hp => ?_, fun hs hp hfree => ?_, fun hs hp hcarried => ?_⟩
    · rw [show p.restartCommand l = p.reply .notNow from if_pos hs]
      exact ⟨rfl, Part.sameButResponse_reply p _⟩
    · rw [show p.restartCommand l = p.reply .ok from (if_neg hs).trans (if_pos hp)]
      exact ⟨rfl, Part.sameButResponse_reply p _⟩
    · have hcarries := (p.carries_eq_false_iff l).mpr hfree
      rw [show p.restartCommand l = (p.restartLane l).reply .ok from
        (if_neg hs).trans ((if_neg (by rw [hp]; exact Bool.false_ne_true)).trans
          (if_neg (by rw [hcarries]; exact Bool.false_ne_true))), Part.reply_lane, Part.restartLane,
        p.enterQuiet_lane_self l (laneEvent_lanes _ _ _)]
      exact ⟨rfl, rfl, rfl⟩
    · obtain ⟨n, hn, hi⟩ := hcarried
      have hcarries : p.carries l = true := by
        cases hc : p.carries l with
        | true => rfl
        | false => exact absurd hn ((p.carries_eq_false_iff l).mp hc n)
      rw [show p.restartCommand l = (p.pendRestart l).reply .accepted from
        (if_neg hs).trans ((if_neg (by rw [hp]; exact Bool.false_ne_true)).trans (if_pos hcarries)), Part.reply_lane]
      exact ⟨rfl, Part.pendRestart_lane hn hi⟩

end Sys2Proof.Machine
end

section
/-! SMOV (O43) and the pins (O45). -/

namespace Sys2Proof.Machine

theorem LaneRec.leaving_iff (r : LaneRec) :
    r.leaving = true ↔ r.pin = .out ∨ r.partnerLeaving = true ∨ r.restartPending = true := by
  simp [LaneRec.leaving, or_assoc]

theorem LaneRec.moveTarget_eq_false_iff (r : LaneRec) : r.moveTarget = false ↔
    r.state ≠ .active ∨ r.pin = .out ∨ r.partnerLeaving = true ∨ r.restartPending = true := by
  rw [← r.leaving_iff]
  unfold LaneRec.moveTarget
  cases r.leaving <;> simp

theorem Part.moveStream_completions (p : Part) (n : StreamId) (l : Lane) :
    (p.moveStream n l).completions = p.completions := by
  unfold Part.moveStream
  split_ifs
  · rfl
  · rfl
  · rfl
  · rfl
  · exact (Part.settle_completions _).trans (p.streamsOnly_startMove n (some l) .manual).completions

/-! ### O43: SMOV -/

/-- The move that SMOV starts, at the end of its event. -/
theorem Part.settle_startMove_of_inflight {p : Part} {n : StreamId} {l0 : Lane} (h : (p.stream n).carrier = some l0)
    (hi : (p.stream n).inflight ≠ []) (t : Option Lane) (c : MoveCause) :
    (((p.startMove n t c).settle).stream n).state = .draining ∧
    (((p.startMove n t c).settle).stream n).carrier = some l0 ∧
    (((p.startMove n t c).settle).stream n).epoch = (p.stream n).epoch ∧
    (((p.startMove n t c).settle).stream n).inflight = (p.stream n).inflight ∧
    (((p.startMove n t c).settle).stream n).move = some (p.newMove t c l0) := by
  rw [Part.settle_stream, Part.startMove_stream_of_inflight h hi]
  exact ⟨rfl, h, rfl, rfl, rfl⟩

/-- A MANUAL move of a stream with nothing in flight binds to an eligible target at once (R108, R135). -/
theorem Part.settle_startMove_of_target {p : Part} {n : StreamId} {l0 l : Lane} (h : (p.stream n).carrier = some l0)
    (hi : (p.stream n).inflight = []) (hl : p.eligible (p.stream n).tried (some l0) l = true) :
    (((p.startMove n (some l) .manual).settle).stream n).state = .binding ∧
    (((p.startMove n (some l) .manual).settle).stream n).carrier = some l ∧
    (((p.startMove n (some l) .manual).settle).stream n).epoch = (p.stream n).epoch + 1 := by
  have hchoose : p.choose (p.stream n).preferred (p.stream n).tried (p.newMove (some l) .manual l0).kind = some l :=
    Part.choose_of_distinguished hl
  rw [Part.settle_stream, Part.startMove_stream_of_empty h hi, hchoose]
  exact ⟨rfl, rfl, rfl⟩

/-- Settles O43. -/
theorem streamMoveJudged : Obligations.StreamMoveJudged := by
  intro p w stream target n l hport hn hl
  have hexec : exec (.smov stream target) ⟨p, w⟩ = .next ⟨p.moveStream n l, w⟩ := by
    refine (State.manage_of_free hport w _).trans ?_
    rw [hn, hl]
    rfl
  have hdata : (p.moveStream n l).port.data = [] := by
    unfold Part.moveStream
    split_ifs <;> exact Part.reply_data _ _
  have hbusy := Part.sameButResponse_reply p
  refine ⟨_, hexec, hdata, p.moveStream_completions n l, ?_⟩
  unfold Part.moveStream
  simp only [LaneRec.moveTarget_eq_false_iff]
  split_ifs with hsame hmove hstate htarget
  · exact ⟨rfl, hbusy _⟩
  · exact ⟨rfl, hbusy _⟩
  · exact ⟨rfl, hbusy _⟩
  · exact ⟨rfl, hbusy _⟩
  · refine ⟨rfl, fun l0 hl0 => ⟨fun hi => ?_, fun hi htried => ?_⟩⟩
    · exact Part.settle_startMove_of_inflight hl0 hi _ _
    · have hready : p.eligible (p.stream n).tried (some l0) l = true := by
        obtain ⟨hactive, hpin, hleaving, hrestart⟩ :
            (p.lane l).state = .active ∧ (p.lane l).pin ≠ .out ∧ (p.lane l).partnerLeaving = false ∧
              (p.lane l).restartPending = false := by simpa [not_or] using htarget
        exact (p.eligible_iff _ _ _).mpr ⟨.inl hactive, hpin, hleaving, hrestart, htried, fun he => hsame (by rw [hl0, he])⟩
      exact Part.settle_startMove_of_target hl0 hi hready

/-! ### O45: the pins -/

/-- Without KEEP a threshold evaluation leaves the suppressed flags alone (R86). -/
theorem Part.evaluate_lane_suppressed {p : Part} {l : Lane} (h : (p.lane l).pin ≠ .keep) :
    ((p.evaluate l).lane l).suppressed = (p.lane l).suppressed := by
  rw [p.evaluate_lane]
  rcases p.evaluateLane_cases l with he | ⟨hpin, -⟩ | ⟨-, he⟩ | ⟨-, he⟩ | ⟨-, he⟩
  · rw [he]
  · exact absurd hpin h
  · rw [he, p.downLane_lane_self]
  · rw [he, p.degradeLane_lane_self]
  · rw [he, p.recoverLane_lane_self]; rfl

/-- A lane whose pin has left KEEP, before its figure is judged (R86). -/
def Part.unkept (p : Part) (l : Lane) : Part := p.modLane l (fun r => { r with pin := .unpinned, suppressed := false })

theorem Part.unkept_lane_self (p : Part) (l : Lane) :
    (p.unkept l).lane l = { p.lane l with pin := .unpinned, suppressed := false } := p.modLane_lane_self l _

theorem Part.leaveKeep_of_keep {p : Part} {l : Lane} (h : (p.lane l).pin = .keep) :
    p.leaveKeep l = (p.unkept l).evaluate l := if_pos h
theorem Part.leaveKeep_of_not {p : Part} {l : Lane} (h : (p.lane l).pin ≠ .keep) : p.leaveKeep l = p := if_neg h

theorem Part.leaveKeep_figure (p : Part) (l : Lane) : ((p.leaveKeep l).lane l).figure = (p.lane l).figure := by
  by_cases h : (p.lane l).pin = .keep
  · rw [Part.leaveKeep_of_keep h, Part.evaluate_lane_figure, p.unkept_lane_self]
  · rw [Part.leaveKeep_of_not h]

/-- A lane's pin set. -/
def Part.pinned (p : Part) (l : Lane) (pin : Pin) : Part := p.modLane l (fun r => { r with pin := pin })

theorem Part.pinned_lane_self (p : Part) (l : Lane) (pin : Pin) : (p.pinned l pin).lane l = { p.lane l with pin := pin } :=
  p.modLane_lane_self l _
theorem Part.pinned_lane_of_ne (p : Part) {l m : Lane} (h : m ≠ l) (pin : Pin) : (p.pinned l pin).lane m = p.lane m :=
  p.modLane_lane_of_ne h _

/-- The part at a PIN_OUT before its event ends (R85, R134). -/
def Part.pinnedOut (p : Part) (l : Lane) : Part :=
  (if ((p.leaveKeep l).lane l).leaving then (p.leaveKeep l).pinned l .out
    else ((p.leaveKeep l).pinned l .out).leavingMoves l).judgeReturns l

theorem Part.pinOut_of_not_out {p : Part} {l : Lane} (h : (p.lane l).pin ≠ .out) : p.pinOut l = (p.pinnedOut l).settle :=
  if_neg h

theorem Part.streamsOnly_pinnedOut (p : Part) (l : Lane) : ((p.leaveKeep l).pinned l .out).StreamsOnly (p.pinnedOut l) := by
  unfold Part.pinnedOut
  split
  · exact Part.streamsOnly_judgeReturns _ l
  · exact (Part.streamsOnly_leavingMoves _ l).trans (Part.streamsOnly_judgeReturns _ l)

theorem Part.pinOut_pin (p : Part) (l : Lane) : ((p.pinOut l).lane l).pin = .out := by
  by_cases h : (p.lane l).pin = .out
  · rw [show p.pinOut l = p from if_pos h, h]
  · rw [Part.pinOut_of_not_out h, Part.settle_lane_pin, (p.streamsOnly_pinnedOut l).lane l, Part.pinned_lane_self]

theorem Part.settled.pinned {p : Part} (h : p.settled) (l : Lane) (pin : Pin) : (p.pinned l pin).settled := by
  refine ⟨fun m => ?_, h.2⟩
  by_cases hm : m = l
  · subst hm; rw [Part.pinned_lane_self]; exact h.1 m
  · rw [Part.pinned_lane_of_ne _ hm]; exact h.1 m

/-- A lane that was not leaving starts LEAVING moves as its pin becomes OUT (R85, R134). -/
theorem Part.pinOut_of_unpinned {p : Part} {l : Lane} (hs : p.settled) (hpin : (p.lane l).pin = .unpinned)
    (hleaving : (p.lane l).partnerLeaving = false) :
    p.pinOut l = (((p.pinned l .out).leavingMoves l).judgeReturns l) := by
  have hkeep : p.leaveKeep l = p := Part.leaveKeep_of_not (by rw [hpin]; decide)
  have hstays : (p.lane l).leaving = false := by
    cases h : (p.lane l).leaving with
    | false => rfl
    | true =>
      rcases (p.lane l).leaving_iff.mp h with h | h | h
      · rw [hpin] at h; exact absurd h (by decide)
      · exact absurd (hleaving.symm.trans h) Bool.false_ne_true
      · exact absurd ((hs.1 l).symm.trans h) Bool.false_ne_true
  have hout : p.pinnedOut l = ((p.pinned l .out).leavingMoves l).judgeReturns l := by
    rw [Part.pinnedOut, hkeep, hstays]
    rfl
  have hsettled := (hs.pinned l .out).streamsOnly
    ((Part.streamsOnly_leavingMoves _ l).trans (Part.streamsOnly_judgeReturns _ l))
  rw [Part.pinOut_of_not_out (by rw [hpin]; decide), hout, Part.settle_of_settled hsettled]

theorem Part.reply_log (p : Part) (st : Status) : (p.reply st).log = p.log := rfl

theorem Part.pinKeep_retimed (p : Part) (l : Lane) : (p.pinned l .keep).Retimed
    ((p.modLane l (fun r => { r with pin := .keep })).judgeReturns l) := (p.pinned l .keep).retimed_judgeReturns l

theorem Part.unpinLane_retimed (p : Part) (l : Lane) :
    ((p.leaveKeep l).pinned l .unpinned).Retimed (p.unpinLane l) :=
  ((p.leaveKeep l).pinned l .unpinned).retimed_judgeReturns l

/-- Settles O45. -/
theorem pinCommands : Obligations.PinCommands := by
  intro p w b l hport hs hb
  refine ⟨⟨_, manage_lane hport hb w _, rfl, p.pinOut_pin l, fun hpin => ?_, fun hpin hleaving => ⟨?_, fun n hn hbound hmove hi => ?_⟩⟩,
    ⟨_, manage_lane hport hb w _, rfl, ?_, fun m hm => ?_, ?_⟩,
    ⟨_, manage_lane hport hb w _, rfl, ?_, ?_, fun hpin => ⟨?_, ?_⟩, fun hpin => ⟨?_, ?_⟩⟩⟩
  · rw [show p.pinOut l = p from if_pos hpin]
    exact Part.sameButResponse_reply p _
  · rw [Part.reply_lane, Part.pinOut_of_unpinned hs hpin hleaving, (Part.retimed_judgeReturns _ l).lane,
      (Part.streamsOnly_leavingMoves _ l).lane l, Part.pinned_lane_self]
  · have hgone : ((p.pinned l .out).lane l).leaving = true := by rw [Part.pinned_lane_self]; rfl
    have hmoved := Part.leavingMoves_stream_of_inflight (p := p.pinned l .out) hn hi
    rw [if_pos ⟨hbound, hmove, hgone⟩] at hmoved
    rw [Part.reply_stream, Part.pinOut_of_unpinned hs hpin hleaving, (Part.retimed_judgeReturns _ l).stream n, hmoved]
    exact ⟨rfl, hn, _, rfl, rfl, rfl, rfl⟩
  · rw [Part.reply_lane, (p.pinKeep_retimed l).lane, Part.pinned_lane_self]
  · rw [Part.reply_lane, (p.pinKeep_retimed l).lane, Part.pinned_lane_of_ne _ hm]
  · rw [Part.reply_log, (p.pinKeep_retimed l).log]; rfl
  · rw [Part.reply_lane, (p.unpinLane_retimed l).lane, Part.pinned_lane_self]
  · rw [Part.reply_lane, (p.unpinLane_retimed l).lane, Part.pinned_lane_self]
    exact p.leaveKeep_figure l
  · rw [Part.reply_lane, (p.unpinLane_retimed l).lane, Part.pinned_lane_self, Part.leaveKeep_of_not hpin]
  · have hlog := (p.unpinLane_retimed l).log
    rw [Part.leaveKeep_of_not hpin] at hlog
    rw [Part.reply_log, hlog]; rfl
  · have hunkept : ((p.unkept l).lane l).pin ≠ .keep := by rw [p.unkept_lane_self]; exact (by decide : Pin.unpinned ≠ .keep)
    rw [Part.reply_lane, (p.unpinLane_retimed l).lane, Part.pinned_lane_self, Part.leaveKeep_of_keep hpin]
    dsimp only
    rw [Part.evaluate_lane_suppressed hunkept, p.unkept_lane_self]
  · rw [Part.reply_lane, (p.unpinLane_retimed l).lane, Part.pinned_lane_self, Part.leaveKeep_of_keep hpin]
    dsimp only
    rw [Part.evaluate_lane_state, p.unkept_lane_self]
    exact thresholdStateUnder_of_not_keep _ (by decide : Pin.unpinned ≠ .keep) _ _

end Sys2Proof.Machine
end

section
/-! The disposal of a stream (R128): what it hands over and logs, with the arbiter's work and the end of the event that
follow it; a stall deadline's expiry (O36). -/

namespace Sys2Proof.Machine

/-! ### Completions and their counters -/

/-- A completion logs nothing while no counter is watched. -/
theorem Part.complete_log {p : Part} (h : p.unwatched) (n : StreamId) (t : Option HostTag) (st : CompletionStatus)
    (d : List Byte) : (p.complete n t st d).log = p.log := by
  cases t with
  | none => exact Part.unwatched_raise h _
  | some t =>
    have hparams : ((p.setTag t false).answerHost t st d).params = p.params :=
      (Part.aside_answerHost (p.setTag t false) t st d).params
    refine (Part.unwatched_raise (p := (p.setTag t false).answerHost t st d) (by rwa [Part.unwatched, hparams]) _).trans ?_
    unfold Part.answerHost
    exact Part.unwatched_raise (p := { p.setTag t false with completions := _ }) h _

/-! ### What one entry's disposal hands over and logs -/

/-- The disposal of an entry may trust what stands for it: the ending has the entry's kind, tag and transmission. -/
def OttEntry.endsAsItself (failed : Option EntryIx) (e : OttEntry) : Prop :=
  (e.ending failed).kind = e.kind ∧ (e.ending failed).tag = e.tag ∧
    (e.ending failed).transmitted = e.transmitTime.isSome

theorem OttEntry.endsAsItself_none (e : OttEntry) : e.endsAsItself none := ⟨rfl, rfl, rfl⟩

/-- An entry whose fate copy agrees with it ends as itself, also when its check has failed (R166, R170). -/
theorem OttEntry.agrees.endsAsItself {e : OttEntry} {n : StreamId} (h : e.agrees n) (failed : Option EntryIx) :
    e.endsAsItself failed := by
  unfold OttEntry.endsAsItself OttEntry.ending
  split
  · rw [h.2]; exact ⟨rfl, rfl, rfl⟩
  · exact ⟨rfl, rfl, rfl⟩

theorem OttEntry.ending_detail (failed : Option EntryIx) (e : OttEntry) :
    (e.ending failed).detail = if failed = some e.index then 0xFFFF else e.seq.setWidth 16 := by
  unfold OttEntry.ending; split <;> rfl

theorem Part.giveUp_completions (p : Part) (n : StreamId) (failed : Option EntryIx) {e : OttEntry}
    (h : e.endsAsItself failed) :
    (p.giveUp n (e.ending failed)).completions = p.completions ++ e.givenUp.toList := by
  obtain ⟨hkind, htag, hsent⟩ := h
  unfold Part.giveUp OttEntry.givenUp
  rw [hkind, htag, hsent]
  cases e.kind with
  | write => simp
  | read => cases e.tag <;> simp [Part.complete_completions]
  | swap => cases e.tag <;> cases e.transmitTime <;> simp [Part.complete_completions]

/-- A disposal's event for one entry: a transmitted SWAP alone has one (R128). -/
def Ending.loggedOn (x : Ending) (n : StreamId) (time : BitVec 32) (log : EventLog) : EventLog :=
  if (x.kind == .swap && x.transmitted) = true then log.take .outcomeUnknown none (some n) x.detail time else log

theorem Part.giveUp_log {p : Part} (h : p.unwatched) (n : StreamId) (x : Ending) :
    (p.giveUp n x).log = x.loggedOn n p.timeCounter p.log := by
  unfold Part.giveUp Ending.loggedOn
  cases x.kind with
  | read => exact Part.complete_log h _ _ _ _
  | write => rfl
  | swap =>
    cases x.transmitted with
    | false => exact Part.complete_log h _ _ _ _
    | true =>
      have htime : (p.complete n x.tag .outcomeUnknown []).timeCounter = p.timeCounter := by
        rw [Part.timeCounter, (p.engineWork_complete n x.tag .outcomeUnknown []).now]; rfl
      exact (Part.event_log _ _ _ _ _).trans (by rw [Part.complete_log h, htime]; rfl)

theorem Part.giveUpHeld_completions (p : Part) (n : StreamId) (h : Held) :
    (p.giveUpHeld n .pathLost h).completions = p.completions ++ h.givenUp.toList := by
  unfold Part.giveUpHeld Held.givenUp
  cases h.work.kind <;> simp [Part.complete_completions]

theorem Part.giveUpHeld_log {p : Part} (h : p.unwatched) (n : StreamId) (st : CompletionStatus) (x : Held) :
    (p.giveUpHeld n st x).log = p.log := by
  unfold Part.giveUpHeld
  split
  · rfl
  · exact Part.complete_log h _ _ _ _

/-! ### The whole of a disposal -/

theorem Part.unwatched_of_params {p q : Part} (h : p.unwatched) (hp : q.params = p.params) : q.unwatched := by
  unfold Part.unwatched; rw [hp]; exact h

theorem Part.EngineWork.unwatched {p q : Part} (h : p.EngineWork q) (hu : p.unwatched) : q.unwatched :=
  Part.unwatched_of_params hu h.params

theorem Part.EngineWork.timeCounter {p q : Part} (h : p.EngineWork q) : q.timeCounter = p.timeCounter := by
  rw [Part.timeCounter, h.now]; rfl

/-- What a fold of completions adds, one element at a time. -/
theorem Part.foldl_completions {α : Type} (f : Part → α → Part) (g : α → Option Completion) {xs : List α}
    (hf : ∀ (q : Part), ∀ x ∈ xs, (f q x).completions = q.completions ++ (g x).toList) :
    ∀ p : Part, (xs.foldl f p).completions = p.completions ++ xs.filterMap g := by
  induction xs with
  | nil => intro p; simp
  | cons x xs ih =>
    intro p
    rw [List.foldl_cons, ih fun q y hy => hf q y (List.mem_cons_of_mem x hy), hf p x List.mem_cons_self]
    cases h : g x <;> simp [h]

/-- What a fold of engine work logs, one element at a time, while no counter is watched. -/
theorem Part.foldl_log {α : Type} (f : Part → α → Part) (g : α → BitVec 32 → EventLog → EventLog)
    (hwork : ∀ (q : Part) (x : α), q.EngineWork (f q x))
    (hf : ∀ (q : Part) (x : α), q.unwatched → (f q x).log = g x q.timeCounter q.log) (xs : List α) :
    ∀ p : Part, p.unwatched → (xs.foldl f p).log = xs.foldl (fun log x => g x p.timeCounter log) p.log := by
  induction xs with
  | nil => exact fun p _ => rfl
  | cons x xs ih =>
    intro p hp
    rw [List.foldl_cons, ih _ ((hwork p x).unwatched hp), (hwork p x).timeCounter, hf p x hp]
    rfl

/-- The completions of a disposal (R128). -/
theorem Part.dispose_completions (p : Part) (n : StreamId) (failed : Option EntryIx)
    (h : ∀ e ∈ (p.stream n).inflight, e.endsAsItself failed) :
    (p.dispose n failed).completions = p.completions ++ (p.stream n).givenUp := by
  have hentries := Part.foldl_completions (fun q (e : OttEntry) => q.giveUp n (e.ending failed)) OttEntry.givenUp
    (fun q e he => q.giveUp_completions n failed (h e he)) p
  have hempty : ∀ q : Part, (q.emptyStream n failed).completions = q.completions :=
    fun q => (q.streamsOnly_emptyStream n failed).completions
  unfold Part.dispose
  dsimp only
  rw [hempty, (Part.streamsOnly_logCount _ _ _ _).completions, (Part.streamsOnly_logCount _ _ _ _).completions,
    Part.foldl_completions (fun q h => q.giveUpHeld n .pathLost h) Held.givenUp
      (fun q x _ => q.giveUpHeld_completions n x), List.foldl_map, hentries, List.append_assoc]
  rfl

/-- The WRITEs that a disposal counts are those of the stream's own records (R128). -/
theorem fateUnknown_eq {failed : Option EntryIx} {es : List OttEntry} (h : ∀ e ∈ es, e.endsAsItself failed) :
    fateUnknown (es.map (OttEntry.ending failed)) = es.countP (fun e => e.kind == .write && e.transmitTime.isSome) := by
  rw [fateUnknown, List.countP_map]
  refine List.countP_congr fun e he => ?_
  obtain ⟨hkind, -, hsent⟩ := h e he
  simp [hkind, hsent]

theorem fateDropped_eq {failed : Option EntryIx} {es : List OttEntry} (hs : List Held)
    (h : ∀ e ∈ es, e.endsAsItself failed) : fateDropped (es.map (OttEntry.ending failed)) hs =
      es.countP (fun e => e.kind == .write && e.transmitTime.isNone) + hs.countP (fun x => x.work.kind == .write) := by
  rw [fateDropped, List.countP_map]
  congr 1
  refine List.countP_congr fun e he => ?_
  obtain ⟨hkind, -, hsent⟩ := h e he
  simp [hkind, hsent]

/-- The events that the entries' own ends log are those of the transmitted SWAPs, in order (R128). -/
theorem foldl_loggedOn {failed : Option EntryIx} (n : StreamId) (time : BitVec 32) {es : List OttEntry}
    (h : ∀ e ∈ es, e.endsAsItself failed) : ∀ log : EventLog,
    es.foldl (fun g e => (e.ending failed).loggedOn n time g) log =
      (es.filter (fun e => e.kind == .swap && e.transmitTime.isSome)).foldl (fun g e =>
        g.take .outcomeUnknown none (some n) (if failed = some e.index then 0xFFFF else e.seq.setWidth 16) time) log := by
  induction es with
  | nil => exact fun log => rfl
  | cons e es ih =>
    intro log
    obtain ⟨hkind, -, hsent⟩ := h e List.mem_cons_self
    rw [List.foldl_cons, ih fun x hx => h x (List.mem_cons_of_mem e hx), Ending.loggedOn, hkind, hsent,
      OttEntry.ending_detail]
    rw [List.filter_cons]
    by_cases hswap : (e.kind == .swap && e.transmitTime.isSome) = true
    · rw [if_pos hswap, if_pos hswap, List.foldl_cons]
    · rw [if_neg hswap, if_neg hswap]

/-- The log of a disposal (R128). -/
theorem Part.dispose_log {p : Part} (hu : p.unwatched) (n : StreamId) (failed : Option EntryIx)
    (h : ∀ e ∈ (p.stream n).inflight, e.endsAsItself failed) :
    (p.dispose n failed).log = (p.stream n).disposalLog n failed p.timeCounter p.log := by
  unfold Part.dispose
  dsimp only
  generalize hq1 : ((p.stream n).inflight.map (OttEntry.ending failed)).foldl (fun q x => q.giveUp n x) p = q1
  generalize hq2 : (p.stream n).hold.foldl (fun q x => q.giveUpHeld n .pathLost x) q1 = q2
  have hwork1 : p.EngineWork q1 := hq1 ▸ Part.engineWork_foldl _ (fun q x => q.engineWork_giveUp n x) _ p
  have hwork2 : q1.EngineWork q2 := hq2 ▸ Part.engineWork_foldl _ (fun q x => q.engineWork_giveUpHeld n _ x) _ q1
  have hlog1 : q1.log = (p.stream n).inflight.foldl (fun g e => (e.ending failed).loggedOn n p.timeCounter g) p.log := by
    rw [← hq1, List.foldl_map]
    exact Part.foldl_log (fun q (e : OttEntry) => q.giveUp n (e.ending failed))
      (fun e time g => (e.ending failed).loggedOn n time g) (fun q e => q.engineWork_giveUp n _)
      (fun q e hq => Part.giveUp_log hq n _) _ p hu
  have hlog2 : q2.log = q1.log := by
    rw [← hq2]
    refine (Part.foldl_log (fun q x => q.giveUpHeld n .pathLost x) (fun _ _ g => g)
      (fun q x => q.engineWork_giveUpHeld n _ x) (fun q x hq => Part.giveUpHeld_log hq n _ x) _ q1
      (hwork1.unwatched hu)).trans ?_
    generalize (p.stream n).hold = hs
    induction hs with
    | nil => rfl
    | cons x xs ih => exact ih
  have htime : q2.timeCounter = p.timeCounter := hwork2.timeCounter.trans hwork1.timeCounter
  have hcount : ∀ k c, (q2.logCount k n c).timeCounter = p.timeCounter := fun k c =>
    (q2.streamsOnly_logCount k n c).work.timeCounter.trans htime
  show ((q2.logCount _ n _).logCount _ n _).log = _
  rw [Part.logCount_log, hcount, Part.logCount_log, htime, hlog2, hlog1, foldl_loggedOn n _ h, fateUnknown_eq h,
    fateDropped_eq _ h]
  rfl

/-! ### The arbiter's log and queues -/

theorem Part.dispatchInto_log {p : Part} (h : p.unwatched) (n : StreamId) (i : EntryIx) (rest : List EntryIx) (w : Work) :
    (p.dispatchInto n i rest w).log = p.log := by
  unfold Part.dispatchInto
  refine (Part.unwatched_raise (Part.unwatched_of_params h ?_) _).trans ?_
  · exact (Part.streamsOnly_queueRequest _ _ _).params
  · unfold Part.queueRequest; split <;> rfl

theorem Part.dispatch_log {p : Part} (h : p.unwatched) (n : StreamId) (w : Work) : (p.dispatch n w).log = p.log := by
  unfold Part.dispatch; split
  · rfl
  · exact Part.dispatchInto_log h _ _ _ _

theorem Part.dispatchHead_log {p : Part} (h : p.unwatched) (n : StreamId) : (p.dispatchHead n).log = p.log := by
  unfold Part.dispatchHead; split
  · rfl
  · exact Part.dispatch_log (p := (p.modStream n _).freeSlot _) h _ _

theorem Part.dispatchHeld_log (n : StreamId) (k : Nat) : ∀ {p : Part}, p.unwatched → (p.dispatchHeld n k).log = p.log := by
  induction k with
  | zero => exact fun _ => rfl
  | succ k ih =>
    intro p h
    unfold Part.dispatchHeld; split
    · rw [ih (Part.unwatched_of_params h (p.streamsOnly_dispatchHead n).params), Part.dispatchHead_log h]
    · rfl

theorem Part.arbitrate_log (k : Nat) : ∀ {p : Part}, p.unwatched → (p.arbitrate k).log = p.log := by
  induction k with
  | zero => exact fun _ => rfl
  | succ k ih =>
    intro p h
    unfold Part.arbitrate; split
    · rfl
    · split
      · rfl
      · next n hn =>
        have hwork := (p.streamsOnly_dispatchHead n).trans
          (Part.streamsOnly_modEngine (p.dispatchHead n) (fun g => { g with lastServed := n }) rfl)
        rw [ih (Part.unwatched_of_params h hwork.params)]
        exact Part.dispatchHead_log h n

/-- The arbiter logs nothing while no counter is watched. -/
theorem Part.serve_log {p : Part} (h : p.unwatched) : p.serve.log = p.log := Part.arbitrate_log 64 h

/-- Frames that a part has queued for streams in BOUND: REQUESTs, behind those that stood there (R26). -/
def Part.Fills (p q : Part) : Prop :=
  ∀ m, ∃ added, (q.lane m).queue = (p.lane m).queue ++ added ∧
    ∀ f ∈ added, f.kind = .request ∧ (p.stream f.header.stream).state = .bound

theorem Part.Fills.of_lanes {p q : Part} (h : q.lanes = p.lanes) : p.Fills q :=
  fun m => ⟨[], by unfold Part.lane; rw [h, List.append_nil], fun f hf => absurd hf List.not_mem_nil⟩

theorem Part.Fills.trans {p q r : Part} (h : p.Fills q) (k : q.Fills r)
    (hstate : ∀ n, (q.stream n).state = (p.stream n).state) : p.Fills r := by
  intro m
  obtain ⟨xs, hxs, hx⟩ := h m
  obtain ⟨ys, hys, hy⟩ := k m
  refine ⟨xs ++ ys, by rw [hys, hxs, List.append_assoc], fun f hf => ?_⟩
  rcases List.mem_append.mp hf with hf | hf
  · exact hx f hf
  · exact ⟨(hy f hf).1, hstate _ ▸ (hy f hf).2⟩

theorem Part.dispatchInto_lane_queue (p : Part) (n : StreamId) (i : EntryIx) (rest : List EntryIx) (w : Work) (m : Lane) :
    ((p.dispatchInto n i rest w).lane m).queue = (p.lane m).queue ++
      (if (p.stream n).carrier = some m then [p.requestFrame n (p.newEntry n i w)] else []) := by
  generalize hq : ((p.modEngine (fun g => { g with freeEntries := rest })).own w.blocks (some (.entry i))).modStream n
    (fun r => { r with nextSeq := r.nextSeq + 1, inflight := r.inflight ++ [p.newEntry n i w] }) = q
  have hlane : q.lane m = p.lane m := by rw [← hq]; rfl
  have hparams : q.params = p.params := by rw [← hq]; rfl
  have hstream : q.stream n = { p.stream n with
      nextSeq := (p.stream n).nextSeq + 1, inflight := (p.stream n).inflight ++ [p.newEntry n i w] } := by
    rw [← hq, Part.modStream_stream_self]; rfl
  have hframe : q.requestFrame n (p.newEntry n i w) = p.requestFrame n (p.newEntry n i w) := by
    unfold Part.requestFrame; rw [hstream, hparams]
  have hdisp : p.dispatchInto n i rest w = (q.queueRequest n (p.newEntry n i w)).raise (.stream n .dispatched) := by
    rw [← hq]; rfl
  rw [hdisp, Part.raise_lane, Part.queueRequest, hstream]
  dsimp only
  cases (p.stream n).carrier with
  | none => simp [hlane]
  | some l =>
    by_cases hm : m = l
    · subst hm
      simp [Part.place_lane_self, hlane, hframe]
    · simp [Part.place_lane_of_ne q hm, hlane, Ne.symm hm]

/-- The head of a hold list, dispatched, queues its REQUEST on the carrier (R22, R27). -/
theorem Part.dispatchHead_lane_queue (p : Part) {n : StreamId} {h : Held} {hs : List Held} {i : EntryIx}
    {rest : List EntryIx} (hhold : (p.stream n).hold = h :: hs) (hfree : p.engine.freeEntries = i :: rest) (m : Lane) :
    ((p.dispatchHead n).lane m).queue = (p.lane m).queue ++
      (if (p.stream n).carrier = some m then [p.requestFrame n (p.newEntry n i h.work)] else []) := by
  generalize hq : (p.modStream n (fun r => { r with hold := hs })).freeSlot h.slot = q
  have hstream : q.stream n = { p.stream n with hold := hs } := by
    rw [← hq, Part.freeSlot_stream, Part.modStream_stream_self]
  have hfree' : q.engine.freeEntries = i :: rest := by rw [← hq]; exact hfree
  have hlane : q.lane m = p.lane m := by rw [← hq]; rfl
  have hnew : q.newEntry n i h.work = p.newEntry n i h.work := by unfold Part.newEntry; rw [hstream]
  have hframe : q.requestFrame n (p.newEntry n i h.work) = p.requestFrame n (p.newEntry n i h.work) := by
    unfold Part.requestFrame; rw [hstream, ← hq]; rfl
  have hhead : p.dispatchHead n = q.dispatchInto n i rest h.work := by
    unfold Part.dispatchHead
    rw [hhold]
    dsimp only
    rw [hq, Part.dispatch, hfree']
  rw [hhead, Part.dispatchInto_lane_queue, hlane, hnew, hframe, hstream]

theorem Part.dispatchHead_fills (p : Part) (n : StreamId) (hready : p.headReady n = true)
    (hfree : p.engine.freeEntries ≠ []) : p.Fills (p.dispatchHead n) := by
  intro m
  obtain ⟨x, hs, hhold⟩ := Part.headReady_hold hready
  obtain ⟨i, rest, hfree⟩ := List.exists_cons_of_ne_nil hfree
  refine ⟨_, p.dispatchHead_lane_queue hhold hfree m, fun f hf => ?_⟩
  split at hf
  · rw [List.mem_singleton.mp hf]
    exact ⟨rfl, Part.headReady_bound hready⟩
  · exact absurd hf List.not_mem_nil

theorem Part.dispatchHeld_fills (n : StreamId) (k : Nat) : ∀ p : Part, p.Fills (p.dispatchHeld n k) := by
  induction k with
  | zero => exact fun p => .of_lanes rfl
  | succ k ih =>
    intro p
    unfold Part.dispatchHeld; split
    · next hc =>
      exact (p.dispatchHead_fills n hc.1 hc.2).trans (ih _) fun m => (p.dispatchHead_dispatched n hc.1 hc.2 m).state
    · exact .of_lanes rfl

theorem Part.arbitrate_fills (k : Nat) : ∀ p : Part, p.Fills (p.arbitrate k) := by
  induction k with
  | zero => exact fun p => .of_lanes rfl
  | succ k ih =>
    intro p
    unfold Part.arbitrate; split
    · exact .of_lanes rfl
    · next hfree =>
      split
      · exact .of_lanes rfl
      · next n hn =>
        have hready := List.find?_some hn
        exact Part.Fills.trans (q := (p.dispatchHead n).modEngine (fun g => { g with lastServed := n }))
          (p.dispatchHead_fills n hready hfree) (ih _)
          fun m => (p.dispatchHead_dispatched n hready hfree m).state

theorem Part.serve_fills (p : Part) : p.Fills p.serve := p.arbitrate_fills 64

/-! ### No frame of a stream in a queue -/

/-- No queue holds a REQUEST or ASK of a stream. -/
def Part.clearOf (p : Part) (n : StreamId) : Prop := ∀ l, ∀ f ∈ (p.lane l).queue, f.isOf n = false

theorem Part.clearOf.of_lanes {p q : Part} {n : StreamId} (h : p.clearOf n) (hl : q.lanes = p.lanes) : q.clearOf n := by
  unfold Part.clearOf Part.lane at h ⊢
  rw [hl]
  exact h

theorem Part.clearOf_dropFrames (p : Part) (n : StreamId) : (p.dropFrames n).clearOf n := by
  intro l f hf
  rw [p.dropFrames_lane n l] at hf
  simpa using (List.mem_filter.mp hf).2

theorem Part.clearOf.fills {p q : Part} {n : StreamId} (h : p.clearOf n) (hq : p.Fills q)
    (hstate : (p.stream n).state ≠ .bound) : q.clearOf n := by
  intro l f hf
  obtain ⟨added, heq, hadded⟩ := hq l
  rw [heq] at hf
  rcases List.mem_append.mp hf with hf | hf
  · exact h l f hf
  · cases hof : f.isOf n with
    | false => rfl
    | true => exact absurd (Frame.isOf_stream hof ▸ (hadded f hf).2) hstate

/-- A lane restarted with no stream on it has one PROBE to send, and the other lanes keep their queues (R87). -/
theorem Part.judgeRestart_queue (p : Part) (l m : Lane) : ((p.judgeRestart l).lane m).queue = (p.lane m).queue ∨
    ((p.judgeRestart l).lane m).queue = [p.probeFrame] := by
  unfold Part.judgeRestart
  split
  case isFalse => exact .inl rfl
  case isTrue hc =>
    by_cases hm : m = l
    · subst hm
      right
      rw [Part.restartLane, p.enterQuiet_lane_self m (laneEvent_lanes _ _ _)]
    · left
      unfold Part.restartLane Part.enterQuiet Part.changeLane
      dsimp only
      generalize hq : p.moveLane l .quiet _ _ = q
      have hmove : ∀ n, q.stream n = p.stream n := fun n =>
        hq ▸ p.moveLane_stream l .quiet _ (laneEvent_stream .laneRestarted l 0) n
      have hfree := (p.carries_eq_false_iff l).mp hc.2
      rw [(q.streamsTake_of_not_carried l _ .quiet (by simp) fun n => by rw [hmove n]; exact hfree n).lane m, ← hq,
        p.moveLane_lane_of_ne hm _ _ (laneEvent_lanes _ _ _)]

theorem Part.clearOf.judgeRestart {p : Part} {n : StreamId} (h : p.clearOf n) (l : Lane) :
    (p.judgeRestart l).clearOf n := by
  intro m f hf
  rcases p.judgeRestart_queue l m with heq | heq
  · exact h m f (heq ▸ hf)
  · rw [heq] at hf
    rw [List.mem_singleton.mp hf]
    rfl

theorem Part.clearOf.settle {p : Part} {n : StreamId} (h : p.clearOf n) : p.settle.clearOf n :=
  Part.clearOf.of_lanes ((((h.judgeRestart .a0).judgeRestart .a1).judgeRestart .b0).judgeRestart .b1)
    (Part.aside_judgeQuiesce p.judgeRestarts).lanes

/-! ### O36: the expiry of a stall deadline -/

/-- Before the arbiter's work: the stream given up and IDLE (R127, R128). -/
def Part.givenUpIdle (p : Part) (n : StreamId) : Part :=
  (((p.dropFrames n).dispose n none).event .streamPathLost none (some n) (sat16 (p.stream n).handed)).modStream n
    (fun r => r.ended .idle)

theorem Part.expireStall_eq (p : Part) (n : StreamId) : p.expireStall n = (p.givenUpIdle n).serve := rfl

theorem Part.givenUpIdle_stream (p : Part) (n : StreamId) :
    (p.givenUpIdle n).stream n = StreamRec.ended { p.stream n with inflight := [], hold := [] } .idle := by
  rw [Part.givenUpIdle, Part.modStream_stream_self]
  show StreamRec.ended (((p.dropFrames n).dispose n none).stream n) .idle = _
  rw [Part.dispose_stream, if_pos rfl]
  rfl

theorem Part.givenUpIdle_lanes (p : Part) (n : StreamId) : (p.givenUpIdle n).lanes = (p.dropFrames n).lanes := by
  obtain ⟨q, haside, hq⟩ := (p.dropFrames n).dispose_eq_emptyStream n none
  show ((p.dropFrames n).dispose n none).lanes = _
  rw [hq]
  exact haside.lanes

/-- A stream emptied away from BOUND is left as it is by the arbiter and the end of the event. -/
theorem Part.settle_serve_stream {p : Part} {n : StreamId} (h : (p.stream n).state ≠ .bound) :
    (p.serve.settle).stream n = { p.stream n with returnTimer := ((p.serve.settle).stream n).returnTimer } := by
  rw [Part.settle_stream, (p.serve_dispatched n).away h]

theorem Part.engineWork_givenUpIdle (p : Part) (n : StreamId) : p.EngineWork (p.givenUpIdle n) :=
  (((p.streamsOnly_dropFrames n).work.trans (Part.engineWork_dispose _ n none)).trans
    (Part.streamsOnly_event _ _ _ _ _).work).trans (Part.streamsOnly_modStream _ n _).work

theorem Part.givenUpIdle_completions (p : Part) (n : StreamId) :
    (p.givenUpIdle n).completions = p.completions ++ (p.stream n).givenUp :=
  (p.dropFrames n).dispose_completions n none fun e _ => e.endsAsItself_none

theorem Part.givenUpIdle_log {p : Part} (hu : p.unwatched) (n : StreamId) :
    (p.givenUpIdle n).log = ((p.stream n).disposalLog n none p.timeCounter p.log).take .streamPathLost none (some n)
      (sat16 (p.stream n).givenUp.length) p.timeCounter := by
  have hlog := Part.dispose_log (p := p.dropFrames n) hu n none fun e _ => e.endsAsItself_none
  have htime := ((p.dropFrames n).engineWork_dispose n none).timeCounter
  have hevent : (p.givenUpIdle n).log = ((p.dropFrames n).dispose n none).log.take .streamPathLost none (some n)
    (sat16 (p.stream n).handed) ((p.dropFrames n).dispose n none).timeCounter := rfl
  rw [hevent, hlog, htime, StreamRec.handed_eq_length_givenUp]
  rfl

/-- What the engine's work leaves settled. -/
theorem Part.EngineWork.settled {p q : Part} (h : p.EngineWork q) (k : p.settled) : q.settled :=
  ⟨fun l => by rw [h.lane l]; exact k.1 l, by rw [h.intake]; exact k.2⟩

/-- Settles O36. -/
theorem stallExpires : Obligations.StallExpires := by
  intro p w n t ht
  have hexec : exec (.stallDeadlineExpiry n) ⟨p, w⟩ = .next ⟨((p.reach t).givenUpIdle n).serve.settle, w⟩ :=
    next_of_expire (p := p) (act := fun q => (q.expireStall n).settle) ht rfl w
  have hrec : ((p.reach t).givenUpIdle n).stream n = StreamRec.ended { p.stream n with inflight := [], hold := [] } .idle :=
    (p.reach t).givenUpIdle_stream n
  have hlanes := (p.reach t).givenUpIdle_lanes n
  have hwork := (p.reach t).engineWork_givenUpIdle n
  have hhanded := (p.reach t).givenUpIdle_completions n
  have hlog : p.unwatched → _ := fun hu => Part.givenUpIdle_log (p := p.reach t) hu n
  generalize (p.reach t).givenUpIdle n = q at *
  have hidle : (q.stream n).state ≠ .bound := by rw [hrec]; exact (by decide : StreamState.idle ≠ .bound)
  have hstream := Part.settle_serve_stream hidle
  rw [hrec] at hstream
  refine ⟨_, hexec, ?completions, by rw [hstream]; rfl, by rw [hstream]; rfl, by rw [hstream]; rfl, by rw [hstream]; rfl,
    by rw [hstream]; rfl, by rw [hstream]; rfl, by rw [hstream]; rfl, by rw [hstream]; rfl, ?tried, by rw [hstream]; rfl,
    by rw [hstream]; rfl, by rw [hstream]; rfl, by rw [hstream]; rfl, by rw [hstream]; rfl, ?queues, ?log⟩
  case completions => rw [Part.settle_completions, q.streamsOnly_serve.completions, hhanded]; rfl
  case tried => rw [hstream]; exact LaneSet.empty_has
  case queues => exact ((((p.reach t).clearOf_dropFrames n).of_lanes hlanes).fills q.serve_fills hidle).settle
  case log =>
    rintro hu hsettled time rfl
    have hserved : q.serve.settled := (hwork.trans q.streamsOnly_serve.work).settled (p := p.reach t) hsettled
    rw [Part.settle_of_settled hserved, Part.serve_log (hwork.unwatched (p := p.reach t) hu), hlog hu]
    rfl

end Sys2Proof.Machine
end

section
/-! Entry to FAULTED (R129) and the TELL that contradicts a stream (O21). -/

namespace Sys2Proof.Machine

/-! ### Entry to FAULTED (R128, R129) -/

theorem Part.enterFaulted_stream (p : Part) (n : StreamId) (reason : BitVec 16) (failed : Option EntryIx) :
    (p.enterFaulted n reason failed).stream n =
      StreamRec.ended { p.stream n with inflight := [], hold := [] } .faulted := by
  rw [Part.enterFaulted, Part.modStream_stream_self, Part.dispose_stream, if_pos rfl]
  rfl

theorem Part.engineWork_enterFaulted (p : Part) (n : StreamId) (reason : BitVec 16) (failed : Option EntryIx) :
    p.EngineWork (p.enterFaulted n reason failed) :=
  (((p.streamsOnly_event _ _ _ _).trans (Part.streamsOnly_dropFrames _ _)).work.trans
    (Part.engineWork_dispose _ _ _)).trans (Part.streamsOnly_modStream _ _ _).work

theorem Part.enterFaulted_completions (p : Part) (n : StreamId) (reason : BitVec 16) {failed : Option EntryIx}
    (h : ∀ e ∈ (p.stream n).inflight, e.endsAsItself failed) :
    (p.enterFaulted n reason failed).completions = p.completions ++ (p.stream n).givenUp :=
  ((p.event .streamFaulted (p.stream n).carrier (some n) reason).dropFrames n).dispose_completions n failed h

theorem Part.enterFaulted_log {p : Part} (hu : p.unwatched) (n : StreamId) (reason : BitVec 16) {failed : Option EntryIx}
    (h : ∀ e ∈ (p.stream n).inflight, e.endsAsItself failed) :
    (p.enterFaulted n reason failed).log = (p.stream n).disposalLog n failed p.timeCounter
      (p.log.take .streamFaulted (p.stream n).carrier (some n) reason p.timeCounter) :=
  Part.dispose_log (p := (p.event .streamFaulted (p.stream n).carrier (some n) reason).dropFrames n) hu n failed h

theorem Part.fault_stream_self (p : Part) (n : StreamId) (reason : BitVec 16) (failed : Option EntryIx) :
    (p.fault n reason failed).stream n = StreamRec.ended { p.stream n with inflight := [], hold := [] } .faulted := by
  have hstream := p.enterFaulted_stream n reason failed
  have hout : ((p.enterFaulted n reason failed).stream n).state ≠ .bound := by
    rw [hstream]; exact (by decide : StreamState.faulted ≠ .bound)
  rw [Part.fault, ((p.enterFaulted n reason failed).serve_dispatched n).away hout, hstream]

theorem Part.fault_completions (p : Part) (n : StreamId) (reason : BitVec 16) {failed : Option EntryIx}
    (h : ∀ e ∈ (p.stream n).inflight, e.endsAsItself failed) :
    (p.fault n reason failed).completions = p.completions ++ (p.stream n).givenUp := by
  rw [Part.fault, (Part.streamsOnly_serve _).completions, p.enterFaulted_completions n reason h]

theorem Part.fault_log {p : Part} (hu : p.unwatched) (n : StreamId) (reason : BitVec 16) {failed : Option EntryIx}
    (h : ∀ e ∈ (p.stream n).inflight, e.endsAsItself failed) :
    (p.fault n reason failed).log = (p.stream n).disposalLog n failed p.timeCounter
      (p.log.take .streamFaulted (p.stream n).carrier (some n) reason p.timeCounter) := by
  rw [Part.fault, Part.serve_log ((p.engineWork_enterFaulted n reason failed).unwatched hu), Part.enterFaulted_log hu n reason h]

/-! ### TELL, GAP and ANSWER taken by the stream they name (R30) -/

/-- The effect of a reached lane on what a settled part waits for. -/
theorem Part.settled.reached {p : Part} (h : p.settled) (l : Lane) : (p.reached l).settled := by
  refine ⟨fun m => ?_, by rw [Part.reached_intake]; exact h.2⟩
  by_cases hm : m = l
  · subst hm; rw [p.reached_lane_self]; exact h.1 m
  · rw [p.reached_lane_of_ne hm]; exact h.1 m

/-- A frame for the stream engine that the filter of R30 lets through. -/
structure Part.accepts (p : Part) (l : Lane) (h : Header) (n : StreamId) : Prop where
  stream : h.stream = n
  off : (p.lane l).state ≠ .off
  destination : h.destination = p.params.sourceNode
  epoch : h.epoch = (p.stream n).epoch
  carrier : (p.stream n).carrier = some l

theorem Part.accepts.filtered {p : Part} {l : Lane} {h : Header} {n : StreamId} (ha : p.accepts l h n)
    {takes : StreamState → Bool} (ht : takes (p.stream n).state = true) {act : Part → Part} :
    (p.reached l).filtered n l h takes act = act (p.reached l) :=
  Part.filtered_taken (by simpa using ha.epoch) (by simpa using ha.carrier) (by simpa using ht)

theorem Part.accepts.tell {p : Part} {l : Lane} {h : Header} {n : StreamId} (ha : p.accepts l h n)
    (hstate : (p.stream n).state = .binding) (w : List Instr) :
    exec (.receiveTell l h [] false) ⟨p, w⟩ = .next ⟨(p.reached l).takeTell n l h, w⟩ := by
  have harrive : p.arrive l ⟨.tell, h, []⟩ false = (p.reached l).takeTell n l h := by
    refine (Part.arrive_engineTakes ha.off rfl ha.destination rfl).trans ?_
    rw [Part.engineTakes]
    dsimp only
    rw [ha.stream, ha.filtered (by rw [hstate]; rfl)]
  exact congrArg (fun q => Host.Outcome.next (State.mk q w)) harrive

theorem Part.accepts.gap {p : Part} {l : Lane} {h : Header} {n : StreamId} (ha : p.accepts l h n)
    (hstate : (p.stream n).state.takesAnswers = true) (w : List Instr) :
    exec (.receiveGap l h [] false) ⟨p, w⟩ = .next ⟨(p.reached l).takeGap n, w⟩ := by
  have harrive : p.arrive l ⟨.gap, h, []⟩ false = (p.reached l).takeGap n := by
    refine (Part.arrive_engineTakes ha.off rfl ha.destination rfl).trans ?_
    rw [Part.engineTakes]
    dsimp only
    rw [ha.stream, ha.filtered hstate]
  exact congrArg (fun q => Host.Outcome.next (State.mk q w)) harrive

theorem Part.accepts.answer {p : Part} {l : Lane} {h : Header} {n : StreamId} (ha : p.accepts l h n)
    (hstate : (p.stream n).state.takesAnswers = true) (payload : List Byte) (w : List Instr) :
    exec (.receiveAnswer l h payload false) ⟨p, w⟩ = .next ⟨(p.reached l).takeAnswer n l h payload, w⟩ := by
  have harrive : p.arrive l ⟨.answer, h, payload⟩ false = (p.reached l).takeAnswer n l h payload := by
    refine (Part.arrive_engineTakes ha.off rfl ha.destination rfl).trans ?_
    rw [Part.engineTakes]
    dsimp only
    rw [ha.stream, ha.filtered hstate]
  exact congrArg (fun q => Host.Outcome.next (State.mk q w)) harrive

/-! ### O21: the TELL that contradicts -/

theorem Part.streamsOnly_compareRejections (p : Part) (n : StreamId) (l : Lane) (count : BitVec 8) :
    p.StreamsOnly (p.compareRejections n l count) := by
  unfold Part.compareRejections
  split
  · exact .refl p
  · exact (p.streamsOnly_modStream n _).trans (Part.streamsOnly_event _ _ _ _ _)

theorem Part.compareRejections_log (p : Part) (n : StreamId) (l : Lane) (count : BitVec 8) :
    (p.compareRejections n l count).log = if (p.stream n).rejections = count then p.log
      else p.log.take .writeRejected (some l) (some n) 0xFFFF p.timeCounter := by
  unfold Part.compareRejections
  split <;> rfl

/-- The reason that R119 gives a contradiction, with its two comparisons named. -/
theorem StreamRec.contradiction_eq {r : StreamRec} {h : Header} {behind ahead : Bool}
    (hbehind : behind = serialBefore h.mark r.lowerBound) (hahead : ahead = serialAtOrBefore r.nextSeq h.mark)
    (hany : h.fresh = true ∨ h.markValid = false ∨ behind = true ∨ ahead = true) :
    r.contradiction h = some (if h.fresh then 1 else if h.markValid = false then 2 else if behind then 3 else 4) := by
  unfold StreamRec.contradiction
  rw [← hbehind, ← hahead]
  cases hf : h.fresh with
  | true => rfl
  | false =>
    cases hv : h.markValid with
    | false => rfl
    | true =>
      cases behind with
      | true => rfl
      | false =>
        cases ahead with
        | true => rfl
        | false => simp [hf, hv] at hany

/-- A contradiction found faults the stream (R119). -/
theorem Part.judgeTell_of_contradiction {p : Part} {n : StreamId} {l : Lane} {h : Header} {reason : BitVec 16}
    (hhistory : (p.stream n).mark ≠ none ∨ (p.stream n).inflight ≠ [])
    (hc : (p.stream n).contradiction h = some reason) :
    p.judgeTell n l h = (p.compareRejections n l h.rejections).fault n reason none := by
  rw [Part.judgeTell, if_neg (fun hnone => hhistory.elim (· hnone.1) (· hnone.2)), hc]

/-- Settles O21. -/
theorem tellContradictionFaults : Obligations.TellContradictionFaults := by
  intro p w l h n hn hoff hdest hepoch hcarrier hstate hhistory behind ahead hbehind hahead hany
  have hexec := Part.accepts.tell ⟨hn, hoff, hdest, hepoch, hcarrier⟩ hstate w
  have hbound : behind = serialBefore h.mark (p.stream n).lowerBound := by
    rw [hbehind]
    unfold StreamRec.lowerBound StreamRec.oldest
    cases hm : (p.stream n).mark with
    | some m => rfl
    | none =>
      cases hi : (p.stream n).inflight with
      | cons e es => rfl
      | nil => exact absurd (hhistory.resolve_left (not_not_intro hm)) (not_not_intro hi)
  have hreason := StreamRec.contradiction_eq hbound hahead hany
  generalize hr : (if h.fresh then (1 : BitVec 16) else if h.markValid = false then 2 else if behind then 3 else 4) =
    reason at *
  generalize hq : (p.reached l).modStream n (fun r => { r with askTimer := none, askAttempts := 0 }) = q
  have hrec : q.stream n = { p.stream n with askTimer := none, askAttempts := 0 } := by
    rw [← hq, Part.modStream_stream_self, Part.reached_stream]
  have htake : (p.reached l).takeTell n l h = ((q.compareRejections n l h.rejections).fault n reason none).settle := by
    rw [Part.takeTell, hq, Part.judgeTell_of_contradiction (by rw [hrec]; exact hhistory) (by rw [hrec]; exact hreason)]
  rw [htake] at hexec
  have hwork : (p.reached l).StreamsOnly (q.compareRejections n l h.rejections) := by
    rw [← hq]; exact (Part.streamsOnly_modStream _ n _).trans (Part.streamsOnly_compareRejections _ n l _)
  have hcompared : (q.compareRejections n l h.rejections).stream n =
      { p.stream n with askTimer := none, askAttempts := 0, rejections := h.rejections } := by
    rw [Part.compareRejections_stream, if_pos rfl, hrec]
  have hlog := q.compareRejections_log n l h.rejections
  generalize q.compareRejections n l h.rejections = c at *
  have hfaulted := c.fault_stream_self n reason none
  have hstream := (c.fault n reason none).settle_stream n
  rw [hfaulted, hcompared] at hstream
  refine ⟨_, hexec, by rw [hstream]; rfl, by rw [hstream]; rfl, by rw [hstream]; rfl, by rw [hstream]; rfl,
    by rw [hstream]; rfl, by rw [hstream]; rfl, by rw [hstream]; rfl, by rw [hstream]; rfl, by rw [hstream]; rfl,
    by rw [hstream]; rfl, ?completions, ?log⟩
  case completions =>
    rw [Part.settle_completions, c.fault_completions n reason fun e _ => e.endsAsItself_none, hwork.completions,
      Part.reached_completions, hcompared]
    rfl
  case log =>
    intro hu hsettled
    have huq : c.unwatched := Part.unwatched_of_params hu (hwork.params.trans (p.reached_params l))
    have hreached : c.settled := (hsettled.reached l).streamsOnly hwork
    have htime : c.timeCounter = p.timeCounter := hwork.work.timeCounter.trans (p.reached_timeCounter l)
    have hqlog : q.log = p.log := by rw [← hq]; exact Part.reached_log hu l
    have hqtime : q.timeCounter = p.timeCounter := by rw [← hq]; exact p.reached_timeCounter l
    rw [Part.settle_of_settled ((c.engineWork_fault n reason none).settled hreached),
      Part.fault_log huq n reason fun e _ => e.endsAsItself_none, htime, hcompared, hlog, hrec, hqlog, hqtime]
    show StreamRec.disposalLog _ n none p.timeCounter (EventLog.take _ _ (p.stream n).carrier _ _ _) = _
    rw [hcarrier]
    rfl

end Sys2Proof.Machine
end

section
/-! Data blocks written and read back, control-state failures (R166 to R170), and the checked reads (O39). -/

namespace Sys2Proof.Machine

/-! ### Blocks of the data buffer (R23) -/

/-- A run of bytes reads back where it was written, and every other byte as before. -/
theorem Memory.read_writeAll (bs : List Byte) : ∀ {m : Memory}, m.wf = true → ∀ a x,
    (m.writeAll a bs).read x = if a ≤ x ∧ x < a + bs.length then bs.getD (x - a) 0 else m.read x := by
  induction bs with
  | nil =>
    intro m _ a x
    rw [if_neg (fun h => by simp only [List.length_nil] at h; omega)]
    rfl
  | cons b bs ih =>
    intro m h a x
    rw [Memory.writeAll, ih (Memory.write_wf h a b), Memory.read_write h, List.length_cons]
    by_cases hx : x = a
    · subst hx
      rw [if_neg (by omega), if_pos rfl, if_pos (by omega), Nat.sub_self]
      rfl
    · by_cases hin : a + 1 ≤ x ∧ x < a + 1 + bs.length
      · rw [if_pos hin, if_pos (by omega), show x - a = (x - (a + 1)) + 1 by omega]
        rfl
      · rw [if_neg hin, if_neg hx, if_neg (by omega)]

theorem Memory.block_length (m : Memory) (b : BlockIx) : (m.block b).length = 64 := by
  simp [Memory.block, Config.blockBytes]

theorem Memory.block_getD (m : Memory) (b : BlockIx) {i : Nat} (h : i < 64) :
    (m.block b).getD i 0 = m.read (64 * b.val + i) := by
  simp [Memory.block, Config.blockBytes, blockBase, List.getD, h]

/-- A block written full reads back as its bytes. -/
theorem Memory.block_setBlock_self {m : Memory} (h : m.wf = true) (b : BlockIx) {bytes : List Byte}
    (hl : bytes.length = 64) : (m.setBlock b bytes).block b = bytes := by
  refine List.ext_getElem ((Memory.block_length _ _).trans hl.symm) fun i hi hi' => ?_
  have hi64 : i < 64 := by rwa [Memory.block_length] at hi
  have hread := Memory.read_writeAll (bytes.take 64) h (64 * b.val) (64 * b.val + i)
  rw [List.take_of_length_le (by omega), if_pos (by omega), Nat.add_sub_cancel_left] at hread
  have hblock := Memory.block_getD (m.setBlock b bytes) b hi64
  rw [← List.getD_eq_getElem _ 0 hi, ← List.getD_eq_getElem _ 0 hi', hblock, ← hread, Memory.setBlock, blockBase,
    Config.blockBytes, List.take_of_length_le (by omega)]

/-- A block written leaves every other block as it was. -/
theorem Memory.block_setBlock_of_ne {m : Memory} (h : m.wf = true) {b c : BlockIx} (hc : c ≠ b) (bytes : List Byte) :
    (m.setBlock b bytes).block c = m.block c := by
  refine List.ext_getElem ((Memory.block_length _ _).trans (Memory.block_length _ _).symm) fun i hi hi' => ?_
  have hi64 : i < 64 := by rwa [Memory.block_length] at hi
  have hlen : (bytes.take 64).length ≤ 64 := List.length_take_le _ _
  have hne : c.val ≠ b.val := fun hv => hc (Fin.ext hv)
  have hread := Memory.read_writeAll (bytes.take 64) h (64 * b.val) (64 * c.val + i)
  rw [if_neg (by omega)] at hread
  rw [← List.getD_eq_getElem _ 0 hi, ← List.getD_eq_getElem _ 0 hi', Memory.block_getD _ _ hi64,
    Memory.block_getD _ _ hi64, ← hread]
  rfl

/-! ### Control-state failures (R170) -/

theorem Part.judgeQuiesce_intake {p : Part} (h : p.intake.service ≠ .quiescing) : p.settle.intake = p.intake := by
  have hintake := p.laneWork_judgeRestarts.intake
  rw [Part.settle, Part.judgeQuiesce_of_service (by rw [hintake]; exact h), hintake]

theorem Part.settle_patrol (p : Part) : p.settle.patrol = p.patrol := by
  rw [Part.settle, ← p.laneWork_judgeRestarts.patrol]
  unfold Part.judgeQuiesce
  split
  · exact Part.setService_patrol _ _
  · rfl

/-- Before the disposal of R170: the open tally logged, and the failure noted for the pass (R7, R172). -/
def Part.failureNoted (p : Part) : Part := p.flushTally.modPatrol (fun t => { t with failed := true })

theorem Part.failureNoted_stream (p : Part) (n : StreamId) : p.failureNoted.stream n = p.stream n := p.flushTally_stream n
theorem Part.failureNoted_completions (p : Part) : p.failureNoted.completions = p.completions := p.flushTally_completions
theorem Part.failureNoted_now (p : Part) : p.failureNoted.now = p.now := p.flushTally_now
theorem Part.failureNoted_intake (p : Part) : p.failureNoted.intake = { p.intake with tally := none } := p.flushTally_intake
theorem Part.failureNoted_lanes (p : Part) : p.failureNoted.lanes = p.lanes := p.flushTally_lanes
theorem Part.failureNoted_params (p : Part) : p.failureNoted.params = p.params := p.flushTally_params
theorem Part.failureNoted_failed (p : Part) : p.failureNoted.patrol.failed = true := rfl
theorem Part.failureNoted_log {p : Part} (h : p.intake.tally = none) : p.failureNoted.log = p.log :=
  show p.flushTally.log = p.log from congrArg Part.log (Part.flushTally_of_none h)

/-- Step 3 of R170 in a running part. -/
def Part.restrictedBy (p : Part) (n : StreamId) (src : FailureSource) : Part :=
  (p.setService .restricted).event .restrictedEntered none (some n) src.detail

theorem Part.controlFailure_of_running {p : Part} (hs : p.intake.service = .running) {n : StreamId}
    (hf : (p.stream n).state ≠ .faulted) (src : FailureSource) :
    p.controlFailure n src = ((p.failureNoted.fault n 5 src.failedEntry).restrictedBy n src).settle := by
  have hflush : p.flushForRestriction = p.flushTally := by
    rw [Part.flushForRestriction, hs]; exact if_pos rfl
  have hstate : (p.failureNoted.stream n).state ≠ .faulted := by rwa [Part.failureNoted_stream]
  have hservice : (p.failureNoted.fault n 5 src.failedEntry).intake.service = .running := by
    rw [(Part.engineWork_fault _ n 5 src.failedEntry).intake, Part.failureNoted_intake]
    exact hs
  have hrestrict : (p.failureNoted.fault n 5 src.failedEntry).enterRestricted n src =
      (p.failureNoted.fault n 5 src.failedEntry).restrictedBy n src := by
    rw [Part.enterRestricted, hservice]
    exact if_pos rfl
  unfold Part.controlFailure
  dsimp only
  rw [hflush, show p.flushTally.modPatrol (fun t => { t with failed := true }) = p.failureNoted from rfl,
    if_neg hstate, hrestrict]

section
variable {p : Part} (hne : p.intake.service = .running) (n : StreamId) (src : FailureSource)

theorem Part.restrictedBy_stream (p : Part) (n m : StreamId) (src : FailureSource) :
    (p.restrictedBy n src).stream m = p.stream m := by
  rw [Part.restrictedBy, Part.event_stream, Part.stream, Part.setService_engine]; rfl

theorem Part.restrictedBy_completions (p : Part) (n : StreamId) (src : FailureSource) :
    (p.restrictedBy n src).completions = p.completions := by
  rw [Part.restrictedBy, Part.event_completions, Part.setService_completions]

theorem Part.restrictedBy_patrol (p : Part) (n : StreamId) (src : FailureSource) :
    (p.restrictedBy n src).patrol = p.patrol := by
  rw [Part.restrictedBy, Part.event_patrol, Part.setService_patrol]

theorem Part.restrictedBy_now (p : Part) (n : StreamId) (src : FailureSource) : (p.restrictedBy n src).now = p.now := by
  rw [Part.restrictedBy, Part.event_now, Part.setService_now]

theorem Part.restrictedBy_lane (p : Part) (n : StreamId) (src : FailureSource) (l : Lane) :
    (p.restrictedBy n src).lane l = p.lane l := by
  rw [Part.restrictedBy, Part.event_lane, Part.lane, Part.setService_lanes]; rfl

include hne

theorem Part.restrictedBy_service : (p.restrictedBy n src).intake.service = .restricted := by
  have h : p.intake.service ≠ .restricted := by rw [hne]; exact (by decide : ServiceState.running ≠ .restricted)
  rw [Part.restrictedBy, Part.event_intake, Part.setService_intake h, Intake.offer_eq]

theorem Part.restrictedBy_log (ht : p.intake.tally = none) : (p.restrictedBy n src).log =
    p.log.take .restrictedEntered none (some n) src.detail p.timeCounter := by
  have h : p.intake.service ≠ .restricted := by rw [hne]; exact (by decide : ServiceState.running ≠ .restricted)
  rw [Part.restrictedBy, Part.event_log, Part.setService_log h, Part.flushTally_of_none ht, Part.timeCounter,
    Part.setService_now]
  rfl

end

/-- What a control-state failure of a running part does to its stream, the host and the intake (R170). -/
structure Part.FailedOn (p p' : Part) (n : StreamId) (src : FailureSource) : Prop where
  stream : p'.stream n = { StreamRec.ended { p.stream n with inflight := [], hold := [] } .faulted with
    returnTimer := (p'.stream n).returnTimer }
  service : p'.intake.service = .restricted
  failed : p'.patrol.failed = true
  now : p'.now = p.now
  completions : (∀ e ∈ (p.stream n).inflight, e.endsAsItself src.failedEntry) →
    p'.completions = p.completions ++ (p.stream n).givenUp
  log : (∀ e ∈ (p.stream n).inflight, e.endsAsItself src.failedEntry) → p.unwatched → p.intake.tally = none →
    p.settled → p'.log = ((p.stream n).disposalLog n src.failedEntry p.timeCounter
      (p.log.take .streamFaulted (p.stream n).carrier (some n) 5 p.timeCounter)).take .restrictedEntered none (some n)
        src.detail p.timeCounter

theorem Part.settle_now (p : Part) : p.settle.now = p.now := by
  rw [Part.settle, ← p.laneWork_judgeRestarts.now]
  unfold Part.judgeQuiesce
  split
  · exact Part.setService_now _ _
  · rfl

theorem Part.failedOn_controlFailure {p : Part} (hs : p.intake.service = .running) {n : StreamId}
    (hf : (p.stream n).state ≠ .faulted) (src : FailureSource) : p.FailedOn (p.controlFailure n src) n src := by
  have hwork : p.failureNoted.EngineWork (p.failureNoted.fault n 5 src.failedEntry) :=
    Part.engineWork_fault _ n 5 src.failedEntry
  have hrec := p.failureNoted.fault_stream_self n 5 src.failedEntry
  have hhanded := p.failureNoted.fault_completions n 5 (failed := src.failedEntry)
  have hlog := fun hu => Part.fault_log (p := p.failureNoted) hu n 5 (failed := src.failedEntry)
  have hintake := hwork.intake
  rw [p.failureNoted_stream n] at hrec hhanded
  rw [Part.failureNoted_completions] at hhanded
  rw [Part.failureNoted_intake] at hintake
  rw [Part.controlFailure_of_running hs hf]
  generalize p.failureNoted.fault n 5 src.failedEntry = q at *
  have hrunning : q.intake.service = .running := by rw [hintake]; exact hs
  have hservice : (q.restrictedBy n src).intake.service = .restricted := Part.restrictedBy_service hrunning n src
  have hquiet : (q.restrictedBy n src).intake.service ≠ .quiescing := by
    rw [hservice]; exact (by decide : ServiceState.restricted ≠ .quiescing)
  constructor
  case stream => rw [Part.settle_stream, Part.restrictedBy_stream, hrec]
  case service => rw [Part.judgeQuiesce_intake hquiet, hservice]
  case failed => rw [Part.settle_patrol, Part.restrictedBy_patrol, hwork.patrol, Part.failureNoted_failed]
  case now => rw [Part.settle_now, Part.restrictedBy_now, hwork.now, Part.failureNoted_now]
  case completions =>
    intro he
    rw [Part.settle_completions, Part.restrictedBy_completions, hhanded he]
  case log =>
    intro he hu htally hsettled
    have hsettled' : (q.restrictedBy n src).settled := by
      refine ⟨fun l => ?_, hquiet⟩
      rw [Part.restrictedBy_lane, hwork.lane l, Part.lane, p.failureNoted_lanes]
      exact hsettled.1 l
    have htime : p.failureNoted.timeCounter = p.timeCounter := by
      rw [Part.timeCounter, Part.failureNoted_now]; rfl
    have hqtime : q.timeCounter = p.timeCounter := hwork.timeCounter.trans htime
    rw [p.failureNoted_stream n, Part.failureNoted_log htally, htime] at hlog
    rw [Part.settle_of_settled hsettled', Part.restrictedBy_log hrunning n src (by rw [hintake]), hqtime,
      hlog (Part.unwatched_of_params hu p.failureNoted_params) he]

/-! ### Poisoned data (R168) -/

theorem Part.streamsOnly_poison (p : Part) (o : Owner) : p.StreamsOnly (p.poison o) := by
  unfold Part.poison
  split
  · split
    · exact .refl p
    · split
      · exact .refl p
      · exact (p.streamsOnly_modStream _ _).trans (Part.streamsOnly_event _ _ _ _ _)
  · split
    · exact .refl p
    · split
      · exact .refl p
      · exact (p.streamsOnly_modStream _ _).trans (Part.streamsOnly_event _ _ _ _ _)

theorem Part.poison_lanes (p : Part) (o : Owner) : (p.poison o).lanes = p.lanes := by
  unfold Part.poison
  split
  · split
    · rfl
    · split <;> rfl
  · split
    · rfl
    · split <;> rfl

theorem Part.poison_entry {p : Part} {i : EntryIx} {e : OttEntry} (h : p.findEntry i = some e) (he : e.poisoned = false) :
    ((p.poison (.entry i)).stream e.stream).inflight = (p.stream e.stream).inflight.map (fun x =>
      if x.index = i then { x with poisoned := true } else x) ∧
    (p.poison (.entry i)).log = p.log.take .poisoned none (some e.stream) (e.seq.setWidth 16) p.timeCounter := by
  have hpoison : p.poison (.entry i) = (p.modStream e.stream (fun r =>
      { r with inflight := r.inflight.map (fun x => if x.index = i then { x with poisoned := true } else x) })).event
      .poisoned none (some e.stream) (e.seq.setWidth 16) := by
    simp [Part.poison, h, he]
  rw [hpoison]
  refine ⟨?_, rfl⟩
  rw [Part.event_stream, Part.modStream_stream_self]

theorem Part.poison_slot {p : Part} {i : SlotIx} {h : Held} (hfind : p.findHeld i = some h) (hh : h.work.poisoned = false) :
    ((p.poison (.slot i)).stream h.stream).hold = (p.stream h.stream).hold.map (fun x =>
      if x.slot = i then { x with work := { x.work with poisoned := true } } else x) ∧
    (p.poison (.slot i)).log = p.log.take .poisoned none (some h.stream) 0xFFFF p.timeCounter := by
  have hpoison : p.poison (.slot i) = (p.modStream h.stream (fun r =>
      { r with hold := r.hold.map (fun x =>
          if x.slot = i then { x with work := { x.work with poisoned := true } } else x) })).event
      .poisoned none (some h.stream) 0xFFFF := by
    simp [Part.poison, hfind, hh]
  rw [hpoison]
  refine ⟨?_, rfl⟩
  rw [Part.event_stream, Part.modStream_stream_self]

/-! ### O39: the checked reads -/

/-- A read noted is a mark in the patrol's pass, and nothing else (R167). -/
theorem Part.noteRead_keeps (p : Part) (read : PatrolRead) :
    (p.noteRead read).engine = p.engine ∧ (p.noteRead read).intake = p.intake ∧ (p.noteRead read).log = p.log ∧
    (p.noteRead read).lanes = p.lanes ∧ (p.noteRead read).completions = p.completions ∧
    (p.noteRead read).params = p.params ∧ (p.noteRead read).now = p.now ∧ (p.noteRead read).counters = p.counters := by
  rw [Part.noteRead_eq]
  exact ⟨rfl, rfl, rfl, rfl, rfl, rfl, rfl, rfl⟩

theorem Part.noteRead_mark (p : Part) (by_ : Reader) (check : ItemCheck) (h : itemOf check < passItems) (k : Nat) :
    (p.noteRead ⟨by_, check⟩).patrol.read.getLsbD k =
      (p.patrol.read.getLsbD k || (by_ == .patrol && k == itemOf check)) := by
  cases by_ with
  | patrol => exact (p.patrol.mark_read (itemOf check) k h).trans (by simp)
  | use => simp [Part.noteRead]

/-- A clean read is marked, and that is all (R166). -/
theorem Part.cleanRead_spec (p : Part) (w : List Instr) (by_ : Reader) (check : ItemCheck) (item : Nat)
    (hs : p.intake.service ≠ .init) (hitem : itemOf check = item) (hlt : item < passItems)
    (hclean : ∀ q : Part, q.checkItem check = q) : ∃ p', exec (.patrolCheck ⟨by_, check⟩) ⟨p, w⟩ = .next ⟨p', w⟩ ∧
      p' = { p with patrol := { p.patrol with read := p'.patrol.read } } ∧
      ∀ k, p'.patrol.read.getLsbD k = (p.patrol.read.getLsbD k || (by_ == .patrol && k == item)) := by
  have hexec : exec (.patrolCheck ⟨by_, check⟩) ⟨p, w⟩ = .next ⟨p.noteRead ⟨by_, check⟩, w⟩ := by
    refine congrArg (fun q => Host.Outcome.next (State.mk q w)) ?_
    exact (if_neg hs).trans (hclean _)
  refine ⟨_, hexec, ?_, fun k => by rw [p.noteRead_mark by_ check (hitem ▸ hlt), hitem]⟩
  cases by_ <;> rfl

/-- What a finding does on the part with its read noted. -/
theorem exec_patrolCheck (p : Part) (w : List Instr) (read : PatrolRead) (hs : p.intake.service ≠ .init) :
    exec (.patrolCheck read) ⟨p, w⟩ = .next ⟨(p.noteRead read).checkItem read.check, w⟩ :=
  congrArg (fun q => Host.Outcome.next (State.mk q w)) (if_neg hs)

theorem Part.correctedRead_spec {p : Part} (hu : p.unwatched) (read : PatrolRead) :
    (p.noteRead read).corrected.counter (.part .correctedChecks) = p.counter (.part .correctedChecks) + 1 ∧
    (p.noteRead read).corrected.engine = p.engine ∧ (p.noteRead read).corrected.lanes = p.lanes ∧
    (p.noteRead read).corrected.log = p.log ∧ (p.noteRead read).corrected.intake = p.intake := by
  obtain ⟨hengine, hintake, hlog, hlanes, -, hparams, -, hcounters⟩ := p.noteRead_keeps read
  unfold Part.corrected
  refine ⟨?_, by rw [Part.raise_engine, hengine], by rw [Part.raise_lanes, hlanes], ?_, by rw [Part.raise_intake, hintake]⟩
  · rw [Part.raise_counter_self]
    unfold Part.counter
    rw [hcounters]
  · rw [Part.unwatched_raise (Part.unwatched_of_params hu hparams), hlog]

theorem Part.noteRead_stream (p : Part) (read : PatrolRead) (n : StreamId) : (p.noteRead read).stream n = p.stream n := by
  rw [Part.stream, (p.noteRead_keeps read).1]; rfl

theorem Part.noteRead_timeCounter (p : Part) (read : PatrolRead) : (p.noteRead read).timeCounter = p.timeCounter := by
  obtain ⟨-, -, -, -, -, -, hnow, -⟩ := p.noteRead_keeps read
  rw [Part.timeCounter, hnow]; rfl

/-- The failure that a noted read has found, on the part before the read. -/
theorem Part.failedOn_noted {p : Part} (read : PatrolRead) (hs : p.intake.service = .running) {n : StreamId}
    (hf : (p.stream n).state ≠ .faulted) (src : FailureSource) :
    p.FailedOn ((p.noteRead read).controlFailure n src) n src := by
  obtain ⟨-, hintake, hlog, hlanes, hcompletions, hparams, hnow, -⟩ := p.noteRead_keeps read
  have hstream := p.noteRead_stream read n
  have h := Part.failedOn_controlFailure (p := p.noteRead read) (n := n) (by rw [hintake]; exact hs)
    (by rw [hstream]; exact hf) src
  constructor
  case stream => rw [← hstream]; exact h.stream
  case service => exact h.service
  case failed => exact h.failed
  case now => rw [h.now, hnow]
  case completions => rw [← hstream, ← hcompletions]; exact h.completions
  case log =>
    intro he hu htally hsettled
    rw [← hstream, ← hlog, ← p.noteRead_timeCounter read]
    refine h.log (by rw [hstream]; exact he) (Part.unwatched_of_params hu hparams) (by rw [hintake]; exact htally)
      ⟨fun l => ?_, by rw [hintake]; exact hsettled.2⟩
    rw [Part.lane, hlanes]
    exact hsettled.1 l

@[simp] theorem Part.writeBlock_intake (p : Part) (b : BlockIx) (x : List Byte) : (p.writeBlock b x).intake = p.intake := rfl
@[simp] theorem Part.writeBlock_lanes (p : Part) (b : BlockIx) (x : List Byte) : (p.writeBlock b x).lanes = p.lanes := rfl
@[simp] theorem Part.writeBlock_log (p : Part) (b : BlockIx) (x : List Byte) : (p.writeBlock b x).log = p.log := rfl
@[simp] theorem Part.writeBlock_now (p : Part) (b : BlockIx) (x : List Byte) : (p.writeBlock b x).now = p.now := rfl
@[simp] theorem Part.writeBlock_timeCounter (p : Part) (b : BlockIx) (x : List Byte) :
    (p.writeBlock b x).timeCounter = p.timeCounter := rfl
@[simp] theorem Part.writeBlock_completions (p : Part) (b : BlockIx) (x : List Byte) :
    (p.writeBlock b x).completions = p.completions := rfl
@[simp] theorem Part.writeBlock_buffer (p : Part) (b : BlockIx) (x : List Byte) :
    (p.writeBlock b x).engine.buffer = p.engine.buffer.setBlock b x := rfl
@[simp] theorem Part.writeBlock_streams (p : Part) (b : BlockIx) (x : List Byte) :
    (p.writeBlock b x).engine.streams = p.engine.streams := rfl
@[simp] theorem Part.writeBlock_stream (p : Part) (b : BlockIx) (x : List Byte) (n : StreamId) :
    (p.writeBlock b x).stream n = p.stream n := by rw [Part.stream, Part.writeBlock_streams]; rfl
theorem Part.writeBlock_findEntry (p : Part) (b : BlockIx) (x : List Byte) (i : EntryIx) :
    (p.writeBlock b x).findEntry i = p.findEntry i := by unfold Part.findEntry; simp only [Part.writeBlock_stream]
theorem Part.writeBlock_findHeld (p : Part) (b : BlockIx) (x : List Byte) (i : SlotIx) :
    (p.writeBlock b x).findHeld i = p.findHeld i := by unfold Part.findHeld; simp only [Part.writeBlock_stream]

/-- An uncorrectable block: in use, its owner is poisoned; free, it is rewritten (R168). -/
theorem Part.checkBlock_of_owner {p : Part} {b : BlockIx} {o : Owner} (h : p.engine.owners.get b = some o)
    (asRead : List Byte) : p.checkBlock b (.uncorrectable asRead) = (p.writeBlock b asRead).poison o := by
  simp [Part.checkBlock, h]

theorem Part.checkBlock_of_free {p : Part} {b : BlockIx} (h : p.engine.owners.get b = none) (asRead : List Byte) :
    p.checkBlock b (.uncorrectable asRead) = p.writeBlock b (List.replicate 64 0) := by
  simp [Part.checkBlock, h, Config.blockBytes]

/-- What an uncorrectable block leaves as it is, and the buffer it leaves (R168). -/
theorem Part.checkBlock_spec (p : Part) (b : BlockIx) (asRead : List Byte) :
    (p.checkBlock b (.uncorrectable asRead)).intake = p.intake ∧
    (p.checkBlock b (.uncorrectable asRead)).lanes = p.lanes ∧
    (p.checkBlock b (.uncorrectable asRead)).completions = p.completions ∧
    (p.checkBlock b (.uncorrectable asRead)).engine.buffer = p.engine.buffer.setBlock b
      (if p.engine.owners.get b = none then List.replicate 64 0 else asRead) := by
  cases ho : p.engine.owners.get b with
  | none =>
    rw [Part.checkBlock_of_free ho]
    exact ⟨p.writeBlock_intake b _, p.writeBlock_lanes b _, p.writeBlock_completions b _, p.writeBlock_buffer b _⟩
  | some o =>
    rw [Part.checkBlock_of_owner ho]
    have hwork := (p.writeBlock b asRead).streamsOnly_poison o
    exact ⟨hwork.intake.trans (p.writeBlock_intake b _),
      ((p.writeBlock b asRead).poison_lanes o).trans (p.writeBlock_lanes b _),
      hwork.completions.trans (p.writeBlock_completions b _), hwork.buffer.trans (p.writeBlock_buffer b _)⟩

/-- Settles O39. -/
theorem patrolChecks : Obligations.PatrolChecks := by
  refine ⟨fun p w read hs => ?init, fun p w by_ hu hs => ?_⟩
  case init => exact congrArg (fun q => Host.Outcome.next (State.mk q w)) (if_pos hs)
  have hnotinit : p.intake.service ≠ .init := by rw [hs]; exact (by decide : ServiceState.running ≠ .init)
  refine ⟨fun check item hcheck => ?clean, fun check hcheck => ?corrected, fun n epoch nextSeq rejections hf => ?record,
    fun i e n he hn hf => ?entry, fun b asRead => ?block⟩
  case clean =>
    rcases hcheck with ⟨n, rfl, rfl⟩ | ⟨i, rfl, rfl⟩ | ⟨b, rfl, rfl⟩
    · exact p.cleanRead_spec w by_ _ _ hnotinit rfl (Nat.lt_trans n.isLt (by decide)) fun q => rfl
    · exact p.cleanRead_spec w by_ _ _ hnotinit rfl (Nat.lt_trans (Nat.add_lt_add_left i.isLt 64) (by decide)) fun q => rfl
    · exact p.cleanRead_spec w by_ _ _ hnotinit rfl (Nat.add_lt_add_left b.isLt 320) fun q => rfl
  case corrected =>
    have hexec := exec_patrolCheck p w ⟨by_, check⟩ hnotinit
    rcases hcheck with ⟨n, rfl⟩ | ⟨i, rfl⟩ | ⟨b, rfl⟩ <;> exact ⟨_, hexec, Part.correctedRead_spec hu _⟩
  case record =>
    have hexec := exec_patrolCheck p w ⟨by_, .record n (.uncorrectable epoch nextSeq rejections)⟩ hnotinit
    have hfail := Part.failedOn_noted ⟨by_, .record n (.uncorrectable epoch nextSeq rejections)⟩ hs hf .record
    replace hexec : _ = Host.Outcome.next (State.mk (((p.noteRead ⟨by_, .record n
      (.uncorrectable epoch nextSeq rejections)⟩).controlFailure n .record).modStream n
        (fun r => r.asRead epoch nextSeq rejections)) w) := hexec
    generalize (p.noteRead ⟨by_, .record n (.uncorrectable epoch nextSeq rejections)⟩).controlFailure n .record = q at *
    have hrec : (q.modStream n (fun r => r.asRead epoch nextSeq rejections)).stream n =
        (q.stream n).asRead epoch nextSeq rejections := q.modStream_stream_self n _
    rw [hfail.stream] at hrec
    refine ⟨_, hexec, by rw [hrec]; rfl, by rw [hrec]; rfl, by rw [hrec]; rfl, by rw [hrec]; rfl, by rw [hrec]; rfl,
      by rw [hrec]; rfl, by rw [hrec]; rfl, hfail.completions fun e _ => e.endsAsItself_none, hfail.service, hfail.failed,
      fun htally hsettled => hfail.log (fun e _ => e.endsAsItself_none) hu htally hsettled⟩
  case entry =>
    have hexec := exec_patrolCheck p w ⟨by_, .entry i .uncorrectable⟩ hnotinit
    have hfail := Part.failedOn_noted ⟨by_, .entry i .uncorrectable⟩ hs hf (.entry i)
    have hfind : (p.noteRead ⟨by_, .entry i .uncorrectable⟩).findEntry i = some e := by
      rw [← he]
      unfold Part.findEntry Part.stream
      rw [(p.noteRead_keeps _).1]
    have hcheck : (p.noteRead ⟨by_, .entry i .uncorrectable⟩).checkItem (.entry i .uncorrectable) =
        (p.noteRead ⟨by_, .entry i .uncorrectable⟩).controlFailure n (.entry i) := by
      rw [hn, Part.checkItem, Part.checkEntry, hfind]
    refine ⟨_, hexec, ?_⟩
    dsimp only
    rw [hcheck]
    generalize (p.noteRead ⟨by_, .entry i .uncorrectable⟩).controlFailure n (.entry i) = q at *
    exact ⟨by rw [hfail.stream]; rfl, by rw [hfail.stream]; rfl, by rw [hfail.stream]; rfl, hfail.service, hfail.failed,
      fun hagree => ⟨hfail.completions fun e he => (hagree e he).endsAsItself _,
        fun htally hsettled => hfail.log (fun e he => (hagree e he).endsAsItself _) hu htally hsettled⟩⟩
  case block =>
    have hexec := exec_patrolCheck p w ⟨by_, .block b (.uncorrectable asRead)⟩ hnotinit
    replace hexec : _ = Host.Outcome.next (State.mk ((p.noteRead ⟨by_, .block b
      (.uncorrectable asRead)⟩).checkBlock b (.uncorrectable asRead)) w) := hexec
    obtain ⟨hengine, hintake, hlog, hlanes, hcompletions, -, -, -⟩ :=
      p.noteRead_keeps ⟨by_, .block b (.uncorrectable asRead)⟩
    have htime := p.noteRead_timeCounter ⟨by_, .block b (.uncorrectable asRead)⟩
    generalize p.noteRead ⟨by_, .block b (.uncorrectable asRead)⟩ = q at *
    obtain ⟨hintake', hlanes', hcompletions', hbuffer⟩ := q.checkBlock_spec b asRead
    have hstream : ∀ n, q.stream n = p.stream n := fun n => by rw [Part.stream, hengine]; rfl
    refine ⟨_, hexec, hintake'.trans hintake, hlanes'.trans hlanes, hcompletions'.trans hcompletions, fun hwf c hc => ?_,
      fun hwf hl => ?_, fun hfree => ?_, fun i e ho he hp => ?_, fun i x ho hx hp => ?_⟩
    · rw [hbuffer, hengine]
      exact Memory.block_setBlock_of_ne hwf hc _
    · rw [hbuffer, hengine]
      refine Memory.block_setBlock_self hwf b ?_
      split
      · exact List.length_replicate
      · exact hl
    · rw [Part.checkBlock_of_free (by rw [hengine]; exact hfree)]
      exact ⟨(q.writeBlock_log b _).trans hlog, fun n => (q.writeBlock_stream b _ n).trans (hstream n)⟩
    · rw [Part.checkBlock_of_owner (by rw [hengine]; exact ho)]
      have hfind : (q.writeBlock b asRead).findEntry i = some e := by
        rw [Part.writeBlock_findEntry, ← he, Part.findEntry, Part.findEntry]
        simp only [hstream]
      have h := Part.poison_entry hfind hp
      rwa [Part.writeBlock_stream, Part.writeBlock_log, Part.writeBlock_timeCounter, hstream, hlog, htime] at h
    · rw [Part.checkBlock_of_owner (by rw [hengine]; exact ho)]
      have hfind : (q.writeBlock b asRead).findHeld i = some x := by
        rw [Part.writeBlock_findHeld, ← hx, Part.findHeld, Part.findHeld]
        simp only [hstream]
      have h := Part.poison_slot hfind hp
      rwa [Part.writeBlock_stream, Part.writeBlock_log, Part.writeBlock_timeCounter, hstream, hlog, htime] at h

end Sys2Proof.Machine
end

section
/-! The parameter table, and the commands that read (O40). -/

namespace Sys2Proof.Machine

/-! ### The parameters by id (R180) -/

/-- The place of a parameter in the table of R180, one less than its id. -/
def Param.place : Param → Nat
  | .beatInterval => 0
  | .leak => 1
  | .clearLevel => 2
  | .warnLevel => 3
  | .downLevel => 4
  | .holdDown => 5
  | .qualTolerance => 6
  | .margin => 7
  | .deadlineMin => 8
  | .deadlineMax => 9
  | .streamWindow => 10
  | .stallLimit => 11
  | .drainLimit => 12
  | .suspectWindow => 13
  | .returnDelay => 14
  | .stormRewinds => 15
  | .sourceNode => 16
  | .fabricIdentity => 17
  | .attentionSet => 18
  | .counterHalfSet => 19

theorem Param.place_lt (k : Param) : k.place < 20 := by cases k <;> decide

theorem Param.ofId_of_place {b : Byte} (k : Param) (h : b.toNat = k.place + 1) : Param.ofId b = some k := by
  unfold Param.ofId
  rw [h]
  cases k <;> rfl

theorem Param.exists_place {m : Nat} (h : m < 20) : ∃ k : Param, k.place = m := by
  interval_cases m
  exacts [⟨.beatInterval, rfl⟩, ⟨.leak, rfl⟩, ⟨.clearLevel, rfl⟩, ⟨.warnLevel, rfl⟩, ⟨.downLevel, rfl⟩, ⟨.holdDown, rfl⟩,
    ⟨.qualTolerance, rfl⟩, ⟨.margin, rfl⟩, ⟨.deadlineMin, rfl⟩, ⟨.deadlineMax, rfl⟩, ⟨.streamWindow, rfl⟩,
    ⟨.stallLimit, rfl⟩, ⟨.drainLimit, rfl⟩, ⟨.suspectWindow, rfl⟩, ⟨.returnDelay, rfl⟩, ⟨.stormRewinds, rfl⟩,
    ⟨.sourceNode, rfl⟩, ⟨.fabricIdentity, rfl⟩, ⟨.attentionSet, rfl⟩, ⟨.counterHalfSet, rfl⟩]

theorem Params.table_getElem? (q : Params) (k : Param) :
    q.table[k.place]? = some (q.value k, k.width, (k.range q).1, (k.range q).2) := by cases k <;> rfl

/-- The table of R180 holds the parameter of each known id. -/
theorem Param.of_table {q : Params} {b : Byte} {x : Nat × Nat × Nat × Nat} (hb : 1 ≤ b.toNat)
    (h : q.table[b.toNat - 1]? = some x) : ∃ k, Param.ofId b = some k ∧ b.toNat = k.place + 1 ∧
      x = (q.value k, k.width, (k.range q).1, (k.range q).2) := by
  have hlt : b.toNat - 1 < 20 := by
    obtain ⟨hlt, -⟩ := List.getElem?_eq_some_iff.mp h
    exact hlt
  obtain ⟨k, hk⟩ := Param.exists_place hlt
  have hid : b.toNat = k.place + 1 := by omega
  refine ⟨k, Param.ofId_of_place k hid, hid, ?_⟩
  rw [← hk, q.table_getElem? k] at h
  exact (Option.some.inj h).symm

/-! ### O40: the read commands -/

theorem streamOfByte_val (n : StreamId) : streamOfByte (BitVec.ofNat 8 n.val) = some n := by
  have hlt := n.isLt
  have hval : (BitVec.ofNat 8 n.val).toNat = n.val := by rw [BitVec.toNat_ofNat]; omega
  unfold streamOfByte
  rw [dif_pos (by rw [hval]; exact hlt)]
  exact congrArg some (Fin.ext hval)

theorem routeOfByte_of_val {b : Byte} {i : RouteIx} (h : b.toNat = i.val) : routeOfByte b = some i := by
  unfold routeOfByte
  rw [dif_pos (by rw [h]; exact i.isLt)]
  exact congrArg some (Fin.ext h)

theorem Route.bytes_eq (r : Route) : r.bytes = if r.valid then
      [0x01#8] ++ toBigEndian 6 r.base.toNat ++ toBigEndian 5 r.units ++ toBigEndian 6 r.target.toNat
        ++ toBigEndian 2 r.node.toNat ++ [BitVec.ofNat 8 r.stream.val, BitVec.ofNat 8 r.preferred.code,
          (if r.policy = .returning then 0x01#8 else 0x00#8), (if r.access = .readOnly then 0x01#8 else 0x00#8)]
    else List.replicate 24 0#8 := by
  have hpolicy : BitVec.ofNat 8 r.policy.code = if r.policy = .returning then 0x01#8 else 0x00#8 := by
    cases r.policy <;> rfl
  have haccess : BitVec.ofNat 8 r.access.code = if r.access = .readOnly then 0x01#8 else 0x00#8 := by
    cases r.access <;> rfl
  rw [Route.bytes, hpolicy, haccess]
  rfl

/-- The bytes of SMRD are 27, with the stream, its state, and the epoch and next sequence at their places (R178). -/
theorem StreamRec.bytes_spec (r : StreamRec) (n : StreamId) (now : Nat) :
    (r.bytes n now).length = 27 ∧ (r.bytes n now).getD 0 0 = BitVec.ofNat 8 n.val ∧
    (r.bytes n now).getD 1 0 = BitVec.ofNat 8 r.state.code ∧
    ((r.bytes n now).drop 7).take 3 = [BitVec.ofNat 8 r.epoch.toNat] ++ toBigEndian 2 r.nextSeq.toNat := by
  have htwo : ∀ v, (twoBytesOr v).length = 2 := fun v => by cases v <;> rfl
  refine ⟨?_, rfl, rfl, rfl⟩
  simp [StreamRec.bytes, htwo]

theorem LaneRec.bytes_spec (r : LaneRec) (l : Lane) :
    (r.bytes l).length = 22 ∧ (r.bytes l).getD 0 0 = BitVec.ofNat 8 l.code ∧
    (r.bytes l).getD 1 0 = BitVec.ofNat 8 r.state.code ∧
    ((r.bytes l).drop 5).take 4 = toBigEndian 2 r.figure ++ toBigEndian 2 r.latency := by
  have htwo : ∀ v, (twoBytesOr v).length = 2 := fun v => by cases v <;> rfl
  have hpartner : (partnerBytes r.page).length = 6 := by cases r.page <;> rfl
  refine ⟨?_, rfl, rfl, rfl⟩
  simp [LaneRec.bytes, htwo, hpartner]

theorem Part.statData_spec (p : Part) : p.statData.length = 20 ∧
    p.statData.getD 0 0 = (match p.intake.service with
      | .init => 0#8 | .running => 1#8 | .quiescing => 2#8 | .quiesced => 3#8 | .restricted => 4#8) ∧
    p.statData.getD 1 0 = p.logFlags ∧ p.statData.getD 2 0 = BitVec.ofNat 8 p.log.overflow ∧
    p.statData.getD 5 0 = BitVec.ofNat 8 p.intake.queue.length ∧
    (p.statData.drop 6).take 2 = toBigEndian 2 (allStreams.map (fun n => (p.stream n).inflight.length)).sum ∧
    p.statData.getD 8 0 = BitVec.ofNat 8 (allStreams.map (fun n => (p.stream n).hold.length)).sum ∧
    (p.statData.drop 12).take 4 = toBigEndian 4 (p.now % 2 ^ 32) := by
  have htime : p.timeCounter.toNat = p.now % 2 ^ 32 := BitVec.toNat_ofNat _ _
  refine ⟨?_, ?_, rfl, rfl, rfl, rfl, rfl, ?_⟩
  · simp [Part.statData]
  · show BitVec.ofNat 8 p.intake.service.code = _
    cases p.intake.service <;> rfl
  · rw [← htime]
    rfl

/-- A command that only reads answers OK with its data (R174). -/
theorem readsOnly {p : Part} (hport : p.port.burst = none) {w : List Instr} {c : Instr} {f : Part → Part} (data : List Byte)
    (hexec : exec c ⟨p, w⟩ = (State.mk p w).manage f) (hf : f p = p.respond Status.ok.code data) :
    ∃ p', exec c ⟨p, w⟩ = .next ⟨p', w⟩ ∧ p.sameButResponse p' ∧ p'.port.status = 0#8 ∧ p'.port.data = data := by
  refine ⟨p.respond Status.ok.code data, ?_, p.sameButResponse_respond _ _, rfl, rfl⟩
  rw [hexec, State.manage_of_free hport w f, hf]

theorem exec_smrd {p : Part} (hport : p.port.burst = none) (w : List Instr) (n : StreamId) (found : RecordCheck) :
    exec (.smrd (BitVec.ofNat 8 n.val) found) ⟨p, w⟩ = .next ⟨(p.readRecord n found).respond Status.ok.code
      (((p.readRecord n found).stream n).bytes n (p.readRecord n found).now), w⟩ := by
  refine (State.manage_of_free hport w _).trans ?_
  rw [streamOfByte_val]
  rfl

/-- Settles O40. -/
theorem readsAnswer : Obligations.ReadsAnswer := by
  intro p w hport
  refine ⟨fun c data hc => ?table, ?stat, fun l => ?lane, fun n => ⟨?clean, fun hs => ?corrected,
    fun epoch nextSeq rejections hs hf => ?failed⟩⟩
  case table =>
    rcases hc with ⟨rfl, rfl⟩ | ⟨id, held, width, low, high, rfl, hid, htable, rfl⟩ | ⟨b, i, r, rfl, hb, hr, rfl⟩ |
      ⟨rfl, hempty, rfl⟩ | ⟨e, rest, rfl, hlog, rfl⟩
    · exact readsOnly hport _ rfl rfl
    · obtain ⟨k, hk, -, hx⟩ := Param.of_table hid htable
      obtain ⟨rfl, rfl, -, -⟩ := Prod.mk.injEq .. ▸ hx
      exact readsOnly hport _ rfl (by rw [hk]; rfl)
    · exact readsOnly hport _ rfl (by rw [routeOfByte_of_val hb, Part.withOperand_some, hr, Route.bytes_eq])
    · exact readsOnly hport _ rfl (by rw [hempty]; rfl)
    · refine readsOnly hport _ rfl ?_
      rw [hlog]
      rfl
  case stat =>
    exact ⟨p.respond Status.ok.code p.statData, State.manage_of_free hport w _, p.sameButResponse_respond _ _, rfl,
      p.statData_spec⟩
  case lane =>
    refine ⟨p.respond Status.ok.code ((p.lane l).bytes l), ?_, p.sameButResponse_respond _ _, rfl, (p.lane l).bytes_spec l⟩
    refine (State.manage_of_free hport w _).trans ?_
    rw [laneOfByte_code]
    rfl
  case clean =>
    have hclean : p.readRecord n .clean = p := by
      unfold Part.readRecord
      split <;> rfl
    have hexec := exec_smrd hport w n .clean
    rw [hclean] at hexec
    exact ⟨_, hexec, p.sameButResponse_respond _ _, rfl, (p.stream n).bytes_spec n p.now⟩
  case corrected =>
    have hread : p.readRecord n .corrected = p.corrected := if_neg hs
    have hexec := exec_smrd hport w n .corrected
    rw [hread] at hexec
    refine ⟨_, hexec, p.raise_counter_self _, p.raise_engine _, p.raise_lanes _, p.raise_intake _, rfl, ?_⟩
    show (p.corrected.stream n).bytes n p.corrected.now = _
    rw [Part.corrected, Part.raise_stream, Part.raise_now]
  case failed =>
    have hfail := Part.failedOn_controlFailure hs hf .record
    have hnotinit : p.intake.service ≠ .init := by rw [hs]; exact (by decide : ServiceState.running ≠ .init)
    have hread : p.readRecord n (.uncorrectable epoch nextSeq rejections) =
        (p.controlFailure n .record).modStream n (fun r => r.asRead epoch nextSeq rejections) := if_neg hnotinit
    have hexec := exec_smrd hport w n (.uncorrectable epoch nextSeq rejections)
    rw [hread] at hexec
    generalize p.controlFailure n .record = q at *
    have hrec : (q.modStream n (fun r => r.asRead epoch nextSeq rejections)).stream n =
        (q.stream n).asRead epoch nextSeq rejections := q.modStream_stream_self n _
    rw [hfail.stream] at hrec
    obtain ⟨hlength, -, hstate, hseqs⟩ := StreamRec.bytes_spec
      ((q.modStream n (fun r => r.asRead epoch nextSeq rejections)).stream n) n
      (q.modStream n (fun r => r.asRead epoch nextSeq rejections)).now
    refine ⟨_, hexec, ?_, ?_, ?_, ?_, ?_, ?_, hfail.completions fun e _ => e.endsAsItself_none, hfail.service, rfl, hlength,
      hstate.trans (by rw [hrec]; rfl), hseqs.trans (by rw [hrec]; rfl)⟩
    all_goals
      rw [Part.respond_stream, hrec]
      rfl

end Sys2Proof.Machine
end

section
/-! How far the dispatch of held requests goes (R27, R28). -/

namespace Sys2Proof.Machine

/-! ### Whether a head is ready -/

/-- Whether a stream's head is ready depends on its record and the parameters alone (R26). -/
theorem Part.headReady_congr {p q : Part} {n : StreamId} (hs : q.stream n = p.stream n) (hp : q.params = p.params) :
    q.headReady n = p.headReady n := by
  unfold Part.headReady Part.windowAllows
  rw [hs, hp]

theorem Part.headReady_of_no_hold {p : Part} {n : StreamId} (h : (p.stream n).hold = []) : p.headReady n = false := by
  unfold Part.headReady
  rw [h]

theorem Part.dispatchHead_freeEntries (p : Part) {n : StreamId} (hready : p.headReady n = true) {i : EntryIx}
    {rest : List EntryIx} (hfree : p.engine.freeEntries = i :: rest) : (p.dispatchHead n).engine.freeEntries = rest := by
  obtain ⟨x, hs, hhold⟩ := Part.headReady_hold hready
  rw [p.dispatchHead_engine hhold hfree]

theorem Part.dispatchHead_stream_of_ne (p : Part) {n m : StreamId} (h : m ≠ n) (hready : p.headReady n = true)
    (hfree : p.engine.freeEntries ≠ []) : (p.dispatchHead n).stream m = p.stream m := by
  obtain ⟨x, hs, hhold⟩ := Part.headReady_hold hready
  obtain ⟨i, rest, hfree⟩ := List.exists_cons_of_ne_nil hfree
  rw [p.dispatchHead_stream hhold hfree, if_neg h]

/-! ### The requests held in all -/

theorem sum_streams_succ {f g : StreamId → Nat} (n : StreamId) (hn : f n + 1 = g n) (hne : ∀ m, m ≠ n → f m = g m) :
    (allStreams.map f).sum + 1 = (allStreams.map g).sum := by
  have hf : (allStreams.map f).sum = f n + ∑ m ∈ Finset.univ.erase n, f m :=
    (Fin.sum_univ_def f).symm.trans (Finset.add_sum_erase _ f (Finset.mem_univ n)).symm
  have hg : (allStreams.map g).sum = g n + ∑ m ∈ Finset.univ.erase n, g m :=
    (Fin.sum_univ_def g).symm.trans (Finset.add_sum_erase _ g (Finset.mem_univ n)).symm
  have hrest : ∑ m ∈ Finset.univ.erase n, f m = ∑ m ∈ Finset.univ.erase n, g m :=
    Finset.sum_congr rfl fun m hm => hne m (Finset.ne_of_mem_erase hm)
  rw [hf, hg, hrest, ← hn]
  ring

theorem Part.hold_length_le_slotsInUse (p : Part) (n : StreamId) : (p.stream n).hold.length ≤ p.slotsInUse :=
  List.le_sum_of_mem (List.mem_map_of_mem (List.mem_finRange n))

/-- A dispatched head leaves one request less held (R27). -/
theorem Part.dispatchHead_slotsInUse (p : Part) {n : StreamId} (hready : p.headReady n = true)
    (hfree : p.engine.freeEntries ≠ []) : (p.dispatchHead n).slotsInUse + 1 = p.slotsInUse := by
  refine sum_streams_succ n ?_ fun m hm => by rw [p.dispatchHead_stream_of_ne hm hready hfree]
  obtain ⟨x, hs, hhold⟩ := Part.headReady_hold hready
  obtain ⟨i, rest, hfree⟩ := List.exists_cons_of_ne_nil hfree
  rw [p.dispatchHead_stream hhold hfree, if_pos rfl, hhold]
  rfl

/-! ### Where one stream's dispatch stops (R27) -/

theorem Part.dispatchHeld_of_stops {p : Part} {n : StreamId} (h : p.dispatchStops n) (k : Nat) : p.dispatchHeld n k = p := by
  cases k with
  | zero => rfl
  | succ k =>
    rw [Part.dispatchHeld, if_neg]
    rintro ⟨hready, hfree⟩
    exact h.elim (fun hn => Bool.false_ne_true (hn.symm.trans hready)) hfree

/-- With a budget for every request held, a stream dispatches until it can dispatch no more (R27). -/
theorem Part.dispatchHeld_stops (n : StreamId) (k : Nat) : ∀ p : Part, (p.stream n).hold.length ≤ k →
    (p.dispatchHeld n k).dispatchStops n := by
  induction k with
  | zero =>
    intro p hk
    exact .inl (Part.headReady_of_no_hold (List.eq_nil_of_length_eq_zero (Nat.le_zero.mp hk)))
  | succ k ih =>
    intro p hk
    by_cases hc : p.headReady n = true ∧ p.engine.freeEntries ≠ []
    · rw [Part.dispatchHeld, if_pos hc]
      obtain ⟨x, hs, hhold⟩ := Part.headReady_hold hc.1
      obtain ⟨i, rest, hfree⟩ := List.exists_cons_of_ne_nil hc.2
      refine ih _ ?_
      rw [p.dispatchHead_stream hhold hfree, if_pos rfl]
      rw [hhold, List.length_cons] at hk
      exact Nat.le_of_succ_le_succ hk
    · have hstops : p.dispatchStops n := by
        by_cases hready : p.headReady n = true
        · exact .inr (not_not.mp fun hfree => hc ⟨hready, hfree⟩)
        · exact .inl (Bool.eq_false_iff.mpr hready)
      rw [Part.dispatchHeld_of_stops hstops]
      exact hstops

/-! ### Where the arbiter stops (R28) -/

theorem Part.mem_arbiterOrder (p : Part) (n : StreamId) : n ∈ p.arbiterOrder :=
  List.mem_map.mpr ⟨n - (p.engine.lastServed + 1), List.mem_finRange _, add_sub_cancel _ _⟩

theorem Part.arbitrate_of_no_entry {p : Part} (h : p.engine.freeEntries = []) (k : Nat) : p.arbitrate k = p := by
  cases k with
  | zero => rfl
  | succ k => rw [Part.arbitrate, if_pos h]

theorem Part.arbitrate_of_none_ready {p : Part} (h : ∀ n, p.headReady n = false) (k : Nat) : p.arbitrate k = p := by
  have hfind : p.arbiterOrder.find? p.headReady = none :=
    List.find?_eq_none.mpr fun n _ => by rw [h n]; exact Bool.false_ne_true
  cases k with
  | zero => rfl
  | succ k =>
    rw [Part.arbitrate, hfind]
    split <;> rfl

theorem Part.serve_of_idle {p : Part} (h : p.engine.freeEntries = [] ∨ ∀ n, p.headReady n = false) : p.serve = p :=
  h.elim (fun hfree => Part.arbitrate_of_no_entry hfree 64) fun hnone => Part.arbitrate_of_none_ready hnone 64

/-- The arbiter serves one stream: its head is dispatched, and it is the last one served (R28). -/
def Part.served (p : Part) (n : StreamId) : Part := (p.dispatchHead n).modEngine (fun g => { g with lastServed := n })

theorem Part.served_stream (p : Part) (n m : StreamId) : (p.served n).stream m = (p.dispatchHead n).stream m :=
  Part.modEngine_stream _ _ rfl m

theorem Part.served_params (p : Part) (n : StreamId) : (p.served n).params = p.params :=
  (p.streamsOnly_dispatchHead n).params

theorem Part.arbitrate_succ {p : Part} {n : StreamId} (hfree : p.engine.freeEntries ≠ [])
    (hfind : p.arbiterOrder.find? p.headReady = some n) (k : Nat) : p.arbitrate (k + 1) = (p.served n).arbitrate k := by
  rw [Part.arbitrate, if_neg hfree, hfind]
  rfl

/-- One entry free: the arbiter serves the first ready stream after the last one served, and is done (R28). -/
theorem Part.serve_of_one {p : Part} {n : StreamId} {i : EntryIx} (hfree : p.engine.freeEntries = [i])
    (hfind : p.arbiterOrder.find? p.headReady = some n) : p.serve = p.served n := by
  rw [Part.serve, Part.arbitrate_succ (by rw [hfree]; exact List.cons_ne_nil _ _) hfind]
  exact Part.arbitrate_of_no_entry (p := p.served n) (p.dispatchHead_freeEntries (List.find?_some hfind) hfree) 63

theorem Part.arbiterOrder_find {p : Part} (j : Fin 64) (hready : p.headReady (p.engine.lastServed + 1 + j) = true)
    (hfirst : ∀ k < j, p.headReady (p.engine.lastServed + 1 + k) = false) :
    p.arbiterOrder.find? p.headReady = some (p.engine.lastServed + 1 + j) := by
  rw [List.find?_eq_some_iff_getElem]
  refine ⟨hready, j.val, by simp [Part.arbiterOrder], by simp [Part.arbiterOrder], fun k hk => ?_⟩
  have hk64 : k < 64 := Nat.lt_trans hk j.isLt
  have hget : p.arbiterOrder[k]'(by simpa [Part.arbiterOrder] using hk64) = p.engine.lastServed + 1 + ⟨k, hk64⟩ := by
    simp [Part.arbiterOrder]
  rw [hget, hfirst ⟨k, hk64⟩ hk]
  rfl

/-- With a budget for every request held, the arbiter serves until no entry is free or no head is ready (R28). -/
theorem Part.arbitrate_stops (k : Nat) : ∀ p : Part, p.slotsInUse ≤ k →
    (p.arbitrate k).engine.freeEntries = [] ∨ ∀ n, (p.arbitrate k).headReady n = false := by
  induction k with
  | zero =>
    intro p hk
    exact .inr fun n => Part.headReady_of_no_hold
      (List.eq_nil_of_length_eq_zero (Nat.le_zero.mp ((p.hold_length_le_slotsInUse n).trans hk)))
  | succ k ih =>
    intro p hk
    by_cases hfree : p.engine.freeEntries = []
    · rw [Part.arbitrate_of_no_entry hfree]
      exact .inl hfree
    · cases hfind : p.arbiterOrder.find? p.headReady with
      | none =>
        have hnone : ∀ n, p.headReady n = false := fun n =>
          Bool.eq_false_iff.mpr (List.find?_eq_none.mp hfind n (p.mem_arbiterOrder n))
        rw [Part.arbitrate_of_none_ready hnone]
        exact .inr hnone
      | some n =>
        rw [Part.arbitrate_succ hfree hfind]
        refine ih _ ?_
        have hslots : (p.served n).slotsInUse = (p.dispatchHead n).slotsInUse := by
          unfold Part.slotsInUse
          simp only [Part.served_stream]
        have := p.dispatchHead_slotsInUse (List.find?_some hfind) hfree
        omega

theorem Part.serve_stops {p : Part} (h : p.slotsInUse ≤ 64) :
    p.serve.engine.freeEntries = [] ∨ ∀ n, p.serve.headReady n = false := p.arbitrate_stops 64 h

/-- A stream that can dispatch no more is passed over by the arbiter (R28). -/
theorem Part.dispatchStops.arbitrate {n : StreamId} (k : Nat) : ∀ {p : Part}, p.dispatchStops n →
    (p.arbitrate k).dispatchStops n := by
  induction k with
  | zero => exact fun h => h
  | succ k ih =>
    intro p h
    by_cases hfree : p.engine.freeEntries = []
    · rw [Part.arbitrate_of_no_entry hfree]
      exact h
    · have hready : p.headReady n = false := h.resolve_right hfree
      cases hfind : p.arbiterOrder.find? p.headReady with
      | none =>
        rw [Part.arbitrate, if_neg hfree, hfind]
        exact h
      | some m =>
        have hm : p.headReady m = true := List.find?_some hfind
        have hne : n ≠ m := fun hnm => Bool.false_ne_true (hready.symm.trans (hnm ▸ hm))
        rw [Part.arbitrate_succ hfree hfind]
        refine ih (.inl ?_)
        rw [Part.headReady_congr (p := p) (by rw [Part.served_stream, p.dispatchHead_stream_of_ne hne hm hfree])
          (p.served_params m)]
        exact hready

theorem Part.dispatchStops.serve {p : Part} {n : StreamId} (h : p.dispatchStops n) : p.serve.dispatchStops n :=
  Part.dispatchStops.arbitrate 64 h

/-! ### With nothing held -/

theorem Part.noneHeld.serve {p : Part} (h : p.noneHeld) : p.serve = p :=
  Part.serve_of_idle (.inr fun n => Part.headReady_of_no_hold (h n))

theorem Part.noneHeld.dispatchHeld {p : Part} (h : p.noneHeld) (n : StreamId) (k : Nat) : p.dispatchHeld n k = p :=
  Part.dispatchHeld_of_stops (.inl (Part.headReady_of_no_hold (h n))) k

end Sys2Proof.Machine
end

section
/-! PMWR (O47). -/

namespace Sys2Proof.Machine

/-! ### Refusals (R180) -/

theorem definedCounters_iff (k : Fin 96) : (definedPart ++ definedLane ++ definedStream).getLsbD k = true ↔
    (64 + 1 ≤ k.val ∧ k.val ≤ 64 + 7 ∨ 32 + 1 ≤ k.val ∧ k.val ≤ 32 + 0xE ∨ 32 + 0x10 ≤ k.val ∧ k.val ≤ 32 + 0x14 ∨
      1 ≤ k.val ∧ k.val ≤ 0xA) := by
  revert k; decide

theorem counterHalf_undefinedMember_iff (v : Nat) : Param.undefinedMember .counterHalfSet v = true ↔
    ∃ k : Fin 96, v.testBit k = true ∧ ¬(64 + 1 ≤ k.val ∧ k.val ≤ 64 + 7 ∨ 32 + 1 ≤ k.val ∧ k.val ≤ 32 + 0xE ∨
      32 + 0x10 ≤ k.val ∧ k.val ≤ 32 + 0x14 ∨ 1 ≤ k.val ∧ k.val ≤ 0xA) := by
  rw [show Param.undefinedMember .counterHalfSet v =
      ((BitVec.ofNat 96 v &&& ~~~(definedPart ++ definedLane ++ definedStream)) != 0) from rfl, bne_iff_ne,
    and_not_ne_zero_iff]
  simp only [← definedCounters_iff, Bool.not_eq_true]

theorem Byte.eq_of_place {id : Byte} {k : Param} (h : id.toNat = k.place + 1) : id = BitVec.ofNat 8 (k.place + 1) := by
  rw [← h, BitVec.ofNat_toNat, BitVec.setWidth_eq]

/-- The forms of a value that R180 refuses, by the id they are written with. -/
theorem Param.refused_iff {id : Byte} {k : Param} (h : id.toNat = k.place + 1) (value : List Byte) :
    (value.length ≠ k.width ∨
      (id = 0x13#8 ∧ ∃ k : Fin 64, (bigEndian value).testBit k = true ∧ ¬(1 ≤ k.val ∧ k.val ≤ 0x21)) ∨
      (id = 0x14#8 ∧ ∃ k : Fin 96, (bigEndian value).testBit k = true ∧
        ¬(64 + 1 ≤ k.val ∧ k.val ≤ 64 + 7 ∨ 32 + 1 ≤ k.val ∧ k.val ≤ 32 + 0xE ∨
          32 + 0x10 ≤ k.val ∧ k.val ≤ 32 + 0x14 ∨ 1 ≤ k.val ∧ k.val ≤ 0xA))) ↔
    value.length ≠ k.width ∨ k.undefinedMember (bigEndian value) = true := by
  rw [← attention_undefinedMember_iff, ← counterHalf_undefinedMember_iff, Byte.eq_of_place h]
  refine or_congr_right ?_
  cases k with
  | attentionSet => simp [Param.place]
  | counterHalfSet => simp [Param.place]
  | beatInterval | leak | clearLevel | warnLevel | downLevel | holdDown | qualTolerance | margin | deadlineMin | deadlineMax
  | streamWindow | stallLimit | drainLimit | suspectWindow | returnDelay | stormRewinds | sourceNode | fabricIdentity =>
    simp [Param.place, Param.undefinedMember]

theorem Part.sourceFree_iff (p : Part) : p.sourceFree = true ↔
    ∀ n, ((p.stream n).state = .idle ∨ (p.stream n).state = .faulted) ∧ (p.stream n).inflight = [] := by
  simp [Part.sourceFree, allStreams]

theorem Param.id_iff {id : Byte} {k : Param} (h : id.toNat = k.place + 1) (j : Param) :
    id = BitVec.ofNat 8 (j.place + 1) ↔ k = j := by
  rw [Byte.eq_of_place h]
  constructor
  · intro hid
    have hval := congrArg BitVec.toNat hid
    have hk := k.place_lt
    have hj := j.place_lt
    rw [BitVec.toNat_ofNat, BitVec.toNat_ofNat, Nat.mod_eq_of_lt (by omega), Nat.mod_eq_of_lt (by omega)] at hval
    have hplace : k.place = j.place := by omega
    exact Option.some.inj ((Param.ofId_of_place k h).symm.trans (Param.ofId_of_place j (h.trans (by omega))))
  · rintro rfl
    rfl

/-! ### The value stored (R180) -/

/-- The parameters held as a word of bits, which a value must fit. -/
def Param.isWord : Param → Bool
  | .sourceNode | .fabricIdentity | .attentionSet | .counterHalfSet => true
  | _ => false

theorem clampTo_le {lo hi v : Nat} (h : lo ≤ hi) : clampTo lo hi v ≤ hi := by unfold clampTo; omega

/-- The three groups of COUNTER_HALF_SET make up the number that was split into them (R180). -/
theorem halfGroups_toNat {v : Nat} (h : v < 2 ^ 96) :
    (BitVec.ofNat 32 (v / 2 ^ 64) ++ BitVec.ofNat 32 (v / 2 ^ 32) ++ BitVec.ofNat 32 v).toNat = v := by
  have hjoin : BitVec.ofNat 32 (v / 2 ^ 64) ++ BitVec.ofNat 32 (v / 2 ^ 32) ++ BitVec.ofNat 32 v = BitVec.ofNat 96 v := by
    refine BitVec.eq_of_getLsbD_eq fun i hi => ?_
    simp only [BitVec.getLsbD_append, BitVec.getLsbD_ofNat, Nat.testBit_div_two_pow]
    by_cases hlow : i < 32
    · simp [hlow, hi]
    · by_cases hmid : i - 32 < 32
      · simp [hlow, hmid, hi, Nat.sub_add_cancel (Nat.le_of_not_lt hlow)]
      · have hhigh : i - 32 - 32 < 32 := by omega
        simp [hlow, hmid, hhigh, hi, show i - 32 - 32 + 64 = i by omega]
  rw [hjoin, BitVec.toNat_ofNat, Nat.mod_eq_of_lt h]

/-- A value in its range is held as it was stored. -/
theorem Params.table_store {q : Params} {k : Param} {v : Nat} (hv : k.isWord = true → v ≤ (k.range q).2) :
    (q.store k v).table.map Prod.fst = (q.table.map Prod.fst).set k.place v := by
  cases k with
  | sourceNode =>
    have hlt : v < 4096 := Nat.lt_succ_of_le (hv rfl)
    simp [Params.table, Params.store, Param.place, hlt]
  | fabricIdentity =>
    have hlt : v < 4294967296 := Nat.lt_succ_of_le (hv rfl)
    simp [Params.table, Params.store, Param.place, hlt]
  | attentionSet =>
    have hlt : v < 18446744073709551616 := Nat.lt_succ_of_le (hv rfl)
    simp [Params.table, Params.store, Param.place, hlt]
  | counterHalfSet =>
    have hset := halfGroups_toNat (v := v) (Nat.lt_succ_of_le (hv rfl))
    show [_, _, _, _, _, _, _, _, _, _, _, _, _, _, _, _, _, _, _, BitVec.toNat _] = _
    rw [show (q.store .counterHalfSet v).halfPart ++ (q.store .counterHalfSet v).halfLane ++
      (q.store .counterHalfSet v).halfStream = BitVec.ofNat 32 (v / 2 ^ 64) ++ BitVec.ofNat 32 (v / 2 ^ 32) ++
      BitVec.ofNat 32 v from rfl, hset]
    rfl
  | beatInterval | leak | clearLevel | warnLevel | downLevel | holdDown | qualTolerance | margin | deadlineMin | deadlineMax
  | streamWindow | stallLimit | drainLimit | suspectWindow | returnDelay | stormRewinds => rfl

/-- The clamped value of a word is in its range (R180). -/
theorem Params.clamped_le {q : Params} {k : Param} (hk : k.isWord = true) (v : Nat) :
    q.clamped k v ≤ (k.range q).2 := by
  refine clampTo_le ?_
  cases k with
  | sourceNode | fabricIdentity | attentionSet | counterHalfSet => exact Nat.zero_le _
  | beatInterval | leak | clearLevel | warnLevel | downLevel | holdDown | qualTolerance | margin | deadlineMin | deadlineMax
  | streamWindow | stallLimit | drainLimit | suspectWindow | returnDelay | stormRewinds => exact absurd hk (by decide)

/-! ### What a parameter write does besides (R29, R97) -/

/-- The part with one parameter stored. -/
def Part.stored (p : Part) (k : Param) (v : Nat) : Part := { p with params := p.params.store k v }

/-- The parameters whose change has the thresholds judge every lane (R97). -/
def Param.isThreshold (k : Param) : Bool := k == .clearLevel || k == .warnLevel || k == .downLevel

theorem Part.acceptParam_eq (p : Part) (k : Param) (v : Nat) : p.acceptParam k v =
    ((p.stored k (p.params.clamped k v)).afterWrite k (p.params.value k != p.params.clamped k v)).reply
      (if p.params.clamped k v = v then .ok else .okClamped) := rfl

theorem Part.afterWrite_of_same (p : Part) {k : Param} (hk : k.isThreshold = true) : p.afterWrite k false = p := by
  cases k with
  | clearLevel | warnLevel | downLevel => rfl
  | beatInterval | leak | holdDown | qualTolerance | margin | deadlineMin | deadlineMax | streamWindow | stallLimit
  | drainLimit | suspectWindow | returnDelay | stormRewinds | sourceNode | fabricIdentity | attentionSet
  | counterHalfSet => exact absurd hk (by decide)

theorem Part.afterWrite_of_changed (p : Part) {k : Param} (hk : k.isThreshold = true) :
    p.afterWrite k true = p.evaluateAll := by
  cases k with
  | clearLevel | warnLevel | downLevel => rfl
  | beatInterval | leak | holdDown | qualTolerance | margin | deadlineMin | deadlineMax | streamWindow | stallLimit
  | drainLimit | suspectWindow | returnDelay | stormRewinds | sourceNode | fabricIdentity | attentionSet
  | counterHalfSet => exact absurd hk (by decide)

theorem Part.afterWrite_of_plain (p : Part) {k : Param} (hk : k.isThreshold = false) (hw : k ≠ .streamWindow) (c : Bool) :
    p.afterWrite k c = p := by
  cases k with
  | streamWindow => exact absurd rfl hw
  | clearLevel | warnLevel | downLevel => exact absurd hk (by decide)
  | beatInterval | leak | holdDown | qualTolerance | margin | deadlineMin | deadlineMax | stallLimit
  | drainLimit | suspectWindow | returnDelay | stormRewinds | sourceNode | fabricIdentity | attentionSet
  | counterHalfSet => rfl

theorem Part.laneWork_evaluateAll (p : Part) : p.LaneWork p.evaluateAll :=
  ((((p.laneWork_evaluateLane .a0).trans (Part.laneWork_evaluateLane _ .a1)).trans
    (Part.laneWork_evaluateLane _ .b0)).trans (Part.laneWork_evaluateLane _ .b1)).trans
    (Part.streamsOnly_streamsFollow _ p).lanes

theorem Part.laneWork_afterWrite (p : Part) (k : Param) (c : Bool) : p.LaneWork (p.afterWrite k c) := by
  cases hk : k.isThreshold with
  | true =>
    cases c with
    | true => rw [p.afterWrite_of_changed hk]; exact p.laneWork_evaluateAll
    | false => rw [p.afterWrite_of_same hk]; exact .refl p
  | false =>
    by_cases hw : k = .streamWindow
    · rw [hw]; exact p.streamsOnly_serve.lanes
    · rw [p.afterWrite_of_plain hk hw]; exact .refl p

/-- What a threshold evaluation of a lane leaves of what the thresholds read (R94). -/
def Params.reviewed (q : Params) (r : LaneRec) : Nat × LaneState × Pin :=
  (r.figure, thresholdStateUnder q r.pin r.state r.figure, r.pin)

theorem Params.reviewed_congr (q : Params) {r r' : LaneRec} (h : r.judged = r'.judged) : q.reviewed r = q.reviewed r' := by
  obtain ⟨hfigure, hrest⟩ := Prod.mk.inj h
  obtain ⟨hstate, hpin⟩ := Prod.mk.inj hrest
  unfold Params.reviewed
  rw [hfigure, hstate, hpin]

theorem Part.evaluateLane_judged_self (p : Part) (l : Lane) :
    ((p.evaluateLane l).lane l).judged = p.params.reviewed (p.lane l) := by
  unfold LaneRec.judged Params.reviewed
  rw [Part.evaluateLane_lane_figure, Part.evaluateLane_lane_state, Part.evaluateLane_lane_pin]

theorem Part.evaluateLane_judged_of_ne (p : Part) {l m : Lane} (h : m ≠ l) :
    ((p.evaluateLane l).lane m).judged = (p.lane m).judged := by rw [p.evaluateLane_lane_of_ne h]

/-- The evaluation of every lane judges each lane's record as it stood (R97). -/
theorem Part.evaluateAll_judged (p : Part) (l : Lane) : (p.evaluateAll.lane l).judged = p.params.reviewed (p.lane l) := by
  have h0 := (p.laneWork_evaluateLane .a0).params
  have h1 := ((p.evaluateLane .a0).laneWork_evaluateLane .a1).params.trans h0
  have h2 := (((p.evaluateLane .a0).evaluateLane .a1).laneWork_evaluateLane .b0).params.trans h1
  have hfollow : (p.evaluateAll.lane l).judged =
      (((((p.evaluateLane .a0).evaluateLane .a1).evaluateLane .b0).evaluateLane .b1).lane l).judged := by
    rw [Part.evaluateAll, (Part.streamsOnly_streamsFollow _ p).lane l]
    rfl
  rw [hfollow]
  cases l with
  | a0 =>
    rw [Part.evaluateLane_judged_of_ne _ (by decide), Part.evaluateLane_judged_of_ne _ (by decide),
      Part.evaluateLane_judged_of_ne _ (by decide), Part.evaluateLane_judged_self]
  | a1 =>
    rw [Part.evaluateLane_judged_of_ne _ (by decide), Part.evaluateLane_judged_of_ne _ (by decide),
      Part.evaluateLane_judged_self, h0]
    exact p.params.reviewed_congr (p.evaluateLane_judged_of_ne (by decide))
  | b0 =>
    rw [Part.evaluateLane_judged_of_ne _ (by decide), Part.evaluateLane_judged_self, h1]
    exact p.params.reviewed_congr (((p.evaluateLane .a0).evaluateLane_judged_of_ne (by decide)).trans
      (p.evaluateLane_judged_of_ne (by decide)))
  | b1 =>
    rw [Part.evaluateLane_judged_self, h2]
    exact p.params.reviewed_congr ((((p.evaluateLane .a0).evaluateLane .a1).evaluateLane_judged_of_ne (by decide)).trans
      (((p.evaluateLane .a0).evaluateLane_judged_of_ne (by decide)).trans (p.evaluateLane_judged_of_ne (by decide))))

/-! ### O47: PMWR -/

theorem Part.writeParam_refused {p : Part} {k : Param} {value : List Byte}
    (h : value.length ≠ k.width ∨ k.undefinedMember (bigEndian value) = true) :
    p.writeParam k value = p.reply .badOperand := by
  unfold Part.writeParam
  by_cases hl : value.length ≠ k.width
  · rw [if_pos hl]
  · rw [if_neg hl, if_pos (h.resolve_left hl)]

theorem Part.writeParam_busy {p : Part} {k : Param} {value : List Byte}
    (h : ¬(value.length ≠ k.width ∨ k.undefinedMember (bigEndian value) = true))
    (hb : k = .sourceNode ∧ p.sourceFree = false) : p.writeParam k value = p.reply .busy := by
  obtain ⟨hl, hu⟩ := not_or.mp h
  unfold Part.writeParam
  rw [if_neg hl, if_neg hu, if_pos hb]

theorem Part.writeParam_accepted {p : Part} {k : Param} {value : List Byte}
    (h : ¬(value.length ≠ k.width ∨ k.undefinedMember (bigEndian value) = true))
    (hb : ¬(k = .sourceNode ∧ p.sourceFree = false)) : p.writeParam k value = p.acceptParam k (bigEndian value) := by
  obtain ⟨hl, hu⟩ := not_or.mp h
  unfold Part.writeParam
  rw [if_neg hl, if_neg hu, if_neg hb]

/-- The arbiter's service after a STREAM_WINDOW write (R28, R29). -/
theorem Part.serve_spec (p : Part) : (∀ n, (p.stream n).dispatchedTo (p.serve.stream n)) ∧
    ((allStreams.map (fun n => (p.stream n).hold.length)).sum ≤ 64 →
      p.serve.engine.freeEntries = [] ∨ ∀ n, p.serve.headReady n = false) ∧
    (p.engine.freeEntries = [] ∨ (∀ n, p.headReady n = false) → p.serve.engine = p.engine) ∧
    ∀ (i : EntryIx) (n : StreamId) (j : Fin 64) (h : Held) (hs : List Held),
      p.engine.freeEntries = [i] → n = p.engine.lastServed + 1 + j → (p.stream n).hold = h :: hs →
      p.headReady n = true → (∀ k < j, p.headReady (p.engine.lastServed + 1 + k) = false) →
      ∃ e, h.becomes e ∧ e.index = i ∧ e.seq = (p.stream n).nextSeq ∧
        (p.serve.stream n).inflight = (p.stream n).inflight ++ [e] ∧ (p.serve.stream n).hold = hs ∧
        p.serve.engine.lastServed = n ∧ p.serve.engine.freeEntries = [] ∧
        ∀ m, m ≠ n → p.serve.stream m = p.stream m := by
  refine ⟨fun n => (p.serve_dispatched n).dispatched, Part.serve_stops, fun h => by rw [Part.serve_of_idle h], ?_⟩
  rintro i n j h hs hfree rfl hhold hready hfirst
  have hserve := Part.serve_of_one hfree (Part.arbiterOrder_find j hready hfirst)
  generalize p.engine.lastServed + 1 + j = n at *
  have hstream := fun m => (p.served_stream n m).trans (p.dispatchHead_stream hhold hfree m)
  rw [hserve]
  refine ⟨p.newEntry n i h.work, p.newEntry_of_held n i h, rfl, rfl, by rw [hstream, if_pos rfl], by rw [hstream, if_pos rfl],
    rfl, p.dispatchHead_freeEntries hready hfree, fun m hm => by rw [hstream, if_neg hm]⟩

/-- Settles O47. -/
theorem parameterWrite : Obligations.ParameterWrite := by
  intro p w id value hport
  have hexec : exec (.pmwr id value) ⟨p, w⟩ =
      .next ⟨p.withOperand (Param.ofId id) (fun k => p.writeParam k value), w⟩ := State.manage_of_free hport w _
  by_cases hid : id.toNat < 1 ∨ 20 < id.toNat
  case pos =>
    have hnone : Param.ofId id = none := by
      unfold Param.ofId
      split <;> simp_all
    rw [hnone] at hexec
    refine ⟨_, hexec, rfl, rfl, fun _ => ⟨rfl, p.sameButResponse_reply _⟩, fun held width low high h1 htable => ?_⟩
    obtain ⟨hlt, -⟩ := List.getElem?_eq_some_iff.mp htable
    have hlen : p.params.table.length = 20 := rfl
    omega
  case neg =>
    obtain ⟨k, hplace⟩ := Param.exists_place (m := id.toNat - 1) (by omega)
    have hk : id.toNat = k.place + 1 := by omega
    rw [Param.ofId_of_place k hk, Part.withOperand_some] at hexec
    have hrefused := Param.refused_iff hk value
    have hsource : id = 0x11#8 ↔ k = .sourceNode := Param.id_iff hk .sourceNode
    have hwindow : id = 0x0B#8 ↔ k = .streamWindow := Param.id_iff hk .streamWindow
    have hthreshold : id ∈ [0x03#8, 0x04#8, 0x05#8] ↔ k.isThreshold = true := by
      have h3 : id = 0x03#8 ↔ k = .clearLevel := Param.id_iff hk .clearLevel
      have h4 : id = 0x04#8 ↔ k = .warnLevel := Param.id_iff hk .warnLevel
      have h5 : id = 0x05#8 ↔ k = .downLevel := Param.id_iff hk .downLevel
      simp [h3, h4, h5, Param.isThreshold, or_assoc]
    have hrow : ∀ {held width low high}, 1 ≤ id.toNat → p.params.table[id.toNat - 1]? = some (held, width, low, high) →
        held = p.params.value k ∧ width = k.width ∧ low = (k.range p.params).1 ∧ high = (k.range p.params).2 := by
      intro held width low high _ htable
      rw [← hplace, p.params.table_getElem? k] at htable
      simp only [Option.some.injEq, Prod.mk.injEq] at htable
      obtain ⟨hheld, hwidth, hlow, hhigh⟩ := htable
      exact ⟨hheld.symm, hwidth.symm, hlow.symm, hhigh.symm⟩
    by_cases hr : value.length ≠ k.width ∨ k.undefinedMember (bigEndian value) = true
    case pos =>
      rw [Part.writeParam_refused hr] at hexec
      refine ⟨_, hexec, rfl, rfl, fun h => absurd h hid, fun held width low high h1 htable => ?_⟩
      obtain ⟨-, rfl, -, -⟩ := hrow h1 htable
      rw [if_pos (hrefused.mpr hr)]
      exact ⟨rfl, p.sameButResponse_reply _⟩
    case neg =>
      by_cases hb : k = .sourceNode ∧ p.sourceFree = false
      case pos =>
        rw [Part.writeParam_busy hr hb] at hexec
        refine ⟨_, hexec, rfl, rfl, fun h => absurd h hid, fun held width low high h1 htable => ?_⟩
        obtain ⟨-, rfl, -, -⟩ := hrow h1 htable
        rw [if_neg (fun h => hr (hrefused.mp h)),
          if_pos ⟨hsource.mpr hb.1, fun h => Bool.false_ne_true (hb.2.symm.trans (p.sourceFree_iff.mpr h))⟩]
        exact ⟨rfl, p.sameButResponse_reply _⟩
      case neg =>
        rw [Part.writeParam_accepted hr hb, Part.acceptParam_eq] at hexec
        have hwork := (p.stored k (p.params.clamped k (bigEndian value))).laneWork_afterWrite k
          (p.params.value k != p.params.clamped k (bigEndian value))
        refine ⟨_, hexec, rfl, hwork.completions, fun h => absurd h hid, fun held width low high h1 htable => ?_⟩
        obtain ⟨rfl, rfl, rfl, rfl⟩ := hrow h1 htable
        rw [if_neg (fun h => hr (hrefused.mp h)), if_neg (fun h => hb ⟨hsource.mp h.1,
          Bool.eq_false_iff.mpr fun hfree => h.2 (p.sourceFree_iff.mp hfree)⟩)]
        refine ⟨p.params.clamped k (bigEndian value), rfl, ?table, ?status, hwork.intake, fun hid3 => ?states,
          fun hid4 => ?plain, fun hid3 hsame => ?same, fun hid3 hdiff l => ?judged, fun hidw => ?served⟩
        case table =>
          rw [hplace.symm, ← Params.table_store fun hw => Params.clamped_le hw _]
          exact congrArg (fun q : Params => q.table.map Prod.fst) hwork.params
        case status =>
          show Status.code (if _ then _ else _) = _
          split <;> rfl
        case states =>
          intro l
          have hk3 : k.isThreshold = false := Bool.eq_false_iff.mpr fun h => hid3 (hthreshold.mpr h)
          by_cases hkw : k = .streamWindow
          · subst hkw
            have hlane := (Part.streamsOnly_serve
              (p.stored .streamWindow (p.params.clamped .streamWindow (bigEndian value)))).lane l
            show ((p.stored .streamWindow (p.params.clamped .streamWindow (bigEndian value))).serve.lane l).state = _
            rw [hlane]
            rfl
          · rw [Part.afterWrite_of_plain _ hk3 hkw]
            rfl
        case plain =>
          have hk3 : k.isThreshold = false := Bool.eq_false_iff.mpr fun h => hid4 (by
            have := hthreshold.mpr h
            simp only [List.mem_cons, List.not_mem_nil, or_false] at this ⊢
            exact this.elim .inl fun h => .inr (h.elim .inl fun h => .inr (.inl h)))
          have hkw : k ≠ .streamWindow := fun h => hid4 (by simp [hwindow.mpr h])
          rw [Part.afterWrite_of_plain _ hk3 hkw]
          exact ⟨rfl, rfl, rfl⟩
        case same =>
          rw [hsame, bne_self_eq_false, Part.afterWrite_of_same _ (hthreshold.mp hid3)]
          exact ⟨rfl, rfl, rfl, rfl⟩
        case judged =>
          have hchanged : (p.params.value k != p.params.clamped k (bigEndian value)) = true := by
            rw [bne_iff_ne]; exact Ne.symm hdiff
          have hjudged := (p.stored k (p.params.clamped k (bigEndian value))).evaluateAll_judged l
          rw [hchanged, Part.afterWrite_of_changed _ (hthreshold.mp hid3)] at hwork ⊢
          have hparams := hwork.params
          generalize (p.stored k (p.params.clamped k (bigEndian value))).evaluateAll = q at *
          obtain ⟨hfigure, hrest⟩ := Prod.mk.inj hjudged
          have hstate := (Prod.mk.inj hrest).1
          rw [← hparams] at hstate
          refine ⟨hfigure, fun hpin => hstate.trans (thresholdStateUnder_of_not_keep _ hpin _ _), fun hpin => ?_⟩
          refine hstate.trans ?_
          show thresholdStateUnder _ (p.lane l).pin _ _ = _
          rw [hpin]
          exact thresholdStateUnder_keep _ _ _
        case served =>
          have hkw := hwindow.mp hidw
          subst hkw
          have hspec := (p.stored .streamWindow (p.params.clamped .streamWindow (bigEndian value))).serve_spec
          have hparams := hwork.params
          have hreply : ∀ (q : Part) st, (q.reply st).params = q.params := fun _ _ => rfl
          rw [hreply, hparams]
          exact hspec

end Sys2Proof.Machine
end

section
/-! The near loopback, the diagnostic burst and the management port (O46). -/

namespace Sys2Proof.Machine

/-! ### What the end of a burst leaves besides its result (R164) -/

theorem laneEvent_counter (kind : EventKind) (l : Lane) (d : BitVec 16) (c : CounterId) (q : Part) :
    (laneEvent kind l d q).counter c = q.counter c := rfl

theorem Part.judgeQualify_loopPath (p : Part) (l : Lane) : ((p.judgeQualify l).lane l).loopPath = (p.lane l).loopPath := by
  unfold Part.judgeQualify
  split
  · rw [Part.qualified_lane_self, Part.raise_lane]; rfl
  · rw [Part.qualifyFail_eq]
    split
    · rw [Part.enterOff_lane_self _ _ _ (laneEvent_lanes _ _ _), p.failedBurst_lane_self]
    · rw [Part.enterDown_lane_self, p.failedBurst_lane_self]

theorem Part.judgeQualify_framesReceived (p : Part) (l : Lane) :
    (p.judgeQualify l).counter (.lane l .framesReceived) = p.counter (.lane l .framesReceived) := by
  have hc : CounterId.notMoves (.lane l .framesReceived) := CounterId.notMoves_lane l (by decide)
  have hfail : (p.failedBurst l).counter (.lane l .framesReceived) = p.counter (.lane l .framesReceived) := by
    rw [Part.failedBurst, Part.modLane_counter, p.raise_counter_of_ne (by simp)]
  unfold Part.judgeQualify
  split
  · rw [Part.qualified, Part.changeLane_counter _ _ _ _ (laneEvent_counter _ _ _ _) hc.1, p.raise_counter_of_ne (by simp)]
  · rw [Part.qualifyFail_eq]
    split
    · rw [Part.enterOff, Part.changeLane_counter _ _ _ _ (laneEvent_counter _ _ _ _) hc.1, hfail]
    · rw [Part.enterDown_counter _ _ _ _ hc, hfail]

theorem Part.endBurst_loopPath (p : Part) (l : Lane) (b : Burst) :
    ((p.endBurst l b).lane l).loopPath = (p.lane l).loopPath := by
  cases h : b.owner with
  | qualify => rw [Part.endBurst_qualify h, Part.judgeQualify_loopPath, p.burstOver_lane_self]
  | diagnostic =>
    rw [Part.endBurst_diagnostic h]
    show ((p.burstOver l).lane l).loopPath = _
    rw [p.burstOver_lane_self]

theorem Part.endBurst_framesReceived (p : Part) (l : Lane) (b : Burst) :
    (p.endBurst l b).counter (.lane l .framesReceived) = p.counter (.lane l .framesReceived) := by
  have hover : (p.burstOver l).counter (.lane l .framesReceived) = p.counter (.lane l .framesReceived) :=
    p.modLane_counter l _ _
  cases h : b.owner with
  | qualify => rw [Part.endBurst_qualify h, Part.judgeQualify_framesReceived, hover]
  | diagnostic => rw [Part.endBurst_diagnostic h]; exact hover

/-! ### A frame come back (R163) -/

/-- The part with the oldest frame of a lane's loopback path delivered. -/
def Part.unlooped (p : Part) (l : Lane) : Part := p.modLane l LaneRec.unloop

section
variable {p : Part} {l : Lane} (hoff : (p.lane l).state = .off) (hon : (p.lane l).loopback = true)
include hoff hon

theorem LaneRec.looped_of_on : (p.lane l).looped = true := by simp [LaneRec.looped, hoff, hon]

theorem Part.unlooped_lane_self {g : Frame} {path : List Frame} (hpath : (p.lane l).loopPath = g :: path) :
    (p.unlooped l).lane l = { p.lane l with loopPath := path } := by
  rw [Part.unlooped, Part.modLane_lane_self, LaneRec.unloop, if_pos (LaneRec.looped_of_on hoff hon), hpath]
  rfl

/-- The part with a returned frame counted as received. -/
theorem Part.unlooped_reached_lane_self {g : Frame} {path : List Frame} (hpath : (p.lane l).loopPath = g :: path) :
    ((p.unlooped l).reached l).lane l = { p.lane l with loopPath := path } := by
  have hself := Part.unlooped_lane_self hoff hon hpath
  have hup : ((p.unlooped l).lane l).state.isUp = false := by rw [hself]; exact hoff ▸ rfl
  rw [Part.reached_lane_of_not_up hup, hself]

theorem Part.unlooped_reached_lane_of_ne {m : Lane} (hm : m ≠ l) : ((p.unlooped l).reached l).lane m = p.lane m := by
  rw [Part.reached_lane_of_ne _ hm]
  exact p.modLane_lane_of_ne hm _

theorem Part.arrive_returned {g : Frame} {path : List Frame} (hpath : (p.lane l).loopPath = g :: path) {f : Frame}
    (hkind : f.kind = g.kind) (hheader : f.header = g.header) (hlength : f.payload.length = g.payload.length) :
    p.arrive l f false = ((p.unlooped l).reached l).inLoopback l f := by
  rw [Part.arrive_of_returns hpath (by simp [Frame.returns, hkind, hheader, hlength])]
  have hlooped : (((p.unlooped l).reached l).lane l).looped = true := by
    rw [Part.unlooped_reached_lane_self hoff hon hpath]
    exact LaneRec.looped_of_on hoff hon
  exact if_pos hlooped

end

theorem Part.unlooped_counter (p : Part) (l : Lane) (c : CounterId) : (p.unlooped l).counter c = p.counter c :=
  p.modLane_counter l _ c

theorem Part.inLoopback_unexpected {p : Part} {l : Lane} {f : Frame}
    (h : (p.lane l).checker = none ∨ ¬(f.kind = .test ∧ f.header.reflect = false)) :
    p.inLoopback l f = p.raise (.lane l .unexpectedFrames) := by
  unfold Part.inLoopback
  split
  · next ht => exact Part.check_of_idle (h.resolve_right (not_not_intro ht)) f.payload
  · rfl

/-- Whatever a returned frame does, it has left the path and is counted once. -/
theorem Part.inLoopback_keeps (p : Part) (l : Lane) (f : Frame) :
    ((p.inLoopback l f).lane l).loopPath = (p.lane l).loopPath ∧
    (p.inLoopback l f).counter (.lane l .framesReceived) = p.counter (.lane l .framesReceived) := by
  have hraise : ((p.raise (.lane l .unexpectedFrames)).lane l).loopPath = (p.lane l).loopPath ∧
      (p.raise (.lane l .unexpectedFrames)).counter (.lane l .framesReceived) = p.counter (.lane l .framesReceived) :=
    ⟨by rw [Part.raise_lane], p.raise_counter_of_ne (by simp)⟩
  unfold Part.inLoopback
  split
  · cases hb : (p.lane l).checker with
    | none => rw [Part.check_of_idle hb]; exact hraise
    | some b =>
      have hcompared : ((p.compared l b f.payload).lane l).loopPath = (p.lane l).loopPath := by
        rw [p.compared_lane_self]
      have hcounter : (p.compared l b f.payload).counter (.lane l .framesReceived) =
        p.counter (.lane l .framesReceived) := p.modLane_counter l _ _
      rw [Part.check_of_burst hb]
      split
      · rw [Part.endBurst_loopPath, Part.endBurst_framesReceived]
        exact ⟨hcompared, hcounter⟩
      · exact ⟨hcompared, hcounter⟩
  · exact hraise

/-- What an unexpected frame from the path leaves (R163). -/
theorem Part.returned_unexpected {p : Part} {l : Lane} (hoff : (p.lane l).state = .off) (hon : (p.lane l).loopback = true)
    {g : Frame} {path : List Frame} (hpath : (p.lane l).loopPath = g :: path) {f : Frame}
    (h : (p.lane l).checker = none ∨ ¬(f.kind = .test ∧ f.header.reflect = false)) :
    (((p.unlooped l).reached l).inLoopback l f).lane l = { p.lane l with loopPath := path } ∧
    (((p.unlooped l).reached l).inLoopback l f).engine = p.engine ∧
    (((p.unlooped l).reached l).inLoopback l f).counter (.lane l .unexpectedFrames) =
      p.counter (.lane l .unexpectedFrames) + 1 := by
  have hself := Part.unlooped_reached_lane_self hoff hon hpath
  rw [Part.inLoopback_unexpected (by rw [hself]; exact h), Part.raise_lane, hself, Part.raise_counter_self,
    Part.reached_counter_of_ne _ _ (by simp), Part.unlooped_counter]
  exact ⟨rfl, (Part.raise_engine _ _).trans (Part.reached_engine _ _), rfl⟩

/-- What a TEST frame that is not the burst's last leaves of the checker (R164). -/
theorem Part.returned_compared {p : Part} {l : Lane} (hoff : (p.lane l).state = .off) (hon : (p.lane l).loopback = true)
    {g : Frame} {path : List Frame} (hpath : (p.lane l).loopPath = g :: path) {f : Frame} {k : Burst}
    (hk : (p.lane l).checker = some k) (ht : f.kind = .test ∧ f.header.reflect = false) :
    ((p.unlooped l).reached l).inLoopback l f = (if k.length ≤ k.compared + 1 then
      (((p.unlooped l).reached l).compared l k f.payload).endBurst l k.next
      else ((p.unlooped l).reached l).compared l k f.payload) ∧
    (((p.unlooped l).reached l).compared l k f.payload).lane l = { p.lane l with
      loopPath := path, checker := some k.next,
      errorBytes := min 255 ((p.lane l).errorBytes + differing f.payload (burstPayload k.compared)) } := by
  have hself := Part.unlooped_reached_lane_self hoff hon hpath
  refine ⟨(if_pos ht).trans (Part.check_of_burst (by rw [hself]; exact hk) f.payload), ?_⟩
  rw [Part.compared_lane_self, hself]

/-- The end of a diagnostic burst from the path: the record, and the response (R164, R165). -/
theorem Part.returned_last {p : Part} {l : Lane} (hoff : (p.lane l).state = .off) (hon : (p.lane l).loopback = true)
    {g : Frame} {path : List Frame} (hpath : (p.lane l).loopPath = g :: path) {f : Frame} {k : Burst} {err : Nat}
    (hk : (p.lane l).checker = some k) (ht : f.kind = .test ∧ f.header.reflect = false)
    (herr : err = min 255 ((p.lane l).errorBytes + differing f.payload (burstPayload k.compared)))
    (hlast : k.length ≤ k.compared + 1) (howner : k.owner = .diagnostic) {q : Part}
    (hq : q = ((p.unlooped l).reached l).inLoopback l f) :
    q.lane l = { p.lane l with loopPath := path, checker := none, errorBytes := err,
                               timers := { (p.lane l).timers with qualify := none } } ∧
    q.port.burst = none ∧ q.port.status = 0#8 ∧ q.port.data =
      [BitVec.ofNat 8 err, BitVec.ofNat 8 (k.length / 256), BitVec.ofNat 8 k.length,
        BitVec.ofNat 8 ((k.compared + 1) / 256), BitVec.ofNat 8 (k.compared + 1)] ∧
    q.engine = p.engine ∧ (∀ m, m ≠ l → q.lane m = p.lane m) ∧ (p.unwatched → q.log = p.log) := by
  obtain ⟨hloop, hcompared⟩ := Part.returned_compared hoff hon hpath hk ht
  rw [← herr] at hcompared
  rw [if_pos hlast, Part.endBurst_diagnostic (b := k.next) howner] at hloop
  rw [hq, hloop]
  have hengine : (((p.unlooped l).reached l).compared l k f.payload).engine = p.engine :=
    (Part.modLane_engine _ _ _).trans (Part.reached_engine _ _)
  have hother : ∀ m, m ≠ l → (((p.unlooped l).reached l).compared l k f.payload).lane m = p.lane m := fun m hm => by
    rw [Part.compared_lane_of_ne _ hm, Part.unlooped_reached_lane_of_ne hoff hon hm]
  have hlog : p.unwatched → (((p.unlooped l).reached l).compared l k f.payload).log = p.log := fun hu =>
    (Part.modLane_log _ _ _).trans (Part.reached_log (p := p.unlooped l) hu l)
  generalize ((p.unlooped l).reached l).compared l k f.payload = c at *
  have hover := c.burstOver_lane_self l
  rw [hcompared] at hover
  refine ⟨hover, rfl, rfl, ?_, hengine, fun m hm => ?_, hlog⟩
  · show [BitVec.ofNat 8 ((c.burstOver l).lane l).errorBytes] ++ toBigEndian 2 k.next.length ++
      toBigEndian 2 k.next.compared = _
    rw [hover, toBigEndian_two, toBigEndian_two]
    rfl
  · show (c.burstOver l).lane m = p.lane m
    rw [Part.burstOver, c.modLane_lane_of_ne hm, hother m hm]

/-! ### The management port (R165, R173) -/

theorem State.manage_of_busy {p : Part} (h : p.port.burst ≠ none) (w : List Instr) (f : Part → Part) :
    (State.mk p w).manage f = .next ⟨p, w⟩ := by
  obtain ⟨l, hl⟩ := Option.ne_none_iff_exists'.mp h
  simp [State.manage, Part.managed, hl]

theorem Port.acknowledges_iff (t : Port) (a : BitVec 7) :
    t.acknowledges a = true ↔ t.burst = none ∧ a.toNat = 0x48 + t.pins.toNat := by
  have hpins := t.pins.isLt
  have haddress : t.address.toNat = 0x48 + t.pins.toNat := by
    simp only [Port.address, BitVec.toNat_add, BitVec.toNat_setWidth, BitVec.toNat_ofNat]
    omega
  rw [Port.acknowledges, Bool.and_eq_true, beq_iff_eq, Option.isNone_iff_eq_none, ← haddress, BitVec.toNat_inj, and_comm]

theorem Port.readByte_eq (t : Port) (a : BitVec 7) (i : Nat) : t.readByte a i =
    if t.burst = none ∧ a.toNat = 0x48 + t.pins.toNat then
      some (([t.status, BitVec.ofNat 8 t.data.length] ++ t.data).getD i 0xFF#8) else none := by
  unfold Port.readByte
  simp only [t.acknowledges_iff a]
  rfl

theorem Port.write_of_not (t : Port) {a : BitVec 7} (h : t.burst ≠ none ∨ a.toNat ≠ 0x48 + t.pins.toNat)
    (bytes : List Byte) : t.write a bytes = .nothing := by
  unfold Port.write
  rw [if_neg]
  rw [t.acknowledges_iff]
  exact fun hc => h.elim (· hc.1) (· hc.2)

/-! ### O46 -/

/-- DGLP and DGPT judged (R163, R165). -/
theorem Part.setLoopback_on (p : Part) (l : Lane) : (p.setLoopback l true).log = p.log ∧
    ((p.lane l).state = .off ∧ (p.lane l).offReason = some .disabled → (p.setLoopback l true).port.status = 0x00#8 ∧
      (p.setLoopback l true).lane l = { p.lane l with loopback := true } ∧
      ∀ m, m ≠ l → (p.setLoopback l true).lane m = p.lane m) ∧
    (¬((p.lane l).state = .off ∧ (p.lane l).offReason = some .disabled) →
      (p.setLoopback l true).port.status = 0x14#8 ∧ p.sameButResponse (p.setLoopback l true)) := by
  have hset : p.setLoopback l true = if (p.lane l).state = .off ∧ (p.lane l).offReason = some .disabled then
      (p.modLane l (fun r => { r with loopback := true })).reply .ok else p.reply .notNow := rfl
  rw [hset]
  split
  · next hc => exact ⟨rfl, fun _ => ⟨rfl, by rw [Part.reply_lane, Part.modLane_lane_self], fun m hm => by
      rw [Part.reply_lane, p.modLane_lane_of_ne hm]⟩, fun hn => absurd hc hn⟩
  · next hc => exact ⟨rfl, fun h => absurd h hc, fun _ => ⟨rfl, p.sameButResponse_reply _⟩⟩

/-- The record of a lane whose diagnostic burst starts (R165). -/
def LaneRec.diagnosed (r : LaneRec) (count : Nat) (frames : List Frame) : LaneRec :=
  { r with errorBytes := 0, checker := some ⟨.diagnostic, count, 0, 0⟩, queue := r.queue ++ frames }

theorem Part.startDiagnostic_lane (p : Part) (l : Lane) (n : Nat) (m : Lane) : (p.startDiagnostic l n).lane m =
    (p.modLane l (fun r => r.diagnosed n (p.burstFrames false n))).lane m := rfl

theorem Part.runDiagnostic_spec (p : Part) (l : Lane) (n : Nat) :
    if n < 1 ∨ 256 < n then (p.runDiagnostic l n).port.status = 0x11#8 ∧ p.sameButResponse (p.runDiagnostic l n)
    else if (p.lane l).loopback = false then
      (p.runDiagnostic l n).port.status = 0x14#8 ∧ p.sameButResponse (p.runDiagnostic l n)
    else ∃ burst, (p.runDiagnostic l n).port.burst = some l ∧ burst.map Frame.payload = burstPayloads n ∧
      (∀ f ∈ burst, f.kind = .test ∧ f.header.reflect = false) ∧
      (p.runDiagnostic l n).lane l = { p.lane l with
        errorBytes := 0, checker := some ⟨.diagnostic, n, 0, 0⟩, queue := (p.lane l).queue ++ burst } ∧
      (∀ m, m ≠ l → (p.runDiagnostic l n).lane m = p.lane m) ∧ (p.runDiagnostic l n).engine = p.engine ∧
      (p.runDiagnostic l n).log = p.log := by
  unfold Part.runDiagnostic
  split_ifs
  · exact ⟨rfl, p.sameButResponse_reply _⟩
  · exact ⟨rfl, p.sameButResponse_reply _⟩
  · exact ⟨p.burstFrames false n, rfl, Part.burstFrames_payload _ _ _, fun f hf => Part.mem_burstFrames hf,
      (p.startDiagnostic_lane l n l).trans (p.modLane_lane_self l _),
      fun m hm => (p.startDiagnostic_lane l n m).trans (p.modLane_lane_of_ne hm _), rfl, rfl⟩

/-- Settles O46. -/
theorem diagnosticCommands : Obligations.DiagnosticCommands := by
  intro p w b l hl
  refine ⟨fun hport => ⟨?on, ?off, fun s hs => ?bad, fun frames => ?run⟩, fun hoff hon => ⟨fun hpath f v c hc => ?empty,
    fun g path hpath f => ⟨fun v => rfl, fun hne v => ?stranger, fun hkind hheader hlength => ?returned, ?badFrame⟩⟩,
    fun a i => p.port.readByte_eq a i, fun a bytes h => p.port.write_of_not h bytes, fun hport c hc => ?busy⟩
  case on =>
    refine ⟨p.setLoopback l true, ?_, p.setLoopback_on l⟩
    refine (manage_lane hport hl w (fun q m => q.withOperand (settingOfByte 1) (fun on => q.setLoopback m on))).trans ?_
    rw [settingOfByte_of_lt_two (by decide)]
    rfl
  case off =>
    have hset : p.setLoopback l false = (p.modLane l (fun r => { r with loopback := false })).reply .ok := rfl
    refine ⟨p.setLoopback l false, ?_, rfl, by rw [hset, Part.reply_lane, Part.modLane_lane_self],
      fun m hm => by rw [hset, Part.reply_lane, p.modLane_lane_of_ne hm]⟩
    refine (manage_lane hport hl w (fun q m => q.withOperand (settingOfByte 0) (fun on => q.setLoopback m on))).trans ?_
    rw [settingOfByte_of_lt_two (by decide)]
    rfl
  case bad =>
    refine ⟨p.reply .badOperand, ?_, rfl, p.sameButResponse_reply _⟩
    refine (manage_lane hport hl w (fun q m => q.withOperand (settingOfByte s) (fun on => q.setLoopback m on))).trans ?_
    rw [settingOfByte_of_two_le hs]
    rfl
  case run =>
    exact ⟨p.runDiagnostic l frames.toNat, manage_lane hport hl w (fun q m => q.runDiagnostic m frames.toNat),
      p.runDiagnostic_spec l frames.toNat⟩
  case empty =>
    have harrive := fun f => Part.arrive_of_empty_path (LaneRec.looped_of_on hoff hon) hpath f v
    have hbad : p.arriveBad l v = p := by
      have hd : (p.lane l).deliversBad = false := by
        simp [LaneRec.deliversBad, LaneRec.looped_of_on hoff hon, hpath]
      rw [Part.arriveBad, hd]
      exact if_neg Bool.false_ne_true
    simp only [List.mem_cons, List.not_mem_nil, or_false] at hc
    rcases hc with rfl | rfl | rfl | rfl
    · exact congrArg (fun q => Host.Outcome.next (State.mk q w)) (harrive f)
    · exact congrArg (fun q => Host.Outcome.next (State.mk q w)) hbad
    · exact congrArg (fun q => Host.Outcome.next (State.mk q w)) (harrive _)
    · exact congrArg (fun q => Host.Outcome.next (State.mk q w)) (harrive _)
  case stranger =>
    have hreturns : Frame.returns g f = false := by
      rw [Bool.eq_false_iff]
      intro h
      simp only [Frame.returns, Bool.and_eq_true, beq_iff_eq] at h
      exact hne ⟨h.1.1.symm, h.1.2.symm, h.2.symm⟩
    exact congrArg (fun q => Host.Outcome.next (State.mk q w))
      (Part.arrive_of_stranger (LaneRec.looped_of_on hoff hon) hpath hreturns v)
  case returned =>
    have hself := Part.unlooped_reached_lane_self hoff hon hpath
    obtain ⟨hkept, hcount⟩ := ((p.unlooped l).reached l).inLoopback_keeps l f
    refine ⟨_, congrArg (fun q => Host.Outcome.next (State.mk q w))
      (Part.arrive_returned hoff hon hpath hkind hheader hlength), ?_, ?_, fun h => ?_, fun k err hk ht hr herr =>
        ⟨fun hmore => ?_, fun hlast howner => ?_⟩⟩
    · rw [hkept, hself]
    · rw [hcount, Part.reached_counter_self, Part.unlooped_counter]
    · exact Part.returned_unexpected hoff hon hpath h
    · obtain ⟨hloop, hcompared⟩ := Part.returned_compared hoff hon hpath hk ⟨ht, hr⟩
      rw [hloop, if_neg (by omega), hcompared]
      exact ⟨rfl, herr.symm⟩
    · exact Part.returned_last hoff hon hpath hk ⟨ht, hr⟩ herr hlast howner rfl
  case badFrame =>
    have hd : (p.lane l).deliversBad = true := by simp [LaneRec.deliversBad, hpath]
    have hquiet : ¬(((((p.unlooped l).badCounted l false).lane l).state = .active ∨
        (((p.unlooped l).badCounted l false).lane l).state = .degraded) ∧
        (((p.unlooped l).badCounted l false).lane l).figure < 1023) := by
      rw [Part.badCounted_lane, Part.unlooped_lane_self hoff hon hpath]
      simp [hoff]
    have harrive : p.arriveBad l false = (p.unlooped l).badCounted l false := by
      rw [Part.arriveBad, if_pos hd, ← Part.unlooped, Part.receiveBad_eq, Part.addWeight_of_not hquiet]
    refine ⟨_, congrArg (fun q => Host.Outcome.next (State.mk q w)) harrive, ?_, ?_⟩
    · rw [Part.badCounted_lane, Part.unlooped_lane_self hoff hon hpath]
    · rw [((p.unlooped l).badCounted_counter l false).1, Part.unlooped_counter]
  case busy =>
    simp only [List.mem_cons, List.not_mem_nil, or_false] at hc
    rcases hc with rfl | rfl | rfl | rfl | rfl | rfl | rfl | rfl | rfl | rfl | rfl | rfl | rfl <;>
      exact State.manage_of_busy hport w _

end Sys2Proof.Machine
end

section
/-! The route commands (O41). -/

namespace Sys2Proof.Machine

/-! ### Operands (R12, R174) -/

theorem laneOfByte_iff (b : Byte) (l : Lane) : laneOfByte b = some l ↔ b.toNat = l.code := by
  constructor
  · unfold laneOfByte
    intro h
    split at h
    · next hb => cases h; rw [hb]; rfl
    split at h
    · next hb => cases h; rw [hb]; rfl
    split at h
    · next hb => cases h; rw [hb]; rfl
    split at h
    · next hb => cases h; rw [hb]; rfl
    · cases h
  · intro h
    have hb : b = BitVec.ofNat 8 l.code := by rw [← h, BitVec.ofNat_toNat, BitVec.setWidth_eq]
    rw [hb, laneOfByte_code]

theorem Byte.eq_of_toNat_eq {b : Byte} {k : Nat} (h : b.toNat = k) : b = BitVec.ofNat 8 k := by
  rw [← h, BitVec.ofNat_toNat, BitVec.setWidth_eq]

theorem Byte.cases_of_lt_two {b : Byte} (h : b.toNat < 2) : b = 0#8 ∨ b = 1#8 := by
  rcases (by omega : b.toNat = 0 ∨ b.toNat = 1) with h | h
  · exact .inl (Byte.eq_of_toNat_eq h)
  · exact .inr (Byte.eq_of_toNat_eq h)

theorem Byte.ne_of_two_le {b : Byte} (h : 2 ≤ b.toNat) : b ≠ 0#8 ∧ b ≠ 1#8 := by
  constructor <;> rintro rfl <;> exact absurd h (by decide)

theorem policyOfByte_of_lt {b : Byte} (h : b.toNat < 2) :
    policyOfByte b = some (if b = 1 then .returning else .sticky) := by
  rcases Byte.cases_of_lt_two h with rfl | rfl <;> rfl

theorem policyOfByte_none {b : Byte} (h : 2 ≤ b.toNat) : policyOfByte b = none := by
  obtain ⟨h0, h1⟩ := Byte.ne_of_two_le h
  rw [policyOfByte, if_neg h0, if_neg h1]

theorem accessOfByte_of_lt {b : Byte} (h : b.toNat < 2) :
    accessOfByte b = some (if b = 1 then .readOnly else .readWrite) := by
  rcases Byte.cases_of_lt_two h with rfl | rfl <;> rfl

theorem accessOfByte_none {b : Byte} (h : 2 ≤ b.toNat) : accessOfByte b = none := by
  obtain ⟨h0, h1⟩ := Byte.ne_of_two_le h
  rw [accessOfByte, if_neg h0, if_neg h1]

theorem routeOfByte_none {b : Byte} (h : 32 ≤ b.toNat) : routeOfByte b = none := dif_neg (by omega)

section
variable {base : BitVec 48} {units : BitVec 40} {target : BitVec 48} {node : BitVec 16}
  {stream preferred policy access : Byte}

/-- Operands that break the table of R12. -/
theorem routeOfOperands_none (h : ¬(stream.toNat < 64 ∧ preferred.toNat < 4 ∧ policy.toNat < 2 ∧ access.toNat < 2 ∧
    base.toNat % 4096 = 0 ∧ target.toNat % 4096 = 0 ∧ 1 ≤ units.toNat ∧ units.toNat ≤ 2 ^ 36 ∧
    node.toNat ≤ 4095 ∧ base.toNat + units.toNat * 4096 ≤ 2 ^ 48 ∧ target.toNat + units.toNat * 4096 ≤ 2 ^ 48)) :
    routeOfOperands base units target node stream preferred policy access = none := by
  unfold routeOfOperands
  split
  · next n l pol acc hn hl hpol hacc =>
    refine if_neg fun hrest => h ⟨?_, ?_, ?_, ?_, hrest⟩
    · by_contra hle
      rw [streamOfByte, dif_neg hle] at hn
      cases hn
    · rw [(laneOfByte_iff preferred l).mp hl]
      exact l.code_lt
    · by_contra hle
      rw [policyOfByte_none (Nat.le_of_not_lt hle)] at hpol
      cases hpol
    · by_contra hle
      rw [accessOfByte_none (Nat.le_of_not_lt hle)] at hacc
      cases hacc
  · rfl

/-- Operands that meet the table of R12 make the route they spell (R177). -/
theorem routeOfOperands_some (h : stream.toNat < 64 ∧ preferred.toNat < 4 ∧ policy.toNat < 2 ∧ access.toNat < 2 ∧
    base.toNat % 4096 = 0 ∧ target.toNat % 4096 = 0 ∧ 1 ≤ units.toNat ∧ units.toNat ≤ 2 ^ 36 ∧
    node.toNat ≤ 4095 ∧ base.toNat + units.toNat * 4096 ≤ 2 ^ 48 ∧ target.toNat + units.toNat * 4096 ≤ 2 ^ 48)
    {r : Route} (hvalid : r.valid = true) (hbase : r.base = base) (hunits : r.units = units.toNat)
    (htarget : r.target = target) (hnode : r.node.toNat = node.toNat) (hstream : r.stream.val = stream.toNat)
    (hpreferred : r.preferred.code = preferred.toNat)
    (hpolicy : r.policy = if policy = 1 then .returning else .sticky)
    (haccess : r.access = if access = 1 then .readOnly else .readWrite) :
    routeOfOperands base units target node stream preferred policy access = some r := by
  obtain ⟨hs, -, hpol, hacc, hrest⟩ := h
  have hn : streamOfByte stream = some r.stream := by
    rw [streamOfByte, dif_pos hs]
    exact congrArg some (Fin.ext hstream.symm)
  have hl : laneOfByte preferred = some r.preferred := (laneOfByte_iff _ _).mpr hpreferred.symm
  have hnode' : node.setWidth 12 = r.node := by
    refine BitVec.eq_of_toNat_eq ?_
    rw [BitVec.toNat_setWidth, hnode]
    have := r.node.isLt
    omega
  unfold routeOfOperands
  rw [hn, hl, policyOfByte_of_lt hpol, accessOfByte_of_lt hacc, ← hpolicy, ← haccess]
  dsimp only
  rw [if_pos hrest, hnode', ← hbase, ← hunits, ← htarget, ← hvalid]

end

/-! ### What a route write does to the streams (R13, R14) -/

/-- A stream BOUND and empty, which R13 and R14 may send to IDLE. -/
def StreamRec.boundEmpty (r : StreamRec) : Prop := r.state = .bound ∧ r.inflight = [] ∧ r.hold = []


theorem StreamRec.isEmpty_iff (r : StreamRec) : r.isEmpty = true ↔ r.inflight = [] ∧ r.hold = [] := by
  simp [StreamRec.isEmpty]

theorem Part.unbind_of_boundEmpty {p : Part} {n : StreamId} (h : (p.stream n).boundEmpty) :
    p.unbind n = p.modStream n (fun r => r.ended .idle) :=
  if_pos ⟨h.1, (StreamRec.isEmpty_iff _).mpr h.2⟩

theorem Part.unbind_of_not {p : Part} {n : StreamId} (h : ¬(p.stream n).boundEmpty) : p.unbind n = p :=
  if_neg fun hc => h ⟨hc.1, (StreamRec.isEmpty_iff _).mp hc.2⟩

theorem Part.unbind_rest (p : Part) (n : StreamId) : (p.unbind n).lanes = p.lanes ∧ (p.unbind n).log = p.log ∧
    (p.unbind n).intake = p.intake := by
  unfold Part.unbind
  split <;> exact ⟨rfl, rfl, rfl⟩

theorem Part.unbind_stream_of_ne (p : Part) {n m : StreamId} (h : m ≠ n) : (p.unbind n).stream m = p.stream m := by
  unfold Part.unbind
  split
  · exact p.modStream_stream_of_ne h _
  · rfl

/-- Whether another valid route than the one at an index names a stream. -/
def Part.routedElsewhere (p : Part) (ix : RouteIx) (n : StreamId) : Prop :=
  ∃ k, k ≠ ix ∧ (p.intake.routes.get k).valid = true ∧ (p.intake.routes.get k).stream = n

theorem Part.setRoute_get_self (p : Part) (ix : RouteIx) (r : Route) : (p.setRoute ix r).intake.routes.get ix = r := by
  show (p.intake.routes.set ix.val r ix.isLt)[ix.val] = r
  exact Vector.getElem_set_self _

theorem Part.setRoute_get_of_ne (p : Part) {ix k : RouteIx} (h : k ≠ ix) (r : Route) :
    (p.setRoute ix r).intake.routes.get k = p.intake.routes.get k := by
  show (p.intake.routes.set ix.val r ix.isLt)[k.val] = p.intake.routes[k.val]
  exact Vector.getElem_set_ne _ _ fun hv => h (Fin.ext hv.symm)

/-- With its own entry rewritten for another stream, or cleared, a stream is routed by the other entries alone. -/
theorem Part.routed_setRoute (p : Part) (ix : RouteIx) {r : Route} {n : StreamId} (h : r.valid = false ∨ r.stream ≠ n) :
    (p.setRoute ix r).intake.routed n = true ↔ p.routedElsewhere ix n := by
  unfold Intake.routed Part.routedElsewhere
  rw [List.any_eq_true]
  constructor
  · rintro ⟨k, -, hk⟩
    obtain ⟨hvalid, hstream⟩ := Bool.and_eq_true_iff.mp hk
    rw [beq_iff_eq] at hstream
    have hne : k ≠ ix := by
      rintro rfl
      rw [p.setRoute_get_self] at hvalid hstream
      exact h.elim (fun hf => Bool.false_ne_true (hf.symm.trans hvalid)) (· hstream)
    rw [p.setRoute_get_of_ne hne] at hvalid hstream
    exact ⟨k, hne, hvalid, hstream⟩
  · rintro ⟨k, hne, hvalid, hstream⟩
    refine ⟨k, List.mem_finRange k, ?_⟩
    rw [p.setRoute_get_of_ne hne, hvalid, beq_iff_eq.mpr hstream]
    rfl

/-- A stream's record with the fields of its route (R13). -/
def StreamRec.routedBy (x : StreamRec) (r : Route) : StreamRec :=
  { x with node := r.node, preferred := r.preferred, policy := r.policy }

/-- A stream's record as a route write leaves it, but for the return timer: the route's fields for the stream it names,
and IDLE for one that R13 takes out of BOUND (R13, R14). -/
def StreamRec.rewritten (x : StreamRec) (r : Route) (named leaves : Bool) : StreamRec :=
  let y := if named then x.routedBy r else x
  if leaves then y.ended .idle else y

/-- The part as the route's fields are written to its stream's record, before anything is judged (R13, R141). -/
def Part.routeWritten (p : Part) (r : Route) : Part :=
  p.modStream r.stream (fun x =>
    { x.routedBy r with returnTimer := if (p.stream r.stream).preferred = r.preferred then x.returnTimer else none })

theorem Part.takeRoute_eq (p : Part) (r : Route) : p.takeRoute r =
    (if (p.stream r.stream).node = r.node then p.routeWritten r
      else (p.routeWritten r).unbind r.stream).judgeReturn r.stream := rfl

theorem Part.routeWritten_stream_self (p : Part) (r : Route) : (p.routeWritten r).stream r.stream =
    { (p.stream r.stream).routedBy r with returnTimer := ((p.routeWritten r).stream r.stream).returnTimer } := by
  rw [Part.routeWritten, Part.modStream_stream_self]

theorem Part.takeRoute_rest (p : Part) (r : Route) : (p.takeRoute r).lanes = p.lanes ∧ (p.takeRoute r).log = p.log ∧
    (p.takeRoute r).intake = p.intake := by
  rw [Part.takeRoute_eq]
  have hretimed := fun q : Part => q.retimed_judgeReturn r.stream
  obtain ⟨hlanes, hlog, hintake⟩ := (p.routeWritten r).unbind_rest r.stream
  split
  · exact ⟨(hretimed _).lanes, (hretimed _).log, by rw [(hretimed _).rest]; rfl⟩
  · exact ⟨(hretimed _).lanes.trans hlanes, (hretimed _).log.trans hlog, by rw [(hretimed _).rest]; exact hintake⟩

theorem Part.takeRoute_stream_of_ne (p : Part) {r : Route} {n : StreamId} (h : n ≠ r.stream) :
    (p.takeRoute r).stream n = { p.stream n with returnTimer := ((p.takeRoute r).stream n).returnTimer } := by
  have hwritten : (p.routeWritten r).stream n = p.stream n := p.modStream_stream_of_ne h _
  rw [Part.takeRoute_eq, (Part.retimed_judgeReturn _ r.stream).stream n]
  split
  · rw [hwritten]
  · rw [Part.unbind_stream_of_ne _ h, hwritten]

/-- The stream a route names takes its fields, and leaves BOUND when it is empty and its node changes (R13). -/
theorem Part.takeRoute_stream_self (p : Part) (r : Route) {leaves : Bool}
    (hl : leaves = true ↔ (p.stream r.stream).boundEmpty ∧ (p.stream r.stream).node ≠ r.node) :
    (p.takeRoute r).stream r.stream = { (p.stream r.stream).rewritten r true leaves with
      returnTimer := ((p.takeRoute r).stream r.stream).returnTimer } := by
  have hwritten := p.routeWritten_stream_self r
  have hempty : ((p.routeWritten r).stream r.stream).boundEmpty ↔ (p.stream r.stream).boundEmpty := by
    rw [hwritten]; exact Iff.rfl
  rw [Part.takeRoute_eq, (Part.retimed_judgeReturn _ r.stream).stream r.stream]
  by_cases hnode : (p.stream r.stream).node = r.node
  · have hstay : leaves = false := Bool.eq_false_iff.mpr fun h => (hl.mp h).2 hnode
    rw [if_pos hnode, hstay, hwritten]
    rfl
  · rw [if_neg hnode]
    by_cases hb : (p.stream r.stream).boundEmpty
    · rw [hl.mpr ⟨hb, hnode⟩, Part.unbind_of_boundEmpty (hempty.mpr hb), Part.modStream_stream_self, hwritten]
      rfl
    · have hstay : leaves = false := Bool.eq_false_iff.mpr fun h => hb (hl.mp h).1
      rw [hstay, Part.unbind_of_not (fun h => hb (hempty.mp h)), hwritten]
      rfl

/-- A stream that may have lost its last valid route (R13, R14). -/
theorem Part.unbindUnrouted_rest (p : Part) (n : StreamId) : (p.unbindUnrouted n).lanes = p.lanes ∧
    (p.unbindUnrouted n).log = p.log ∧ (p.unbindUnrouted n).intake = p.intake ∧
    ∀ m, m ≠ n → (p.unbindUnrouted n).stream m = p.stream m := by
  obtain ⟨hlanes, hlog, hintake⟩ := p.unbind_rest n
  unfold Part.unbindUnrouted
  split
  · exact ⟨rfl, rfl, rfl, fun _ _ => rfl⟩
  · exact ⟨hlanes, hlog, hintake, fun m hm => p.unbind_stream_of_ne hm⟩

theorem Part.unbindUnrouted_stream_self (p : Part) (n : StreamId) : (p.unbindUnrouted n).stream n =
    if p.intake.routed n = false ∧ ((p.stream n).isEmpty = true ∧ (p.stream n).state = .bound) then
      (p.stream n).ended .idle else p.stream n := by
  unfold Part.unbindUnrouted
  cases hr : p.intake.routed n with
  | true => simp
  | false =>
    by_cases hb : (p.stream n).boundEmpty
    · rw [if_neg Bool.false_ne_true, Part.unbind_of_boundEmpty hb, Part.modStream_stream_self,
        if_pos ⟨rfl, (StreamRec.isEmpty_iff _).mpr hb.2, hb.1⟩]
    · rw [if_neg Bool.false_ne_true, Part.unbind_of_not hb,
        if_neg fun h => hb ⟨h.2.2, (StreamRec.isEmpty_iff _).mp h.2.1⟩]

/-- After a stream's last other route has gone, it leaves BOUND when it is empty (R13, R14). -/
theorem Part.unbindUnrouted_stream {p : Part} {n : StreamId} {leaves : Bool}
    (hl : leaves = true ↔ p.intake.routed n = false ∧ (p.stream n).boundEmpty) :
    (p.unbindUnrouted n).stream n = if leaves then (p.stream n).ended .idle else p.stream n := by
  rw [Part.unbindUnrouted_stream_self]
  have hiff : (p.intake.routed n = false ∧ ((p.stream n).isEmpty = true ∧ (p.stream n).state = .bound)) ↔ leaves = true := by
    rw [hl, StreamRec.isEmpty_iff, StreamRec.boundEmpty]
    tauto
  simp only [hiff]

/-! ### O41 -/

/-- The part after an accepted route write that changes its entry, but for the response (R13). -/
def Part.rerouted (p : Part) (ix : RouteIx) (r : Route) : Part :=
  let old := p.intake.routes.get ix
  let q := (p.setRoute ix r).takeRoute r
  if old.valid = true ∧ old.stream ≠ r.stream then q.unbindUnrouted old.stream else q

theorem Part.acceptRoute_of_same {p : Part} {ix : RouteIx} {r : Route} (h : p.intake.routes.get ix = r) :
    p.acceptRoute ix r = p.reply .ok := if_pos h

theorem Part.acceptRoute_of_ne {p : Part} {ix : RouteIx} {r : Route} (h : p.intake.routes.get ix ≠ r) :
    p.acceptRoute ix r = (p.rerouted ix r).reply .ok := if_neg h

theorem Part.rerouted_rest (p : Part) (ix : RouteIx) (r : Route) : (p.rerouted ix r).lanes = p.lanes ∧
    (p.rerouted ix r).log = p.log ∧ (p.rerouted ix r).intake = (p.setRoute ix r).intake := by
  obtain ⟨hlanes, hlog, hintake⟩ := (p.setRoute ix r).takeRoute_rest r
  unfold Part.rerouted
  dsimp only
  split
  · obtain ⟨hlanes', hlog', hintake', -⟩ :=
      ((p.setRoute ix r).takeRoute r).unbindUnrouted_rest (p.intake.routes.get ix).stream
    exact ⟨hlanes'.trans hlanes, hlog'.trans hlog, hintake'.trans hintake⟩
  · exact ⟨hlanes, hlog, hintake⟩

/-- Whether a route write takes a stream out of BOUND (R13). -/
def Part.unboundBy (p : Part) (ix : RouteIx) (r : Route) (n : StreamId) : Prop :=
  (p.stream n).boundEmpty ∧ (n = r.stream ∧ (p.stream n).node ≠ r.node ∨
    n ≠ r.stream ∧ (p.intake.routes.get ix).valid = true ∧ (p.intake.routes.get ix).stream = n ∧
      ¬p.routedElsewhere ix n)

/-- Every stream's record after a route write, but for its return timer (R13). -/
theorem Part.rerouted_stream (p : Part) (ix : RouteIx) (r : Route) (n : StreamId) {named leaves : Bool}
    (hn : named = true ↔ n = r.stream) (hl : leaves = true ↔ p.unboundBy ix r n) :
    (p.rerouted ix r).stream n = { (p.stream n).rewritten r named leaves with
      returnTimer := ((p.rerouted ix r).stream n).returnTimer } := by
  have hset : ∀ m, (p.setRoute ix r).stream m = p.stream m := fun _ => rfl
  generalize hq : (p.setRoute ix r).takeRoute r = q
  have hroutes : q.intake = (p.setRoute ix r).intake := hq ▸ ((p.setRoute ix r).takeRoute_rest r).2.2
  have hre : p.rerouted ix r = if (p.intake.routes.get ix).valid = true ∧ (p.intake.routes.get ix).stream ≠ r.stream then
      q.unbindUnrouted (p.intake.routes.get ix).stream else q := by rw [← hq]; rfl
  by_cases hself : n = r.stream
  · subst hself
    have htake := (p.setRoute ix r).takeRoute_stream_self r (leaves := leaves) (by
      rw [hl, hset]
      refine ⟨fun h => ⟨h.1, ?_⟩, fun h => ⟨h.1, .inl ⟨rfl, h.2⟩⟩⟩
      exact h.2.elim (·.2) fun hne => absurd rfl hne.1)
    rw [hq, hset] at htake
    rw [hn.mpr rfl, hre]
    split
    · next hc => rw [(q.unbindUnrouted_rest _).2.2.2 _ (Ne.symm hc.2)]; exact htake
    · exact htake
  · have htake := (p.setRoute ix r).takeRoute_stream_of_ne hself
    rw [hq, hset] at htake
    have hnamed : named = false := Bool.eq_false_iff.mpr fun h => hself (hn.mp h)
    rw [hnamed, hre]
    by_cases hold : (p.intake.routes.get ix).valid = true ∧ (p.intake.routes.get ix).stream = n
    · obtain ⟨hvalid, rfl⟩ := hold
      rw [if_pos ⟨hvalid, hself⟩]
      have hrouted : q.intake.routed (p.intake.routes.get ix).stream = false ↔
          ¬p.routedElsewhere ix (p.intake.routes.get ix).stream := by
        rw [hroutes, Bool.eq_false_iff, ne_eq, p.routed_setRoute ix (.inr (Ne.symm hself))]
      rw [Part.unbindUnrouted_stream (leaves := leaves) (by
        rw [hl, hrouted, htake, Part.unboundBy]
        constructor
        · rintro ⟨hb, h | h⟩
          · exact absurd h.1 hself
          · exact ⟨h.2.2.2, hb⟩
        · rintro ⟨hno, hb⟩
          exact ⟨hb, .inr ⟨hself, hvalid, rfl, hno⟩⟩), htake]
      cases leaves <;> rfl
    · have hstay : leaves = false := Bool.eq_false_iff.mpr fun h => by
        rcases (hl.mp h).2 with h | h
        · exact hself h.1
        · exact hold ⟨h.2.1, h.2.2.1⟩
      rw [hstay]
      split
      · next hc => rw [(q.unbindUnrouted_rest _).2.2.2 _ fun h => hold ⟨hc.1, h.symm⟩]; exact htake
      · exact htake

theorem Intake.conflicts_iff (i : Intake) (ix : RouteIx) (r : Route) : i.conflicts ix r = true ↔
    ∃ k, k ≠ ix ∧ (i.routes.get k).valid = true ∧ (i.routes.get k).stream = r.stream ∧
      ((i.routes.get k).node ≠ r.node ∨ (i.routes.get k).preferred ≠ r.preferred ∨ (i.routes.get k).policy ≠ r.policy) := by
  simp [Intake.conflicts, and_assoc, or_assoc]

/-- An accepted RTWR, judged as O41 says (R13). -/
theorem Part.acceptRoute_spec (p : Part) (ix : RouteIx) (r : Route) :
    (p.acceptRoute ix r).port.status = 0x00#8 ∧ (p.acceptRoute ix r).intake.routes.get ix = r ∧
    (∀ k, k ≠ ix → (p.acceptRoute ix r).intake.routes.get k = p.intake.routes.get k) ∧
    (p.intake.routes.get ix = r → p.sameButResponse (p.acceptRoute ix r)) := by
  by_cases h : p.intake.routes.get ix = r
  · rw [Part.acceptRoute_of_same h]
    exact ⟨rfl, h, fun _ _ => rfl, fun _ => p.sameButResponse_reply _⟩
  · have hintake : ((p.rerouted ix r).reply .ok).intake = (p.setRoute ix r).intake := (p.rerouted_rest ix r).2.2
    rw [Part.acceptRoute_of_ne h, hintake]
    exact ⟨rfl, p.setRoute_get_self ix r, fun k hk => p.setRoute_get_of_ne hk r, fun hs => absurd hs h⟩

/-- What an accepted RTWR that changes its entry leaves of the streams (R13). -/
theorem Part.acceptRoute_streams (p : Part) {ix : RouteIx} {r : Route} (h : p.intake.routes.get ix ≠ r) :
    ((p.acceptRoute ix r).stream r.stream).node = r.node ∧ ((p.acceptRoute ix r).stream r.stream).preferred = r.preferred ∧
    ((p.acceptRoute ix r).stream r.stream).policy = r.policy ∧
    (∀ n, n ≠ r.stream → ((p.acceptRoute ix r).stream n).node = (p.stream n).node ∧
      ((p.acceptRoute ix r).stream n).preferred = (p.stream n).preferred ∧
      ((p.acceptRoute ix r).stream n).policy = (p.stream n).policy) ∧
    ∀ n, ((p.acceptRoute ix r).stream n).epoch = (p.stream n).epoch ∧
      ((p.acceptRoute ix r).stream n).nextSeq = (p.stream n).nextSeq ∧
      ((p.acceptRoute ix r).stream n).rejections = (p.stream n).rejections ∧
      ((p.acceptRoute ix r).stream n).inflight = (p.stream n).inflight ∧
      ((p.acceptRoute ix r).stream n).hold = (p.stream n).hold ∧
      if (p.stream n).state = .bound ∧ (p.stream n).inflight = [] ∧ (p.stream n).hold = [] ∧
          (n = r.stream ∧ (p.stream n).node ≠ r.node ∨
            n ≠ r.stream ∧ (p.intake.routes.get ix).valid = true ∧ (p.intake.routes.get ix).stream = n ∧ ∀ k, k ≠ ix →
              (p.intake.routes.get k).valid = true → (p.intake.routes.get k).stream ≠ n) then
        ((p.acceptRoute ix r).stream n).state = .idle ∧ ((p.acceptRoute ix r).stream n).carrier = none ∧
          ((p.acceptRoute ix r).stream n).mark = none ∧ ((p.acceptRoute ix r).stream n).recallDepth = none
      else ((p.acceptRoute ix r).stream n).state = (p.stream n).state ∧
        ((p.acceptRoute ix r).stream n).carrier = (p.stream n).carrier ∧
        ((p.acceptRoute ix r).stream n).mark = (p.stream n).mark ∧
        ((p.acceptRoute ix r).stream n).recallDepth = (p.stream n).recallDepth := by
  have hrec : ∀ n, ∃ leaves, (leaves = true ↔ p.unboundBy ix r n) ∧ (p.acceptRoute ix r).stream n =
      { (p.stream n).rewritten r (decide (n = r.stream)) leaves with
        returnTimer := ((p.acceptRoute ix r).stream n).returnTimer } := by
    intro n
    rw [Part.acceptRoute_of_ne h, Part.reply_stream]
    by_cases hu : p.unboundBy ix r n
    · exact ⟨true, by simp [hu], p.rerouted_stream ix r n (by simp) (by simp [hu])⟩
    · exact ⟨false, by simp [hu], p.rerouted_stream ix r n (by simp) (by simp [hu])⟩
  generalize p.acceptRoute ix r = q at *
  refine ⟨?_, ?_, ?_, fun n hn => ?_, fun n => ?_⟩
  · obtain ⟨leaves, -, hq⟩ := hrec r.stream
    rw [hq]
    cases leaves <;> simp [StreamRec.rewritten, StreamRec.routedBy, StreamRec.ended]
  · obtain ⟨leaves, -, hq⟩ := hrec r.stream
    rw [hq]
    cases leaves <;> simp [StreamRec.rewritten, StreamRec.routedBy, StreamRec.ended]
  · obtain ⟨leaves, -, hq⟩ := hrec r.stream
    rw [hq]
    cases leaves <;> simp [StreamRec.rewritten, StreamRec.routedBy, StreamRec.ended]
  · obtain ⟨leaves, -, hq⟩ := hrec n
    rw [hq, decide_eq_false hn]
    cases leaves <;> exact ⟨rfl, rfl, rfl⟩
  · obtain ⟨leaves, hl, hq⟩ := hrec n
    have hiff : ((p.stream n).state = .bound ∧ (p.stream n).inflight = [] ∧ (p.stream n).hold = [] ∧
        (n = r.stream ∧ (p.stream n).node ≠ r.node ∨
          n ≠ r.stream ∧ (p.intake.routes.get ix).valid = true ∧ (p.intake.routes.get ix).stream = n ∧ ∀ k, k ≠ ix →
            (p.intake.routes.get k).valid = true → (p.intake.routes.get k).stream ≠ n)) ↔ leaves = true := by
      rw [hl, Part.unboundBy, StreamRec.boundEmpty, Part.routedElsewhere]
      simp only [not_exists, not_and, and_assoc]
    simp only [hiff]
    rw [hq]
    cases hn : decide (n = r.stream) <;> cases leaves <;>
      exact ⟨rfl, rfl, rfl, rfl, rfl, rfl, rfl, rfl, rfl⟩

/-- RTCL after its operand is known, judged as O41 says (R14). -/
theorem Part.clearRoute_spec (p : Part) (ix : RouteIx) :
    let old := p.intake.routes.get ix
    if p.intake.service = .init then (p.clearRoute ix).port.status = 0x14#8 ∧ p.sameButResponse (p.clearRoute ix)
    else if old.valid = false then (p.clearRoute ix).port.status = 0x00#8 ∧ p.sameButResponse (p.clearRoute ix)
    else if (p.stream old.stream).busy = true then
      (p.clearRoute ix).port.status = 0x12#8 ∧ p.sameButResponse (p.clearRoute ix)
    else (p.clearRoute ix).port.status = 0x00#8 ∧ (p.clearRoute ix).intake.routes.get ix = Route.empty ∧
      (∀ k, k ≠ ix → (p.clearRoute ix).intake.routes.get k = p.intake.routes.get k) ∧
      (∀ n, n ≠ old.stream → (p.clearRoute ix).stream n = p.stream n) ∧
      ((p.stream old.stream).state = .bound →
        (∀ k, k ≠ ix → (p.intake.routes.get k).valid = true → (p.intake.routes.get k).stream ≠ old.stream) →
        ((p.clearRoute ix).stream old.stream).state = .idle ∧ ((p.clearRoute ix).stream old.stream).carrier = none ∧
        ((p.clearRoute ix).stream old.stream).mark = none ∧
        ((p.clearRoute ix).stream old.stream).recallDepth = none) := by
  dsimp only
  unfold Part.clearRoute
  dsimp only
  split_ifs with hinit hvalid hbusy
  · exact ⟨rfl, p.sameButResponse_reply _⟩
  · exact ⟨rfl, p.sameButResponse_reply _⟩
  · exact ⟨rfl, p.sameButResponse_reply _⟩
  · obtain ⟨-, -, hintake, hother⟩ :=
      (p.setRoute ix Route.empty).unbindUnrouted_rest (p.intake.routes.get ix).stream
    refine ⟨rfl, ?_, fun k hk => ?_, hother, fun hbound hlast => ?_⟩
    · exact (congrArg (fun i : Intake => i.routes.get ix) hintake).trans (p.setRoute_get_self ix _)
    · exact (congrArg (fun i : Intake => i.routes.get k) hintake).trans (p.setRoute_get_of_ne hk _)
    · have hempty : (p.stream (p.intake.routes.get ix).stream).isEmpty = true := by
        rw [StreamRec.busy, hbound] at hbusy
        simpa using hbusy
      have hrouted : (p.setRoute ix Route.empty).intake.routed (p.intake.routes.get ix).stream = false := by
        rw [Bool.eq_false_iff, ne_eq, p.routed_setRoute ix (.inl rfl)]
        rintro ⟨k, hk, hv, hs⟩
        exact hlast k hk hv hs
      rw [Part.reply_stream, Part.unbindUnrouted_stream_self, if_pos ⟨hrouted, hempty, hbound⟩]
      exact ⟨rfl, rfl, rfl, rfl⟩

/-- RTWR after its operands are known: nothing but the intake's routes, stream records and the response moves (R13). -/
theorem Part.writeRoute_rest (p : Part) (ix : RouteIx) (r : Route) : (p.writeRoute ix r).port.data = [] ∧
    (p.writeRoute ix r).lanes = p.lanes ∧ (p.writeRoute ix r).log = p.log := by
  obtain ⟨hlanes, hlog, -⟩ := p.rerouted_rest ix r
  unfold Part.writeRoute
  dsimp only
  split_ifs
  · exact ⟨rfl, rfl, rfl⟩
  · exact ⟨rfl, rfl, rfl⟩
  · exact ⟨rfl, rfl, rfl⟩
  · by_cases h : p.intake.routes.get ix = r
    · rw [Part.acceptRoute_of_same h]
      exact ⟨rfl, rfl, rfl⟩
    · rw [Part.acceptRoute_of_ne h]
      exact ⟨rfl, hlanes, hlog⟩

theorem Part.writeRoute_eq (p : Part) (ix : RouteIx) (r : Route) : p.writeRoute ix r =
    if p.intake.service = .init then p.reply .notNow
    else if (p.intake.routes.get ix).valid = true ∧ (p.stream (p.intake.routes.get ix).stream).busy = true ∧
      p.intake.routes.get ix ≠ r then p.reply .busy
    else if p.intake.conflicts ix r then p.reply .conflict
    else p.acceptRoute ix r := rfl

/-- Settles O41. -/
theorem routeCommandsJudged : Obligations.RouteCommandsJudged := by
  refine ⟨fun p w index hport hindex c hc => ?bad, fun p w index ix hport hix =>
    ⟨fun base units target node stream preferred policy access => ?write, ?clear⟩⟩
  case bad =>
    have hnone := routeOfByte_none hindex
    have hbad : ∀ f : RouteIx → Part, p.withOperand (routeOfByte index) f = p.reply .badOperand := fun f => by
      rw [hnone, Part.withOperand_none]
    refine ⟨p.reply .badOperand, ?_, rfl, rfl, p.sameButResponse_reply _⟩
    rcases hc with rfl | rfl | ⟨b, u, t, n, s, l, o, a, rfl⟩ <;>
      exact (State.manage_of_free hport w _).trans (congrArg (fun q => Host.Outcome.next (State.mk q w)) (hbad _))
  case write =>
    have hexec : exec (.rtwr index base units target node stream preferred policy access) ⟨p, w⟩ =
        .next ⟨p.withOperand (routeOfOperands base units target node stream preferred policy access)
          (fun r => p.writeRoute ix r), w⟩ := by
      refine (State.manage_of_free hport w _).trans ?_
      rw [routeOfByte_of_val hix.symm, Part.withOperand_some]
    refine ⟨_, hexec, ?_⟩
    by_cases hgood : stream.toNat < 64 ∧ preferred.toNat < 4 ∧ policy.toNat < 2 ∧ access.toNat < 2 ∧
        base.toNat % 4096 = 0 ∧ target.toNat % 4096 = 0 ∧ 1 ≤ units.toNat ∧ units.toNat ≤ 2 ^ 36 ∧
        node.toNat ≤ 4095 ∧ base.toNat + units.toNat * 4096 ≤ 2 ^ 48 ∧ target.toNat + units.toNat * 4096 ≤ 2 ^ 48
    · rw [if_neg (not_not_intro hgood), ← and_assoc, ← and_assoc]
      refine ⟨?_, fun r hvalid hb hu ht hnode hs hp hpol hacc => ?_⟩
      · cases routeOfOperands base units target node stream preferred policy access with
        | none => exact ⟨⟨rfl, rfl⟩, rfl⟩
        | some r =>
          obtain ⟨hdata, hlanes, hlog⟩ := p.writeRoute_rest ix r
          exact ⟨⟨hdata, hlanes⟩, hlog⟩
      · rw [routeOfOperands_some hgood hvalid hb hu ht hnode hs hp hpol hacc, Part.withOperand_some, Part.writeRoute_eq]
        simp only [← Intake.conflicts_iff]
        split_ifs
        · exact ⟨rfl, p.sameButResponse_reply _⟩
        · exact ⟨rfl, p.sameButResponse_reply _⟩
        · exact ⟨rfl, p.sameButResponse_reply _⟩
        · obtain ⟨hstatus, hself, hothers, hsame⟩ := p.acceptRoute_spec ix r
          exact ⟨hstatus, hself, hothers, hsame, fun hne => p.acceptRoute_streams hne⟩
    · rw [if_pos hgood, routeOfOperands_none hgood, Part.withOperand_none]
      exact ⟨rfl, rfl, rfl, rfl, p.sameButResponse_reply _⟩
  case clear =>
    refine ⟨p.clearRoute ix, ?_, p.clearRoute_spec ix⟩
    refine (State.manage_of_free hport w _).trans ?_
    rw [routeOfByte_of_val hix.symm, Part.withOperand_some]

end Sys2Proof.Machine
end

section
/-! ASK attempts (O35) and rewinds (O23). -/

namespace Sys2Proof.Machine

theorem LaneSet.add_has_self (t : LaneSet) (l : Lane) : (t.add l).has l = true := by cases l <;> rfl

theorem LaneSet.add_has_of_ne (t : LaneSet) {l m : Lane} (h : m ≠ l) : (t.add l).has m = t.has m := by
  cases l <;> cases m <;> simp [LaneSet.add, LaneSet.has] at h ⊢

/-- A lane newly tried is not eligible, and every other lane is as it was (R109, R110). -/
theorem Part.eligible_add_of_ne (p : Part) {tried : LaneSet} {x : Option Lane} {l m : Lane} (h : m ≠ l) :
    p.eligible (tried.add l) x m = p.eligible tried x m := by
  unfold Part.eligible
  rw [LaneSet.add_has_of_ne _ h]

theorem Part.choose_add_ne {p : Part} {preferred l m : Lane} {tried : LaneSet} {k : BindingKind}
    (h : p.choose preferred (tried.add l) k = some m) : m ≠ l := by
  rintro rfl
  obtain ⟨-, -, -, -, htried, -⟩ := (p.eligible_iff _ _ _).mp (p.choose_eligible _ _ _ _ h)
  exact Bool.false_ne_true (htried.symm.trans (tried.add_has_self m))

/-! ### O35: ASK attempts (R116) -/

/-- An ASK attempt's expiry, before what it leads to: the timer stops, and the carrier is weighed (R116). -/
def Part.askMissed (p : Part) (n : StreamId) (l : Lane) : Part :=
  (p.modStream n (fun r => { r with askTimer := none })).report (.weight l .resumeTimeout)

theorem Part.askExpired_eq {p : Part} {n : StreamId} {l : Lane} (h : (p.stream n).carrier = some l) :
    p.askExpired n = if (p.stream n).askAttempts < 3 then (p.askMissed n l).askAgain n l
      else (p.askMissed n l).giveUpLane n l := by
  unfold Part.askExpired
  rw [h]
  dsimp only
  rw [← Part.askMissed]
  have hself : (p.askMissed n l).stream n = { p.stream n with askTimer := none } := by
    rw [Part.askMissed, Part.report_stream, Part.modStream_stream_self]
  rw [hself]

theorem Part.askMissed_stream_self (p : Part) (n : StreamId) (l : Lane) :
    (p.askMissed n l).stream n = { p.stream n with askTimer := none } := by
  rw [Part.askMissed, Part.report_stream, Part.modStream_stream_self]

theorem Part.askMissed_stream_of_ne (p : Part) {n m : StreamId} (h : m ≠ n) (l : Lane) :
    (p.askMissed n l).stream m = p.stream m := by
  rw [Part.askMissed, Part.report_stream, p.modStream_stream_of_ne h]

theorem Part.streamsOnly_askMissed (p : Part) (n : StreamId) (l : Lane) : p.StreamsOnly (p.askMissed n l) :=
  (p.streamsOnly_modStream n _).trans (Part.streamsOnly_report _ _)

theorem Part.streamsOnly_askAgain (p : Part) (n : StreamId) (l : Lane) : p.StreamsOnly (p.askAgain n l) :=
  (p.streamsOnly_modStream n _).trans (Part.streamsOnly_place _ _ _)

theorem Part.streamsOnly_giveUpLane (p : Part) (n : StreamId) (l : Lane) : p.StreamsOnly (p.giveUpLane n l) :=
  ((p.streamsOnly_modStream n _).trans (Part.streamsOnly_bind _ n _)).trans (Part.streamsOnly_migrated _ n l)

/-- The record of a stream that has given up on a lane (R110, R116). -/
theorem Part.giveUpLane_stream_self (p : Part) (n : StreamId) (l : Lane) : (p.giveUpLane n l).stream n =
    StreamRec.rebound { p.stream n with carrier := none, tried := (p.stream n).tried.add l } p.now (p.stream n).kindAgain
      p.stallEnd (p.choose (p.stream n).preferred ((p.stream n).tried.add l) (p.stream n).kindAgain) := by
  rw [Part.giveUpLane]
  rw [Part.migrated_stream, Part.modStream_bind_stream_self]

theorem Part.giveUpLane_stream_of_ne (p : Part) {n m : StreamId} (h : m ≠ n) (l : Lane) :
    (p.giveUpLane n l).stream m = p.stream m := by
  rw [Part.giveUpLane]
  rw [Part.migrated_stream, Part.modStream_bind_stream_of_ne _ h]

theorem Part.giveUpLane_reports (p : Part) (n : StreamId) (l : Lane) : (p.giveUpLane n l).reports = p.reports := by
  rw [Part.giveUpLane, Part.migrated_reports, Part.bind_reports]
  rfl

/-- A binding lands on a lane with one ASK, or stalls with none (R114, R125). -/
theorem StreamRec.rebound_outcome (r : StreamRec) (now : Micros) (k : BindingKind) (deadline : Micros) {c : Option Lane}
    {ok : Lane → Prop} (hok : ∀ m, c = some m → ok m) :
    (r.rebound now k deadline c).state = .binding ∧ (r.rebound now k deadline c).askAttempts = 1 ∧
      (∃ m, ok m ∧ (r.rebound now k deadline c).carrier = some m) ∨
    (r.rebound now k deadline c).state = .stalled ∧ (r.rebound now k deadline c).askAttempts = 0 ∧
      (r.rebound now k deadline c).carrier = none ∧ (r.rebound now k deadline c).move = none := by
  cases c with
  | some m => exact .inl ⟨rfl, rfl, m, hok m rfl, rfl⟩
  | none => exact .inr ⟨rfl, rfl, rfl, rfl⟩

/-- A move in its final binding keeps its absent drain wherever the stream lands (R138). -/
theorem StreamRec.rebound_move_final {r : StreamRec} {m : Move} (hm : r.move = some m) (hd : m.drain = .absent)
    (now : Micros) (k : BindingKind) (deadline : Micros) (l : Lane) :
    (r.rebound now k deadline (some l)).move = some m := by
  have hstop : ({ m with drain := m.drain.stop now } : Move) = m := by
    rw [hd]
    show ({ m with drain := .absent } : Move) = m
    rw [← hd]
  show (if _ then _ else Option.map Move.over _) = some m
  have hopened : (r.opened now k).move = some m := by
    show r.move.map _ = _
    rw [hm]
    exact congrArg some hstop
  rw [hopened]
  split
  · rfl
  · show some ({ m with drain := .absent } : Move) = some m
    rw [← hd]

/-- Settles O35. -/
theorem askAttempts : Obligations.AskAttempts := by
  intro p w n l t hsettled ht hc
  have hexec : exec (.askAttemptExpiry n) ⟨p, w⟩ = .next ⟨((p.reach t).askExpired n).settle, w⟩ :=
    next_of_expire (p := p) (act := fun q => (q.askExpired n).settle) ht rfl w
  rw [Part.askExpired_eq (p := p.reach t) hc] at hexec
  have hmissed := (p.reach t).askMissed_stream_self n l
  have hothers := fun m (hm : m ≠ n) => (p.reach t).askMissed_stream_of_ne hm l
  have honly := (p.reach t).streamsOnly_askMissed n l
  have hreports : ((p.reach t).askMissed n l).reports = p.reports ++ [.weight l .resumeTimeout] := rfl
  have hlanes : ((p.reach t).askMissed n l).lanes = p.lanes := rfl
  generalize (p.reach t).askMissed n l = q at *
  by_cases hattempts : (p.stream n).askAttempts < 3
  · have honly' := honly.trans (q.streamsOnly_askAgain n l)
    rw [Part.reach_stream, if_pos hattempts, Part.settle_of_settled (Part.settled.streamsOnly (p := p.reach t) hsettled honly')]
      at hexec
    have hself : (q.askAgain n l).stream n =
        { p.stream n with askTimer := none, askAttempts := (p.stream n).askAttempts + 1 } := by
      rw [Part.askAgain, Part.place_stream, Part.modStream_stream_self, hmissed]
      rfl
    refine ⟨_, hexec, by rw [hself], hreports, honly'.completions, by rw [hself], by rw [hself], fun m hm => ?_, fun _ => ?_,
      fun h => absurd hattempts (Nat.not_lt.mpr h)⟩
    · rw [Part.askAgain, Part.place_stream, q.modStream_stream_of_ne hm, hothers m hm]
      rfl
    · refine ⟨q.askFrame n, by rw [hself], by rw [hself]; exact hc, by rw [hself], by rw [hself], ?_, rfl, ?_, ?_⟩
      · rw [Part.askAgain, Part.place_lane_self]
        show (q.lane l).queue ++ _ = _
        rw [Part.lane, hlanes]
        rfl
      · show (q.stream n).epoch = _
        rw [hmissed]
        rfl
      · show (q.stream n).nextSeq = _
        rw [hmissed]
        rfl
  · have honly' := honly.trans (q.streamsOnly_giveUpLane n l)
    rw [Part.reach_stream, if_neg hattempts, Part.settle_of_settled (Part.settled.streamsOnly (p := p.reach t) hsettled honly')]
      at hexec
    have hself := q.giveUpLane_stream_self n l
    have hchoose : q.choose = p.choose := by
      funext a b c
      exact honly.choose a b c
    have hagain : (q.stream n).kindAgain = (p.stream n).kindAgain := by
      rw [hmissed]; rfl
    rw [hagain, hchoose, hmissed] at hself
    refine ⟨_, hexec, by rw [hself]; simp, by rw [q.giveUpLane_reports, hreports], honly'.completions,
      by rw [hself, StreamRec.rebound_hold]; rfl, by rw [hself, StreamRec.rebound_mark]; rfl, fun m hm => ?_,
      fun h => absurd h hattempts, fun _ => ⟨?_, ?_, ?_, fun hmove => ?_, fun m hm hcause hdrain => ⟨?_, fun g hg hgl hel => ?_⟩⟩⟩
    · rw [q.giveUpLane_stream_of_ne hm, hothers m hm]
      rfl
    · rw [hself, StreamRec.rebound_tried]
      exact LaneSet.add_has_self _ _
    · rw [hself, StreamRec.rebound_epoch]
      rfl
    · rw [hself]
      rcases StreamRec.rebound_outcome _ q.now (p.stream n).kindAgain q.stallEnd (ok := (· ≠ l))
        (fun m h => Part.choose_add_ne h) with ⟨hs, ha, m, hm, hcar⟩ | ⟨hs, ha, hcar, -⟩
      · exact .inl ⟨hs, ha, m, hm, hcar⟩
      · exact .inr ⟨hs, ha, hcar⟩
    · rw [hself, StreamRec.rebound_carrier, (p.stream n).kindAgain_eq_binding hmove]
      rfl
    · rw [hself, StreamRec.rebound_carrier, (p.stream n).kindAgain_final hm hcause hdrain]
      rfl
    · have hchosen : p.choose (p.stream n).preferred ((p.stream n).tried.add l) (p.stream n).kindAgain = some g := by
        rw [(p.stream n).kindAgain_final hm hcause hdrain, hg]
        exact Part.choose_of_distinguished (by rw [p.eligible_add_of_ne hgl]; exact hel)
      rw [hself]
      dsimp only [Part.reach_stream]
      rw [hchosen]
      refine ⟨rfl, rfl, StreamRec.rebound_move_final (m := m) ?_ hdrain _ _ _ _⟩
      exact hm

/-! ### O23: rewinds (R123, R124) -/

/-- A rewind before its binding: the weight handed over, and the event (R124). -/
def Part.rewindNoted (p : Part) (n : StreamId) (l : Lane) (c : RewindCause) : Part :=
  ((p.report (.weight l c.weight)).event .streamRewound (some l) (some n) c.code).raise (.stream n .rewinds)

theorem Part.rewind_eq {p : Part} {n : StreamId} {l : Lane} (h : (p.stream n).carrier = some l) (c : RewindCause) :
    p.rewind n c = ((p.rewindNoted n l c).bind n ⟨some l, none⟩).report (.storm l) := by
  unfold Part.rewind
  rw [h]
  rfl

theorem Part.streamsOnly_rewindNoted (p : Part) (n : StreamId) (l : Lane) (c : RewindCause) :
    p.StreamsOnly (p.rewindNoted n l c) :=
  ((p.streamsOnly_report _).trans (Part.streamsOnly_event _ _ _ _ _)).trans (Part.streamsOnly_raise _ _)

section
variable (p : Part) (n : StreamId) (l : Lane) (c : RewindCause)

theorem Part.rewindNoted_stream (m : StreamId) : (p.rewindNoted n l c).stream m = p.stream m := by
  rw [Part.rewindNoted, Part.raise_stream, Part.event_stream, Part.report_stream]

theorem Part.rewindNoted_lane (m : Lane) : (p.rewindNoted n l c).lane m = p.lane m := by
  rw [Part.rewindNoted, Part.raise_lane, Part.event_lane, Part.report_lane]

theorem Part.rewindNoted_reports : (p.rewindNoted n l c).reports = p.reports ++ [.weight l c.weight] := by
  rw [Part.rewindNoted, Part.raise_reports]
  rfl

theorem Part.rewindNoted_log {p : Part} (hu : p.unwatched) (n : StreamId) (l : Lane) (c : RewindCause) :
    (p.rewindNoted n l c).log = p.log.take .streamRewound (some l) (some n) c.code p.timeCounter :=
  Part.unwatched_raise (p := (p.report (.weight l c.weight)).event .streamRewound (some l) (some n) c.code) hu _

theorem Part.chooseFor_rewindNoted (k : BindingKind) : (p.rewindNoted n l c).chooseFor n k = p.chooseFor n k := by
  unfold Part.chooseFor
  rw [(p.streamsOnly_rewindNoted n l c).choose, p.rewindNoted_stream n l c]

end

section
variable {p : Part} {n : StreamId} {l : Lane} (h : (p.stream n).carrier = some l) (c : RewindCause)
include h

theorem Part.rewind_stream_self : (p.rewind n c).stream n =
    (p.stream n).rebound p.now ⟨some l, none⟩ p.stallEnd (p.chooseFor n ⟨some l, none⟩) := by
  rw [Part.rewind_eq h, Part.report_stream, Part.bind_stream_self, p.rewindNoted_stream n l c, p.chooseFor_rewindNoted n l c,
    (p.streamsOnly_rewindNoted n l c).now, (p.streamsOnly_rewindNoted n l c).stallEnd]

theorem Part.rewind_stream_of_ne {m : StreamId} (hm : m ≠ n) : (p.rewind n c).stream m = p.stream m := by
  rw [Part.rewind_eq h, Part.report_stream, Part.bind_stream_of_ne _ hm, p.rewindNoted_stream n l c]

theorem Part.rewind_reports : (p.rewind n c).reports = p.reports ++ [.weight l c.weight, .storm l] := by
  rw [Part.rewind_eq h]
  show ((p.rewindNoted n l c).bind n ⟨some l, none⟩).reports ++ [.storm l] = _
  rw [Part.bind_reports, p.rewindNoted_reports, List.append_assoc]
  rfl

theorem Part.rewind_log (hu : p.unwatched) (hchosen : p.chooseFor n ⟨some l, none⟩ ≠ none) : (p.rewind n c).log =
    p.log.take .streamRewound (some l) (some n) c.code p.timeCounter := by
  have hu' : (p.rewindNoted n l c).unwatched := Part.unwatched_of_params hu (p.streamsOnly_rewindNoted n l c).params
  rw [Part.rewind_eq h, Part.report_log, Part.bind_log hu', p.chooseFor_rewindNoted n l c, if_neg hchosen,
    Part.rewindNoted_log hu]

theorem Part.rewind_queue (m : Lane) : ((p.rewind n c).lane m).queue = (p.lane m).queue.filter (fun f => !f.isOf n) ++
    (if p.chooseFor n ⟨some l, none⟩ = some m then [p.nextAsk n] else []) := by
  have hask : (p.rewindNoted n l c).nextAsk n = p.nextAsk n := by
    unfold Part.nextAsk
    rw [p.rewindNoted_stream n l c, (p.streamsOnly_rewindNoted n l c).params]
  rw [Part.rewind_eq h, Part.report_lane, Part.bind_queue, p.rewindNoted_lane n l c, p.chooseFor_rewindNoted n l c, hask]

end

/-- What a rewind leaves, on a settled part (R124). -/
theorem Part.rewind_spec {p : Part} {n : StreamId} {l : Lane} (h : (p.stream n).carrier = some l) (hu : p.unwatched)
    (c : RewindCause) : ((p.rewind n c).stream n).epoch = (p.stream n).epoch + 1 ∧
    ((p.rewind n c).stream n).mark = (p.stream n).mark ∧ ((p.rewind n c).stream n).nextSeq = (p.stream n).nextSeq ∧
    ((p.rewind n c).stream n).hold = (p.stream n).hold ∧
    ((p.rewind n c).stream n).inflight = (p.stream n).inflight.map OttEntry.requeued ∧
    (p.rewind n c).reports = p.reports ++ [.weight l c.weight, .storm l] ∧
    (∀ m, m ≠ n → (p.rewind n c).stream m = p.stream m) ∧
    (p.eligible (p.stream n).tried none l = true → ((p.rewind n c).stream n).state = .binding ∧
      ((p.rewind n c).stream n).carrier = some l ∧ ((p.rewind n c).stream n).askAttempts = 1 ∧
      (p.rewind n c).log = p.log.take .streamRewound (some l) (some n) c.code p.timeCounter ∧
      ((p.rewind n c).lane l).queue = (p.lane l).queue.filter (fun f => !f.isOf n) ++ [p.nextAsk n]) ∧
    (p.eligible (p.stream n).tried none l = false →
      ((p.rewind n c).stream n).state = .binding ∧ ((p.rewind n c).stream n).askAttempts = 1 ∧
        (∃ m, (m ≠ l ∧ p.eligible (p.stream n).tried none m = true) ∧ ((p.rewind n c).stream n).carrier = some m) ∨
      ((p.rewind n c).stream n).state = .stalled ∧ ((p.rewind n c).stream n).askAttempts = 0 ∧
        ((p.rewind n c).stream n).carrier = none ∧ ((p.rewind n c).stream n).move = none) := by
  have hself := Part.rewind_stream_self h c
  refine ⟨by simp [hself], by simp [hself], by simp [hself], by simp [hself], by simp [hself], Part.rewind_reports h c,
    fun m hm => Part.rewind_stream_of_ne h c hm, fun hel => ?_, fun hel => ?_⟩
  · have hchosen : p.chooseFor n ⟨some l, none⟩ = some l := Part.choose_of_distinguished hel
    rw [Part.rewind_log h c hu (by rw [hchosen]; exact Option.some_ne_none l), Part.rewind_queue h c, hself, hchosen,
      if_pos rfl]
    exact ⟨rfl, rfl, rfl, rfl, rfl⟩
  · rw [hself]
    refine StreamRec.rebound_outcome _ _ _ _ fun m hm => ?_
    have hm' : p.eligible (p.stream n).tried none m = true := p.choose_eligible _ _ _ _ hm
    exact ⟨fun hml => Bool.false_ne_true (hel.symm.trans (hml ▸ hm')), hm'⟩

theorem Part.settled_rewind {p : Part} (h : p.settled) (n : StreamId) (c : RewindCause) :
    (p.rewind n c).settle = p.rewind n c :=
  Part.settle_of_settled (h.streamsOnly (p.streamsOnly_rewind n c))

theorem Part.reached_eligible (p : Part) (l : Lane) (tried : LaneSet) (x : Option Lane) (m : Lane) :
    (p.reached l).eligible tried x m = p.eligible tried x m := by
  unfold Part.eligible
  by_cases hm : m = l
  · subst hm; rw [p.reached_lane_self]
  · rw [p.reached_lane_of_ne hm]

/-- Settles O23. -/
theorem rewindStaysOnCarrier : Obligations.RewindStaysOnCarrier := by
  intro p w l n c cause detail now hu hsettled hoff hcarrier hstate hc
  have htakes : (p.stream n).state.takesAnswers = true := by
    simp only [List.mem_cons, List.not_mem_nil, or_false] at hstate
    rcases hstate with h | h | h <;> rw [h] <;> rfl
  have hready : ∃ (q : Part) (k : RewindCause), q.unwatched ∧ q.settled ∧ q.now = now ∧ k.weight = cause ∧
      k.code = detail ∧ (∀ m, q.stream m = p.stream m) ∧ q.reports = p.reports ∧ q.completions = p.completions ∧
      q.log = p.log ∧ (q.lane l).queue = (p.lane l).queue ∧
      (∀ m, q.eligible (p.stream n).tried none m = p.eligible (p.stream n).tried none m) ∧
      exec c ⟨p, w⟩ = .next ⟨(q.rewind n k).settle, w⟩ := by
    rcases hc with ⟨h, rfl, hn, hdest, hepoch, rfl, rfl, rfl⟩ | ⟨s, t, rfl, ht, rfl, rfl, rfl⟩
    · exact ⟨p.reached l, .gap, hu.of_params (p.reached_params l), hsettled.reached l, p.reached_now l, rfl, rfl,
        p.reached_stream l, p.reached_reports l, p.reached_completions l, Part.reached_log hu l,
        by rw [p.reached_lane_self], p.reached_eligible l _ _,
        Part.accepts.gap ⟨hn, hoff, hdest, hepoch, hcarrier⟩ htakes w⟩
    · exact ⟨p.reach t, .deadline, hu, hsettled, rfl, rfl, rfl, fun _ => rfl, rfl, rfl, rfl, rfl, fun _ => rfl,
        next_of_expire (p := p) (act := fun q => (q.rewind n .deadline).settle) ht rfl w⟩
  obtain ⟨q, k, hqu, hqs, hnow, hweight, hcode, hstream, hreports, hcompletions, hlog, hqueue, helig, hexec⟩ := hready
  obtain ⟨hepoch, hmark, hseq, hhold, hinflight, hrep, hothers, hstay, hleave⟩ :=
    Part.rewind_spec (p := q) (n := n) (by rw [hstream]; exact hcarrier) hqu k
  have honly := q.streamsOnly_rewind n k
  have htime : q.timeCounter = BitVec.ofNat 32 now := by rw [Part.timeCounter, hnow]
  have hask : (q.nextAsk n).header.epoch = (p.stream n).epoch + 1 := by rw [← hstream n]; rfl
  rw [Part.settled_rewind hqs] at hexec
  simp only [hstream, helig, hreports, hlog, hqueue, hweight, hcode, htime] at hepoch hmark hseq hhold hinflight hrep hothers hstay hleave
  refine ⟨_, hexec, honly.now.trans hnow, hepoch, hmark, hseq, hhold, hinflight, hrep, hothers,
    honly.completions.trans hcompletions, fun hel => ?_, fun hel => ?_⟩
  · obtain ⟨hs, hcar, hatt, hl, hq⟩ := hstay hel
    exact ⟨q.nextAsk n, hs, hcar, hatt, hl, hq, rfl, hask⟩
  · rcases hleave hel with ⟨hs, hatt, m, ⟨hne, hm⟩, hcar⟩ | ⟨hs, -, hcar, hmove⟩
    · exact .inl ⟨hs, hatt, m, hne, hcar, hm⟩
    · exact .inr ⟨hs, hcar, hmove⟩

end Sys2Proof.Machine
end

section
/-! Planned moves that start by themselves, are abandoned, or are forced (O37). -/

namespace Sys2Proof.Machine

/-! ### The return timer's expiry (R142) -/

/-- A drain that no entry holds back ends in a binding at once, under a new epoch (R135). -/
theorem StreamRec.inMove_rebound_spec (r : StreamRec) (m : Move) (now : Micros) (k : BindingKind) (deadline : Micros)
    (c : Option Lane) : ((r.inMove m).rebound now k deadline c).epoch = r.epoch + 1 ∧
    ((r.inMove m).rebound now k deadline c).hold = r.hold ∧ ((r.inMove m).rebound now k deadline c).returnTimer = none := by
  simp [StreamRec.inMove]

theorem returnTimerExpiry_spec (p : Part) (w : List Instr) (n : StreamId) (l : Lane) (t : Nat) (hsettled : p.settled)
    (ht : (p.stream n).returnTimer = some t) (hc : (p.stream n).carrier = some l) :
    ∃ p', exec (.returnTimerExpiry n) ⟨p, w⟩ = .next ⟨p', w⟩ ∧ (p'.stream n).returnTimer = none ∧
      (p'.stream n).hold = (p.stream n).hold ∧ (∀ k, k ≠ n → p'.stream k = p.stream k) ∧
      p'.completions = p.completions ∧
      ((p.stream n).inflight ≠ [] → (p'.stream n).state = .draining ∧ (p'.stream n).carrier = some l ∧
        (p'.stream n).epoch = (p.stream n).epoch ∧ (p'.stream n).inflight = (p.stream n).inflight ∧
        (p'.stream n).move = some ⟨some (p.stream n).preferred, .returning,
          .running (max p.now t + p.params.drainLimit * 1000), l⟩ ∧ p'.lanes = p.lanes) ∧
      ((p.stream n).inflight = [] → (p'.stream n).epoch = (p.stream n).epoch + 1 ∧
        (p.eligible (p.stream n).tried none (p.stream n).preferred = true →
          (p'.stream n).state = .binding ∧ (p'.stream n).carrier = some (p.stream n).preferred ∧
          (p'.stream n).askAttempts = 1) ∧
        (p.eligible (p.stream n).tried none (p.stream n).preferred = false →
          (p'.stream n).state = .binding ∧ (∃ g, g ≠ (p.stream n).preferred ∧ (p'.stream n).carrier = some g) ∨
          (p'.stream n).state = .stalled ∧ (p'.stream n).carrier = none ∧ (p'.stream n).move = none)) := by
  have honly := (p.reach t).streamsOnly_startMove n (some (p.stream n).preferred) .returning
  have hexec : exec (.returnTimerExpiry n) ⟨p, w⟩ =
      .next ⟨(p.reach t).startMove n (some (p.stream n).preferred) .returning, w⟩ :=
    next_of_expire (p := p) (act := fun q => (q.startMove n (some (q.stream n).preferred) .returning).settle) ht
      (Part.settle_of_settled (Part.settled.streamsOnly (p := p.reach t) hsettled honly)) w
  have hothers : ∀ k, k ≠ n → ((p.reach t).startMove n (some (p.stream n).preferred) .returning).stream k = p.stream k :=
    fun k hk => (p.reach t).startMove_stream_of_ne hk _ _
  by_cases hi : (p.stream n).inflight = []
  · have hself := Part.startMove_stream_of_empty (p := p.reach t) hc hi (some (p.stream n).preferred) .returning
    obtain ⟨hepoch, hhold, htimer⟩ : (((p.reach t).startMove n (some (p.stream n).preferred) .returning).stream n).epoch =
          (p.stream n).epoch + 1 ∧
        (((p.reach t).startMove n (some (p.stream n).preferred) .returning).stream n).hold = (p.stream n).hold ∧
        (((p.reach t).startMove n (some (p.stream n).preferred) .returning).stream n).returnTimer = none := by
      rw [hself]
      exact StreamRec.inMove_rebound_spec ..
    refine ⟨_, hexec, htimer, hhold, hothers, honly.completions, fun hne => absurd hi hne, fun _ => ⟨hepoch, fun hel => ?_,
      fun hel => ?_⟩⟩
    · have hchoose : (p.reach t).choose (p.stream n).preferred (p.stream n).tried
          ((p.reach t).newMove (some (p.stream n).preferred) .returning l).kind = some (p.stream n).preferred :=
        Part.choose_of_distinguished hel
      rw [Part.reach_stream, hchoose] at hself
      rw [hself]
      exact ⟨rfl, rfl, rfl⟩
    · have hother : ∀ m, (p.reach t).choose (p.stream n).preferred (p.stream n).tried
          ((p.reach t).newMove (some (p.stream n).preferred) .returning l).kind = some m → m ≠ (p.stream n).preferred := by
        rintro m hm rfl
        exact Bool.false_ne_true (hel.symm.trans ((p.reach t).choose_eligible _ _ _ _ hm))
      rw [Part.reach_stream] at hself
      rw [hself]
      rcases StreamRec.rebound_outcome ((p.stream n).inMove
          ((p.reach t).newMove (some (p.stream n).preferred) .returning l).over) (p.reach t).now
          ((p.reach t).newMove (some (p.stream n).preferred) .returning l).kind (p.reach t).stallEnd hother with
        ⟨hs, -, g, hg, hcar⟩ | ⟨hs, -, hcar, hmove⟩
      · exact .inl ⟨hs, g, hg, hcar⟩
      · exact .inr ⟨hs, hcar, hmove⟩
  · have hself := Part.startMove_stream_of_inflight (p := p.reach t) hc hi (some (p.stream n).preferred) .returning
    have hlanes : ((p.reach t).startMove n (some (p.stream n).preferred) .returning).lanes = p.lanes := by
      rw [Part.startMove_of_inflight (p := p.reach t) hc hi]
      rfl
    exact ⟨_, hexec, by rw [hself]; rfl, by rw [hself]; rfl, hothers, honly.completions,
      fun _ => ⟨by rw [hself]; rfl, by rw [hself]; exact hc, by rw [hself]; rfl, by rw [hself]; rfl, by rw [hself]; rfl, hlanes⟩,
      fun hno => absurd hno hi⟩

/-! ### What follows an entry to BOUND (R122, R141) -/

theorem Part.judgeLeaving_of_staying {p : Part} {n : StreamId} {l : Lane} (h : (p.stream n).carrier = some l)
    (hl : (p.lane l).leaving = false) : p.judgeLeaving n = p := by
  rw [Part.judgeLeaving_eq h, if_neg]
  exact fun hc => Bool.false_ne_true (hl.symm.trans hc.2.2)

theorem Part.judgeReturn_timer_of_running {p : Part} {n : StreamId} {t : Micros} (hh : p.returnHolds n = true)
    (h : (p.stream n).returnTimer = some t) : ((p.judgeReturn n).stream n).returnTimer = some t := by
  rw [Part.judgeReturn, if_pos hh, h]
  exact h

theorem Part.judgeReturn_timer_of_stopped {p : Part} {n : StreamId} (hh : p.returnHolds n = true)
    (h : (p.stream n).returnTimer = none) :
    ((p.judgeReturn n).stream n).returnTimer = some (p.now + p.params.returnDelay * 1000000) := by
  rw [Part.judgeReturn, if_pos hh, h]
  exact congrArg StreamRec.returnTimer (p.modStream_stream_self n _)

theorem Part.judgeReturn_timer_of_not {p : Part} {n : StreamId} (hh : ¬ p.returnHolds n = true) :
    ((p.judgeReturn n).stream n).returnTimer = none := by
  rw [Part.judgeReturn, if_neg hh]
  exact congrArg StreamRec.returnTimer (p.modStream_stream_self n _)

/-- A stream's return timer after it is judged (R141). -/
theorem Part.judgeReturn_timer (p : Part) (n : StreamId) : ((p.judgeReturn n).stream n).returnTimer =
    if p.returnHolds n = true then
      some ((p.stream n).returnTimer.getD (p.now + p.params.returnDelay * 1000000)) else none := by
  by_cases hh : p.returnHolds n = true
  · rw [if_pos hh]
    cases h : (p.stream n).returnTimer with
    | some t => rw [Part.judgeReturn_timer_of_running hh h, Option.getD_some]
    | none => rw [Part.judgeReturn_timer_of_stopped hh h, Option.getD_none]
  · rw [if_neg hh, Part.judgeReturn_timer_of_not hh]

theorem Part.judgeReturn_stream_of_ne (p : Part) {n m : StreamId} (h : m ≠ n) : (p.judgeReturn n).stream m = p.stream m := by
  unfold Part.judgeReturn
  split
  · split
    · rfl
    · exact p.modStream_stream_of_ne h _
  · exact p.modStream_stream_of_ne h _

/-- A return timer judged is no matter for the dispatch of held requests. -/
theorem Part.Retimed.headReady {p q : Part} (h : p.Retimed q) (n : StreamId) : q.headReady n = p.headReady n := by
  have hparams : q.params = p.params := by rw [h.rest]
  have hwindow : ∀ k, q.windowAllows n k = p.windowAllows n k := fun k => by
    unfold Part.windowAllows StreamRec.swapCount
    rw [h.stream n, hparams]
  unfold Part.headReady
  rw [h.stream n]
  simp only [hwindow]

theorem Part.Retimed.dispatchStops {p q : Part} (h : p.Retimed q) {n : StreamId} (hp : p.dispatchStops n) :
    q.dispatchStops n := by
  have hfree : q.engine.freeEntries = p.engine.freeEntries := by rw [h.rest]
  unfold Part.dispatchStops
  rw [h.headReady, hfree]
  exact hp

/-- After an entry to BOUND on a carrier that stays, the stream dispatches what it held as far as it can, other
streams what the arbiter gives them, and its return timer is judged (R27, R28, R122, R141). -/
structure Part.Resumed (p q : Part) (n : StreamId) : Prop where
  stream : ∃ r, (p.stream n).Dispatched r ∧ q.stream n = { r with returnTimer := (q.stream n).returnTimer }
  stops : (p.stream n).hold.length ≤ 64 → q.dispatchStops n
  log : p.unwatched ∨ p.noneHeld → q.log = p.log
  timer : (q.stream n).returnTimer = if (p.stream n).policy = .returning ∧ (p.stream n).move = none ∧
      (p.stream n).carrier ≠ some (p.stream n).preferred ∧ (p.lane (p.stream n).preferred).state = .active ∧
      (p.lane (p.stream n).preferred).leaving = false then
    some ((p.stream n).returnTimer.getD (p.now + p.params.returnDelay * 1000000)) else none
  only : p.StreamsOnly q
  fills : p.Fills q
  quiet : p.noneHeld → q.lanes = p.lanes ∧ ∀ k, k ≠ n → q.stream k = p.stream k

theorem Part.afterBound_resumed {p : Part} {n : StreamId} {l : Lane} (hs : (p.stream n).state = .bound)
    (hc : (p.stream n).carrier = some l) (hl : (p.lane l).leaving = false) : p.Resumed (p.afterBound n) n := by
  have hafter : p.afterBound n = ((p.dispatchHeld n 64).serve).judgeReturn n := by
    rw [Part.afterBound, Part.judgeLeaving_of_staying hc hl]
  have honly : p.StreamsOnly ((p.dispatchHeld n 64).serve) :=
    (Part.streamsOnly_dispatchHeld n 64 p).trans (Part.streamsOnly_serve _)
  have hdisp : (p.stream n).Dispatched (((p.dispatchHeld n 64).serve).stream n) :=
    (p.dispatchHeld_dispatched n 64 n).trans (Part.serve_dispatched _ n)
  have hretimed := ((p.dispatchHeld n 64).serve).retimed_judgeReturn n
  have hnone : p.noneHeld → (p.dispatchHeld n 64).serve = p := fun h => by rw [h.dispatchHeld, h.serve]
  rw [hafter]
  constructor
  case stream => exact ⟨_, hdisp, hretimed.stream n⟩
  case stops => exact fun hlen => hretimed.dispatchStops (Part.dispatchHeld_stops n 64 p hlen).serve
  case log =>
    rintro (hu | hno)
    · rw [hretimed.log, Part.serve_log (Part.unwatched_of_params hu (Part.streamsOnly_dispatchHeld n 64 p).params),
        Part.dispatchHeld_log n 64 hu]
    · rw [hretimed.log, hnone hno]
  case timer =>
    have hholds : ((p.dispatchHeld n 64).serve).returnHolds n = true ↔ (p.stream n).policy = .returning ∧
        (p.stream n).move = none ∧ (p.stream n).carrier ≠ some (p.stream n).preferred ∧
        (p.lane (p.stream n).preferred).state = .active ∧ (p.lane (p.stream n).preferred).leaving = false := by
      unfold Part.returnHolds
      dsimp only
      rw [honly.state, honly.leaving, hdisp.rest]
      simp [hs, and_assoc]
    rw [Part.judgeReturn_timer, honly.now, honly.params]
    simp only [hholds]
    rw [hdisp.rest]
  case only => exact honly.trans (Part.streamsOnly_judgeReturn _ n)
  case fills =>
    have hfills := (Part.dispatchHeld_fills n 64 p).trans (Part.serve_fills _) fun m => (p.dispatchHeld_dispatched n 64 m).state
    intro m
    obtain ⟨added, hq, hadded⟩ := hfills m
    exact ⟨added, by rw [hretimed.lane m, hq], hadded⟩
  case quiet =>
    intro hno
    rw [hnone hno]
    exact ⟨(p.retimed_judgeReturn n).lanes, fun k hk => p.judgeReturn_stream_of_ne hk⟩

/-! ### Drains that run out (R136, R137) -/

/-- A move abandoned, before what follows an entry to BOUND (R136). -/
def Part.moveDropped (p : Part) (n : StreamId) (m : Move) : Part :=
  (p.modStream n (fun r => { r.bound with move := none })).event .moveAbandoned (p.stream n).carrier (some n)
    (bytePair (laneByteOf m.target) (laneByteOf (p.stream n).carrier))

theorem Part.abandonMove_eq {p : Part} {n : StreamId} {m : Move} (h : (p.stream n).move = some m) :
    p.abandonMove n = (p.moveDropped n m).afterBound n := by
  unfold Part.abandonMove
  rw [h]
  rfl

theorem Part.drainExpiry_of_running {p : Part} {n : StreamId} {m : Move} {t : Nat} (hs : (p.stream n).state = .draining)
    (hm : (p.stream n).move = some m) (hd : m.drain = .running t) {causes : MoveCause → Bool} (hc : causes m.cause = true) :
    p.drainExpiry n causes = some t := by
  unfold Part.drainExpiry
  rw [hs, hm]
  dsimp only
  rw [hd]
  exact if_pos hc

theorem moveAbandoned_spec (p : Part) (w : List Instr) (n : StreamId) (l : Lane) (m : Move) (t : Nat)
    (hsettled : p.settled) (hs : (p.stream n).state = .draining) (hcar : (p.stream n).carrier = some l)
    (hm : (p.stream n).move = some m) (hd : m.drain = .running t) (hcause : m.cause ≠ .leaving)
    (hl : (p.lane l).leaving = false) : ∃ p',
      exec (.moveAbandoned n) ⟨p, w⟩ = .next ⟨p', w⟩ ∧ (p'.stream n).state = .bound ∧
      (p'.stream n).move = none ∧ (p'.stream n).carrier = some l ∧
      (p'.stream n).epoch = (p.stream n).epoch ∧ (p'.stream n).mark = (p.stream n).mark ∧
      (p.stream n).dispatchedTo (p'.stream n) ∧
      ((p.stream n).hold.length ≤ 64 → p'.dispatchStops n) ∧
      (p.unwatched ∨ p.noneHeld → p'.log = p.log.take .moveAbandoned (some l) (some n)
        (bytePair (match m.target with | some g => g.code | none => 255) l.code)
        (BitVec.ofNat 32 (max p.now t))) ∧
      (p'.stream n).returnTimer =
        (if (p.stream n).policy = .returning ∧ l ≠ (p.stream n).preferred ∧
            (p.lane (p.stream n).preferred).state = .active ∧
            (p.lane (p.stream n).preferred).leaving = false then
          some ((p.stream n).returnTimer.getD (max p.now t + p.params.returnDelay * 1000000))
        else none) ∧
      (∀ k, (p'.lane k).state = (p.lane k).state) ∧ p'.completions = p.completions ∧
      (p.noneHeld → p'.lanes = p.lanes ∧ ∀ k, k ≠ n → p'.stream k = p.stream k) := by
  have hdrain := Part.drainExpiry_of_running hs hm hd (causes := fun c => c != .leaving) (by simpa using hcause)
  have habandon : (p.reach t).abandonMove n = ((p.reach t).moveDropped n m).afterBound n := Part.abandonMove_eq hm
  have honly : (p.reach t).StreamsOnly ((p.reach t).moveDropped n m) :=
    (Part.streamsOnly_modStream _ n _).trans (Part.streamsOnly_event _ _ _ _ _)
  have hrec : ((p.reach t).moveDropped n m).stream n = { (p.stream n).bound with move := none } := by
    rw [Part.moveDropped, Part.event_stream, Part.modStream_stream_self, Part.reach_stream]
  have hothers : ∀ k, k ≠ n → ((p.reach t).moveDropped n m).stream k = p.stream k := fun k hk => by
    rw [Part.moveDropped, Part.event_stream, Part.modStream_stream_of_ne _ hk, Part.reach_stream]
  have hlog : ((p.reach t).moveDropped n m).log = p.log.take .moveAbandoned (some l) (some n)
      (bytePair (match m.target with | some g => g.code | none => 255) l.code) (BitVec.ofNat 32 (max p.now t)) := by
    rw [Part.moveDropped, Part.event_log, Part.reach_stream, hcar]
    rfl
  have hlanes : ((p.reach t).moveDropped n m).lanes = p.lanes := rfl
  generalize (p.reach t).moveDropped n m = q at *
  have hresumed : q.Resumed (q.afterBound n) n := by
    refine Part.afterBound_resumed (l := l) (by rw [hrec]; rfl) (by rw [hrec]; exact hcar) ?_
    rw [Part.lane, hlanes]
    exact hl
  have hexec : exec (.moveAbandoned n) ⟨p, w⟩ = .next ⟨q.afterBound n, w⟩ :=
    next_of_expire (p := p) (act := fun q => (q.abandonMove n).settle) hdrain (by
      rw [habandon]
      exact Part.settle_of_settled (Part.settled.streamsOnly (p := p.reach t) hsettled (honly.trans hresumed.only))) w
  obtain ⟨r, hdisp, hstream⟩ := hresumed.stream
  have htimer := hresumed.timer
  rw [hrec] at hdisp htimer
  have hnone : p.noneHeld → q.noneHeld := fun h k => by
    by_cases hk : k = n
    · rw [hk, hrec]; exact h n
    · rw [hothers k hk]; exact h k
  refine ⟨_, hexec, by rw [hstream, hdisp.rest]; rfl, by rw [hstream, hdisp.rest], by rw [hstream, hdisp.rest]; exact hcar,
    by rw [hstream, hdisp.rest]; rfl, by rw [hstream, hdisp.rest]; rfl, ?_, fun hlen => hresumed.stops (by rw [hrec]; exact hlen),
    fun h => (hresumed.log (h.imp (fun hu => Part.unwatched_of_params hu honly.params) hnone)).trans hlog, ?_,
    fun k => ?_, hresumed.only.completions.trans honly.completions, fun hno => ?_⟩
  · rw [hstream]
    exact hdisp.dispatched
  · rw [htimer, honly.now, honly.params]
    have hiff : (({ (p.stream n).bound with move := none } : StreamRec).policy = .returning ∧
        ({ (p.stream n).bound with move := none } : StreamRec).move = none ∧
        ({ (p.stream n).bound with move := none } : StreamRec).carrier ≠
          some ({ (p.stream n).bound with move := none } : StreamRec).preferred ∧
        (q.lane (p.stream n).preferred).state = .active ∧ (q.lane (p.stream n).preferred).leaving = false) ↔
        ((p.stream n).policy = .returning ∧ l ≠ (p.stream n).preferred ∧
            (p.lane (p.stream n).preferred).state = .active ∧
            (p.lane (p.stream n).preferred).leaving = false) := by
      rw [Part.lane, hlanes]
      show (p.stream n).policy = .returning ∧ none = none ∧ (p.stream n).carrier ≠ some (p.stream n).preferred ∧ _ ↔ _
      rw [hcar]
      simp [Part.lane]
    exact if_congr hiff rfl rfl
  · rw [hresumed.only.state, Part.lane, hlanes]
    rfl
  · obtain ⟨hl', hs'⟩ := hresumed.quiet (hnone hno)
    exact ⟨hl'.trans hlanes, fun k hk => (hs' k hk).trans (hothers k hk)⟩

/-- A LEAVING move forced: its event logged and its drain over, before the binding (R137). -/
theorem Part.forceMove_eq {p : Part} {n : StreamId} {m : Move} (h : (p.stream n).move = some m) :
    p.forceMove n = (((p.event .moveForced (some m.left) (some n) (sat16 (p.stream n).inflight.length)).modStream n
      (fun r => { r with move := some m.over })).bind n m.kind).migrated n m.left := by
  unfold Part.forceMove
  rw [h]

theorem Part.streamsOnly_forceMove (p : Part) (n : StreamId) : p.StreamsOnly (p.forceMove n) := by
  unfold Part.forceMove
  split
  · exact .refl p
  · exact (((p.streamsOnly_event _ _ _ _).trans (Part.streamsOnly_modStream _ n _)).trans
      (Part.streamsOnly_bind _ n _)).trans (Part.streamsOnly_migrated _ n _)

theorem Part.forceMove_stream_self {p : Part} {n : StreamId} {m : Move} (h : (p.stream n).move = some m) :
    (p.forceMove n).stream n = StreamRec.rebound { p.stream n with move := some m.over } p.now m.kind p.stallEnd
      (p.choose (p.stream n).preferred (p.stream n).tried m.kind) := by
  have honly := p.streamsOnly_event .moveForced (some m.left) (some n) (sat16 (p.stream n).inflight.length)
  rw [Part.forceMove_eq h]
  rw [Part.migrated_stream, Part.modStream_bind_stream_self, Part.event_stream, honly.choose, honly.now, honly.stallEnd]

theorem Part.forceMove_stream_of_ne (p : Part) {n k : StreamId} (h : k ≠ n) : (p.forceMove n).stream k = p.stream k := by
  cases hm : (p.stream n).move with
  | none => unfold Part.forceMove; rw [hm]
  | some m =>
    rw [Part.forceMove_eq hm]
    rw [Part.migrated_stream, Part.modStream_bind_stream_of_ne _ h, Part.event_stream]

theorem moveForced_spec (p : Part) (w : List Instr) (n : StreamId) (m : Move) (t : Nat)
    (hsettled : p.settled) (hs : (p.stream n).state = .draining) (hm : (p.stream n).move = some m)
    (hd : m.drain = .running t) (hcause : m.cause = .leaving) :
    ∃ p', exec (.moveForced n) ⟨p, w⟩ = .next ⟨p', w⟩ ∧
      ((p'.stream n).state = .binding ∧ (∃ g, g ≠ m.left ∧ (p'.stream n).carrier = some g) ∧
          (p'.stream n).move = some { m with drain := .absent } ∨
        (p'.stream n).state = .stalled ∧ (p'.stream n).carrier = none ∧ (p'.stream n).move = none) ∧
      (p'.stream n).epoch = (p.stream n).epoch + 1 ∧ (p'.stream n).hold = (p.stream n).hold ∧
      (p'.stream n).inflight =
        (p.stream n).inflight.map (fun x => { x with phase := .queued, deadline := none }) ∧
      p'.completions = p.completions ∧ ∀ k, k ≠ n → p'.stream k = p.stream k := by
  have hdrain := Part.drainExpiry_of_running hs hm hd (causes := fun c => c == .leaving) (by simpa using hcause)
  have honly := (p.reach t).streamsOnly_forceMove n
  have hexec : exec (.moveForced n) ⟨p, w⟩ = .next ⟨(p.reach t).forceMove n, w⟩ :=
    next_of_expire (p := p) (act := fun q => (q.forceMove n).settle) hdrain
      (Part.settle_of_settled (Part.settled.streamsOnly (p := p.reach t) hsettled honly)) w
  have hself := Part.forceMove_stream_self (p := p.reach t) hm
  refine ⟨_, hexec, ?_, by rw [hself]; simp, by rw [hself]; simp, by rw [hself, StreamRec.rebound_inflight]; rfl,
    honly.completions, fun k hk => (p.reach t).forceMove_stream_of_ne hk⟩
  rw [hself]
  have hkind : m.kind = ⟨m.target, some m.left⟩ := by unfold Move.kind; rw [hcause]
  cases hchoose : (p.reach t).choose (p.stream n).preferred (p.stream n).tried m.kind with
  | none =>
    rw [Part.reach_stream, hchoose]
    exact .inr ⟨rfl, rfl, rfl⟩
  | some g =>
    have hel := (p.reach t).choose_eligible _ _ _ _ hchoose
    obtain ⟨-, -, -, -, -, hne⟩ := ((p.reach t).eligible_iff _ _ _).mp hel
    rw [Part.reach_stream, hchoose]
    refine .inl ⟨rfl, ⟨g, ?_, rfl⟩, StreamRec.rebound_move_final (m := m.over) rfl rfl _ _ _ _⟩
    rintro rfl
    rw [hkind] at hne
    exact hne rfl

/-- Settles O37. -/
theorem plannedMovesRun : Obligations.PlannedMovesRun :=
  ⟨returnTimerExpiry_spec, fun p w n l m t hsettled hs hcar hm hd =>
    ⟨fun hcause hl => moveAbandoned_spec p w n l m t hsettled hs hcar hm hd hcause hl,
      fun hcause => moveForced_spec p w n m t hsettled hs hm hd hcause⟩⟩

end Sys2Proof.Machine
end

section
/-! The refusals of the intake checks (O8) and the drop tally (O9). -/

namespace Sys2Proof.Machine

/-! ### What the checks find (R6) -/

theorem Intake.kind_of_wellFormed {i : Intake} {q : HostRecord} (h : i.malformed q = none) :
    ∃ k, ReqKind.ofCode q.kind = some k := by
  cases hk : ReqKind.ofCode q.kind with
  | none => simp [Intake.malformed, hk] at h
  | some k => exact ⟨k, rfl⟩

theorem Part.verdict_of_restricted {p : Part} (q : HostRecord) (h : p.intake.service = .restricted) :
    p.verdict q = .restricted := if_pos h

theorem Part.verdict_of_malformed {p : Part} {q : HostRecord} {reason : Nat} (hs : p.intake.service ≠ .restricted)
    (h : p.intake.malformed q = some reason) : p.verdict q = .malformed reason := by
  rw [Part.verdict, if_neg hs, h]

theorem Part.verdict_of_unrouted {p : Part} {q : HostRecord} (hs : p.intake.service ≠ .restricted)
    (hm : p.intake.malformed q = none) (h : p.intake.route q.address = none) : p.verdict q = .unrouted := by
  obtain ⟨k, hk⟩ := Intake.kind_of_wellFormed hm
  rw [Part.verdict, if_neg hs, hm, hk]
  dsimp only
  rw [h]

/-- The verdict on a well-formed request whose address has a route (R6, R10). -/
theorem Part.verdict_of_routed {p : Part} {q : HostRecord} {k : ReqKind} {ix : RouteIx}
    (hs : p.intake.service ≠ .restricted) (hm : p.intake.malformed q = none) (hk : ReqKind.ofCode q.kind = some k)
    (h : p.intake.route q.address = some ix) : p.verdict q =
      if k ≠ .read ∧ (p.intake.routes.get ix).access = .readOnly then .denied ix
      else if (p.stream (p.intake.routes.get ix).stream).state = .faulted then .faulted (p.intake.routes.get ix).stream
      else p.resources k (p.intake.routes.get ix) q.length.toNat := by
  rw [Part.verdict, if_neg hs, hm, hk]
  dsimp only
  rw [h]

theorem Part.verdict_of_denied {p : Part} {q : HostRecord} {ix : RouteIx} (hs : p.intake.service ≠ .restricted)
    (hm : p.intake.malformed q = none) (h : p.intake.route q.address = some ix)
    (ha : (p.intake.routes.get ix).access = .readOnly) (hk : q.kind ≠ 0x01#8) : p.verdict q = .denied ix := by
  obtain ⟨k, hcode⟩ := Intake.kind_of_wellFormed hm
  rw [Part.verdict_of_routed hs hm hcode h, if_pos]
  refine ⟨?_, ha⟩
  rintro rfl
  exact hk ((ReqKind.ofCode_eq_some_iff _ _).1 hcode)

theorem Part.verdict_of_faulted {p : Part} {q : HostRecord} {ix : RouteIx} (hs : p.intake.service ≠ .restricted)
    (hm : p.intake.malformed q = none) (h : p.intake.route q.address = some ix)
    (ha : (p.intake.routes.get ix).access = .readWrite ∨ q.kind = 0x01#8)
    (hf : (p.stream (p.intake.routes.get ix).stream).state = .faulted) :
    p.verdict q = .faulted (p.intake.routes.get ix).stream := by
  obtain ⟨k, hcode⟩ := Intake.kind_of_wellFormed hm
  rw [Part.verdict_of_routed hs hm hcode h, if_neg, if_pos hf]
  rintro ⟨hk, hro⟩
  rcases ha with ha | ha
  · exact absurd (ha.symm.trans hro) (by decide)
  · exact hk (Option.some.inj (hcode.symm.trans ((ReqKind.ofCode_eq_some_iff q.kind .read).2 ha)))

/-! What follows the verdict (R6). -/

theorem Part.takeVerdict_restricted (p : Part) (q : HostRecord) : p.takeVerdict q .restricted =
    p.refuse q .restricted id (fun x => x.drop none) := rfl

theorem Part.takeVerdict_malformed (p : Part) (q : HostRecord) (reason : Nat) : p.takeVerdict q (.malformed reason) =
    p.refuse q .malformed (fun x => x.event .malformed none none (bytePair reason q.tag.toNat)) id := rfl

theorem Part.takeVerdict_unrouted (p : Part) (q : HostRecord) : p.takeVerdict q .unrouted =
    p.refuse q .unrouted (fun x => x.event .unrouted none none (bytePair 0 q.tag.toNat)) id := rfl

theorem Part.takeVerdict_denied (p : Part) (q : HostRecord) (ix : RouteIx) : p.takeVerdict q (.denied ix) =
    p.refuse q .denied (fun x => x.event .denied none none (bytePair ix.val q.tag.toNat)) id := rfl

theorem Part.takeVerdict_faulted (p : Part) (q : HostRecord) (n : StreamId) : p.takeVerdict q (.faulted n) =
    p.refuse q .pathLost id (fun x => x.drop (some n)) := rfl

theorem exec_intakeChecks {p r : Part} (w : List Instr) {q : HostRecord} {rest : List HostRecord} {v : Verdict}
    (hq : p.intake.queue = q :: rest) (hv : p.verdict q = v) (hr : p.takeVerdict q v = r) :
    exec .intakeChecks ⟨p, w⟩ = .next ⟨r.judgeQuiesce, w⟩ := by
  have h : p.examine = r.judgeQuiesce := by rw [← hr, Part.examine, hq, ← hv]
  exact congrArg (fun x => Host.Outcome.next (State.mk x w)) h

/-! ### A refusal's event and completion (R6) -/

/-- What a refusal adds to the log, and nothing else. -/
def Part.Notes (log : Part → Part) (f : EventLog → BitVec 32 → EventLog) : Prop :=
  ∀ x, log x = { x with log := f x.log x.timeCounter }

theorem Part.notes_id : Part.Notes id (fun g _ => g) := fun _ => rfl

theorem Part.notes_event (k : EventKind) (d : BitVec 16) :
    Part.Notes (fun x => x.event k none none d) (fun g t => g.take k none none d t) := fun _ => rfl

/-- The counter, the event and the completion of a refusal (R6, R159). -/
def Part.refused (p : Part) (q : HostRecord) (st : CompletionStatus) (log : Part → Part) : Part :=
  if expectsAnswer q then (log (p.raise (.part .requestsRefused))).answerHost q.tag st []
  else log (p.raise (.part .requestsRefused))

theorem Part.refuse_eq (p : Part) (q : HostRecord) (st : CompletionStatus) (log drop : Part → Part) :
    p.refuse q st log drop =
      ((if expectsAnswer q then p.leaveQueue else drop p.leaveQueue).flushForQuiesce.refused q st log).flushIfEmpty := rfl

theorem Part.refused_spec {p : Part} (h : p.unwatched) (q : HostRecord) (st : CompletionStatus) {log : Part → Part}
    {f : EventLog → BitVec 32 → EventLog} (hlog : Part.Notes log f) :
    (p.refused q st log).intake = p.intake ∧ (p.refused q st log).engine = p.engine ∧
      (p.refused q st log).lanes = p.lanes ∧ (p.refused q st log).now = p.now ∧
      (p.refused q st log).log = f p.log p.timeCounter ∧
      (p.refused q st log).completions =
        if q.kind = 0x02#8 then p.completions else p.completions ++ [⟨q.tag, st, []⟩] := by
  have htime : (p.raise (.part .requestsRefused)).timeCounter = p.timeCounter := by simp [Part.timeCounter]
  have hraise := hlog (p.raise (.part .requestsRefused))
  rw [Part.unwatched_raise h, htime] at hraise
  unfold Part.refused
  generalize log (p.raise (.part .requestsRefused)) = y at hraise ⊢
  have hintake : y.intake = p.intake := by rw [hraise]; exact p.raise_intake _
  have hengine : y.engine = p.engine := by rw [hraise]; exact p.raise_engine _
  have hlanes : y.lanes = p.lanes := by rw [hraise]; exact p.raise_lanes _
  have hnow : y.now = p.now := by rw [hraise]; exact p.raise_now _
  have hlogged : y.log = f p.log p.timeCounter := by rw [hraise]
  have hcompletions : y.completions = p.completions := by rw [hraise]; exact p.raise_completions _
  have hy : y.unwatched := h.of_params (by rw [hraise]; exact p.raise_params _)
  by_cases hk : q.kind = 0x02#8
  · rw [if_neg (by rw [(expectsAnswer_eq_false q).2 hk]; exact Bool.false_ne_true), if_pos hk]
    exact ⟨hintake, hengine, hlanes, hnow, hlogged, hcompletions⟩
  · rw [if_pos ((expectsAnswer_iff q).2 hk), if_neg hk, Part.answerHost_log_of_unwatched hy]
    refine ⟨by simpa using hintake, by simpa using hengine, by simpa using hlanes, ?_, hlogged, by simpa using hcompletions⟩
    rw [Part.answerHost, Part.raise_now]
    exact hnow

/-! ### The request leaves the queue (R3) -/

theorem Part.leaveQueue_intake (p : Part) : p.leaveQueue.intake = { p.intake with
    queue := p.intake.queue.tail
    headWaited := false
    credits := if p.intake.service.offersCredit = true ∧ p.intake.linkUp = true then p.intake.credits + 1
      else p.intake.credits } := by
  unfold Part.leaveQueue Intake.credit
  rw [Part.modIntake_intake]
  split <;> rfl

theorem Part.flushIfEmpty_of_none {p : Part} (h : p.intake.tally = none) : p.flushIfEmpty = p := by
  unfold Part.flushIfEmpty
  split
  · exact Part.flushTally_of_none h
  · rfl

/-! ### O8: the five refusals -/

/-- A refusal that no tally and no quiesce bears on (R3, R6). -/
theorem Part.refuse_spec {p : Part} (h : p.unwatched) (hs : p.intake.service = .running ∨ p.intake.service = .restricted)
    (hlink : p.intake.linkUp = true) (ht : p.intake.tally = none) (q : HostRecord) (st : CompletionStatus)
    {log drop : Part → Part} {f : EventLog → BitVec 32 → EventLog} (hlog : Part.Notes log f)
    (hd : q.kind ≠ 0x02#8 ∨ drop = id) :
    (p.refuse q st log drop).judgeQuiesce.intake.queue = p.intake.queue.tail ∧
      (p.refuse q st log drop).judgeQuiesce.intake.credits = p.intake.credits + 1 ∧
      (p.refuse q st log drop).judgeQuiesce.log = f p.log p.timeCounter ∧
      (p.refuse q st log drop).judgeQuiesce.completions =
        (if q.kind = 0x02#8 then p.completions else p.completions ++ [⟨q.tag, st, []⟩]) ∧
      (p.refuse q st log drop).judgeQuiesce.engine = p.engine ∧
      (p.refuse q st log drop).judgeQuiesce.lanes = p.lanes := by
  have hleft : (if expectsAnswer q then p.leaveQueue else drop p.leaveQueue) = p.leaveQueue := by
    rcases hd with hd | rfl
    · exact if_pos ((expectsAnswer_iff q).2 hd)
    · exact ite_self _
  have hoffers : p.intake.service.offersCredit = true := (ServiceState.offersCredit_iff _).2 hs
  have hservice : p.leaveQueue.intake.service ≠ .quiescing := by
    rw [p.leaveQueue_intake]
    rcases hs with hs | hs <;> rw [hs] <;> decide
  obtain ⟨hintake, hengine, hlanes, -, hlogged, hcompletions⟩ :=
    Part.refused_spec (p := p.leaveQueue) h q st hlog
  have hquiet : (p.leaveQueue.refused q st log).flushIfEmpty = p.leaveQueue.refused q st log :=
    Part.flushIfEmpty_of_none (by rw [hintake, p.leaveQueue_intake]; exact ht)
  rw [p.refuse_eq, hleft, p.leaveQueue.flushForQuiesce_of_not hservice, hquiet,
    Part.judgeQuiesce_of_service (by rw [hintake]; exact hservice), hintake, p.leaveQueue_intake,
    if_pos ⟨hoffers, hlink⟩]
  exact ⟨rfl, rfl, hlogged, hcompletions, hengine, hlanes⟩

/-- Settles O8, check by check. -/
theorem intakeRefuses : Obligations.IntakeRefuses := by
  intro p w q rest hu hq ht hlink st log hcase
  have hspec := fun hs {log drop} {f} hlog hd => Part.refuse_spec (log := log) (drop := drop) (f := f) hu hs hlink ht q st hlog hd
  rw [hq] at hspec
  rcases hcase with ⟨hs, rfl, rfl, hk⟩ | ⟨hs, reason, hm, rfl, rfl⟩ | ⟨hs, hm, hr, rfl, rfl⟩ |
    ⟨hs, hm, ix, hr, ha, hk, rfl, rfl⟩ | ⟨hs, hm, ix, hr, ha, hk, hf, rfl, rfl⟩
  · exact ⟨_, exec_intakeChecks w hq (Part.verdict_of_restricted q hs) (Part.takeVerdict_restricted p q), hspec (.inr hs) Part.notes_id (.inl hk)⟩
  · exact ⟨_, exec_intakeChecks w hq (Part.verdict_of_malformed (by rw [hs]; decide) hm) (Part.takeVerdict_malformed p q reason),
      hspec (.inl hs) (Part.notes_event _ _) (.inr rfl)⟩
  · exact ⟨_, exec_intakeChecks w hq (Part.verdict_of_unrouted (by rw [hs]; decide) hm hr) (Part.takeVerdict_unrouted p q),
      hspec (.inl hs) (Part.notes_event _ _) (.inr rfl)⟩
  · exact ⟨_, exec_intakeChecks w hq (Part.verdict_of_denied (by rw [hs]; decide) hm hr ha hk) (Part.takeVerdict_denied p q ix),
      hspec (.inl hs) (Part.notes_event _ _) (.inr rfl)⟩
  · exact ⟨_, exec_intakeChecks w hq (Part.verdict_of_faulted (by rw [hs]; decide) hm hr ha hf) (Part.takeVerdict_faulted p q _),
      hspec (.inl hs) Part.notes_id (.inl hk)⟩

/-! ### O9: the drop tally -/

/-- A drop under the key of the open tally, or with no tally open (R7). -/
theorem Part.drop_eq {p : Part} {key : Option StreamId} {k : Nat}
    (h : (p.intake.tally = none ∧ k = 0) ∨ p.intake.tally = some ⟨key, k⟩) :
    p.drop key = p.modIntake (fun i => { i with tally := some ⟨key, min 65535 (k + 1)⟩ }) := by
  unfold Part.drop
  rcases h with ⟨h, rfl⟩ | h
  · rw [h]; rfl
  · rw [h]; exact if_pos rfl

theorem Part.flushTally_log_of_open {p : Part} {t : Tally} (h : p.intake.tally = some t) (ht : t.count ≤ 65535) :
    p.flushTally.log = p.log.take .writesDropped none t.key (BitVec.ofNat 16 t.count) p.timeCounter := by
  rw [p.flushTally_log, h]
  dsimp only
  rw [sat16, Nat.min_eq_left ht]

/-- A refused WRITE that joins the tally, away from a quiesce (R7, R10, R171). -/
theorem Part.refuse_dropped {p : Part} (h : p.unwatched) (hs : p.intake.service ≠ .quiescing) {q : HostRecord}
    (hk : q.kind = 0x02#8) (st : CompletionStatus) {key : Option StreamId} {k : Nat}
    (ht : (p.intake.tally = none ∧ k = 0) ∨ p.intake.tally = some ⟨key, k⟩) :
    let r := (p.refuse q st id (fun x => x.drop key)).judgeQuiesce
    r.intake.queue = p.intake.queue.tail ∧ r.completions = p.completions ∧ r.engine = p.engine ∧
      (p.intake.queue.tail ≠ [] → r.intake.tally = some ⟨key, min 65535 (k + 1)⟩ ∧ r.log = p.log) ∧
      (p.intake.queue.tail = [] → r.intake.tally = none ∧
        r.log = p.log.take .writesDropped none key (BitVec.ofNat 16 (min 65535 (k + 1))) p.timeCounter) := by
  intro r
  have hdrop : p.leaveQueue.drop key = p.leaveQueue.modIntake (fun i => { i with tally := some ⟨key, min 65535 (k + 1)⟩ }) :=
    Part.drop_eq (by rw [p.leaveQueue_intake]; exact ht)
  have hle : min 65535 (k + 1) ≤ 65535 := Nat.min_le_left _ _
  generalize min 65535 (k + 1) = c at hdrop hle ⊢
  have hwrite : (if expectsAnswer q then p.leaveQueue else p.leaveQueue.drop key) = p.leaveQueue.drop key :=
    if_neg (by rw [(expectsAnswer_eq_false q).2 hk]; exact Bool.false_ne_true)
  generalize hd : p.leaveQueue.drop key = d at hdrop hwrite
  have hdintake : d.intake = { p.leaveQueue.intake with tally := some ⟨key, c⟩ } := by rw [hdrop]; rfl
  have hservice : d.intake.service ≠ .quiescing := by rw [hdintake, p.leaveQueue_intake]; exact hs
  have hqueue : d.intake.queue = p.intake.queue.tail := by rw [hdintake, p.leaveQueue_intake]
  have hdu : d.unwatched := h.of_params (by rw [hdrop]; rfl)
  obtain ⟨hintake, hengine, -, hnow, hlog, hcompletions⟩ := Part.refused_spec hdu q st Part.notes_id
  rw [if_pos hk] at hcompletions
  generalize hx : d.refused q st id = x at hintake hengine hnow hlog hcompletions
  have hr : r = x.flushIfEmpty.judgeQuiesce := by
    show (p.refuse q st id (fun x => x.drop key)).judgeQuiesce = _
    rw [p.refuse_eq, hd, hwrite, d.flushForQuiesce_of_not hservice, hx]
  have htally : x.intake.tally = some ⟨key, c⟩ := by rw [hintake, hdintake]
  have hxlog : x.log = p.log := by rw [hlog, hdrop]; rfl
  have htime : x.timeCounter = p.timeCounter := by
    unfold Part.timeCounter
    rw [hnow, hdrop]
    rfl
  have hxc : x.completions = p.completions := by rw [hcompletions, hdrop]; rfl
  have hxe : x.engine = p.engine := by rw [hengine, hdrop]; rfl
  have hxq : x.intake.queue = p.intake.queue.tail := by rw [hintake, hqueue]
  by_cases hrest : p.intake.queue.tail = []
  · have hflush : x.flushIfEmpty = x.flushTally := if_pos (hxq.trans hrest)
    rw [hflush, Part.judgeQuiesce_of_service (by rw [x.flushTally_intake, hintake]; exact hservice)] at hr
    rw [hr, x.flushTally_intake, x.flushTally_completions, x.flushTally_engine,
      Part.flushTally_log_of_open htally hle, hxlog, htime]
    exact ⟨hxq, hxc, hxe, fun hne => absurd hrest hne, fun _ => ⟨rfl, rfl⟩⟩
  · have hflush : x.flushIfEmpty = x := if_neg (by rw [hxq]; exact hrest)
    rw [hflush, Part.judgeQuiesce_of_service (by rw [hintake]; exact hservice)] at hr
    rw [hr]
    exact ⟨hxq, hxc, hxe, fun _ => ⟨htally, hxlog⟩, fun he => absurd he hrest⟩

/-- A refusal that completes a quiesce: the tally, the refusal's own event, QUIESCED (R7, R143; log entry 47). -/
theorem Part.refuse_quiesced {p : Part} (h : p.unwatched) (hs : p.intake.service = .quiescing) (q : HostRecord)
    (st : CompletionStatus) {log drop : Part → Part} {f : EventLog → BitVec 32 → EventLog} (hlog : Part.Notes log f)
    {d : Part} {t : Tally} (hd : (if expectsAnswer q then p.leaveQueue else drop p.leaveQueue) = d)
    (hintake : d.intake = { p.leaveQueue.intake with tally := some t }) (ht : t.count ≤ 65535)
    (hparams : d.params = p.params) (hnow : d.now = p.now) (hdlog : d.log = p.log) (hcompletions : d.completions = p.completions)
    (hholds : d.quiesceHolds = true) :
    let r := (p.refuse q st log drop).judgeQuiesce
    r.intake.service = .quiesced ∧ r.intake.tally = none ∧
      r.completions = (if q.kind = 0x02#8 then p.completions else p.completions ++ [⟨q.tag, st, []⟩]) ∧
      r.log = (f (p.log.take .writesDropped none t.key (BitVec.ofNat 16 t.count) p.timeCounter) p.timeCounter).take
        .quiesced none none (BitVec.ofNat 16 (min ((p.now - p.intake.quiesceAt) / 1000) 65535)) p.timeCounter := by
  intro r
  have hservice : d.intake.service = .quiescing := by rw [hintake, p.leaveQueue_intake]; exact hs
  have hflush : d.flushForQuiesce = d.flushTally := if_pos ⟨hservice, hholds⟩
  have hfu : d.flushTally.unwatched := h.of_params (d.flushTally_params.trans hparams)
  have htime : ∀ x : Part, x.now = p.now → x.timeCounter = p.timeCounter := fun x hx => congrArg (BitVec.ofNat 32) hx
  obtain ⟨hxintake, hxengine, -, hxnow, hxlog, hxc⟩ := Part.refused_spec hfu q st hlog
  generalize hx : d.flushTally.refused q st log = x at hxintake hxengine hxnow hxlog hxc
  rw [d.flushTally_intake] at hxintake
  rw [d.flushTally_now, hnow] at hxnow
  have hquiet : x.flushIfEmpty = x := Part.flushIfEmpty_of_none (by rw [hxintake])
  have hr : r = x.judgeQuiesce := by
    show (p.refuse q st log drop).judgeQuiesce = _
    rw [p.refuse_eq, hd, hflush, hx, hquiet]
  have hxholds : x.quiesceHolds = true := by
    rw [Part.quiesceHolds_iff] at hholds ⊢
    obtain ⟨hqueue, hempty⟩ := hholds
    refine ⟨by rw [hxintake]; exact hqueue, fun n => ?_⟩
    unfold Part.stream
    rw [hxengine, d.flushTally_engine]
    exact hempty n
  obtain ⟨hjintake, -, -, hjc, hjlog⟩ :=
    Part.judgeQuiesce_of_holds (p := x) (by rw [hxintake]; exact hservice) hxholds
  have hat : d.intake.quiesceAt = p.intake.quiesceAt := by rw [hintake, p.leaveQueue_intake]
  rw [hr, hjintake, hjc, hjlog, hxc, d.flushTally_completions, hcompletions,
    Part.flushTally_of_none (by rw [hxintake]), hxlog, htime d.flushTally (d.flushTally_now.trans hnow), htime x hxnow,
    Part.flushTally_log_of_open (by rw [hintake]) ht, hdlog, htime d hnow, hxnow, hxintake, hat]
  exact ⟨rfl, rfl, rfl, rfl⟩

/-- Settles O9: the refusal that completes a quiesce, and the drops away from one. -/
theorem droppedWritesAreTallied : Obligations.DroppedWritesAreTallied := by
  refine ⟨fun p w q t quiesced hu hq hs ht hcount hempty hquiesced => ⟨fun reason hm => ?_,
    fun ix hm hk hr ha hkey hf => ?_⟩, fun p w q rest key hu hq hk hcase k ht => ?_⟩
  · have hleft : (if expectsAnswer q then p.leaveQueue else id p.leaveQueue) = p.leaveQueue := ite_self _
    obtain ⟨hservice, htally, -, hlog⟩ := Part.refuse_quiesced hu hs q .malformed
      (Part.notes_event .malformed (bytePair reason q.tag.toNat)) (t := t) hleft
      (by rw [← ht, p.leaveQueue_intake]) hcount rfl rfl rfl rfl
      ((Part.quiesceHolds_iff _).2 ⟨by rw [p.leaveQueue_intake, hq]; rfl, hempty⟩)
    exact ⟨_, exec_intakeChecks w hq (Part.verdict_of_malformed (by rw [hs]; decide) hm) (Part.takeVerdict_malformed p q reason), hservice, htally,
      hlog.trans (hquiesced _).symm⟩
  · have hwrite : (if expectsAnswer q then p.leaveQueue else p.leaveQueue.drop t.key) = p.leaveQueue.drop t.key :=
      if_neg (by rw [(expectsAnswer_eq_false q).2 hk]; exact Bool.false_ne_true)
    have hdrop : p.leaveQueue.drop t.key =
        p.leaveQueue.modIntake (fun i => { i with tally := some ⟨t.key, min 65535 (t.count + 1)⟩ }) :=
      Part.drop_eq (.inr (by rw [p.leaveQueue_intake]; exact ht))
    obtain ⟨hservice, htally, hcompletions, hlog⟩ := Part.refuse_quiesced hu hs q .pathLost Part.notes_id
      (drop := fun x => x.drop t.key) (t := ⟨t.key, min 65535 (t.count + 1)⟩) (hwrite.trans hdrop) rfl (Nat.min_le_left _ _)
      rfl rfl rfl rfl ((Part.quiesceHolds_iff _).2 ⟨by rw [Part.modIntake_intake, p.leaveQueue_intake, hq]; rfl, hempty⟩)
    rw [if_pos hk] at hcompletions
    rw [hkey] at hservice htally hcompletions hlog ⊢
    exact ⟨_, exec_intakeChecks w hq (Part.verdict_of_faulted (by rw [hs]; decide) hm hr (.inl ha) hf) (Part.takeVerdict_faulted p q _), hservice, htally,
      hcompletions, hlog.trans (hquiesced _).symm⟩
  · rcases hcase with ⟨hs, rfl⟩ | ⟨hs, hm, ix, hr, ha, rfl, hf⟩
    · have hspec := Part.refuse_dropped hu (by rw [hs]; decide) hk .restricted ht
      rw [hq] at hspec
      exact ⟨_, exec_intakeChecks w hq (Part.verdict_of_restricted q hs) (Part.takeVerdict_restricted p q), hspec⟩
    · have hspec := Part.refuse_dropped hu (by rw [hs]; decide) hk .pathLost ht
      rw [hq] at hspec
      exact ⟨_, exec_intakeChecks w hq (Part.verdict_of_faulted (by rw [hs]; decide) hm hr (.inl ha) hf) (Part.takeVerdict_faulted p q _), hspec⟩

end Sys2Proof.Machine
end

section
/-! Departures: a REQUEST and its deadline (O12), and what else a departure does (O13). -/

namespace Sys2Proof.Machine

/-! ### A REQUEST leaves (R22, R169) -/

theorem LaneRec.departing_of_unpaused {r : LaneRec} (hoff : r.state ≠ .off) (hpause : r.timers.pause = none) {f : Frame}
    {rest : List Frame} (hq : r.queue = f :: rest) : r.departing = some (f, rest) := by
  unfold LaneRec.departing LaneRec.canSend
  rw [hpause, hq, if_pos (by simp [hoff])]
  rfl

/-- The part after an entry's frame has left and been noted, before what follows (R22). -/
def Part.requestSent (p : Part) (l : Lane) (f : Frame) (rest : List Frame) (e : OttEntry) : Part :=
  (p.emit l (p.filled f e) rest).noteSent l f.header.stream f.header.seq f.header.epoch

theorem Part.depart_request {p : Part} {l : Lane} {f : Frame} {rest : List Frame}
    (hd : (p.lane l).departing = some (f, rest)) (hk : f.kind = .request) {e : OttEntry}
    (he : (p.stream f.header.stream).entryAt f.header.seq = some e) (reads : List BlockCheck) {q : Part}
    (hq : p.readBlocks e.blocks reads = q) {e' : OttEntry} (he' : (q.stream f.header.stream).entryAt f.header.seq = some e') :
    p.depart l reads = ((q.requestSent l f rest e').judgeReplay f.header.stream).settle := by
  unfold Part.depart
  rw [hd]
  dsimp only
  rw [hk]
  dsimp only
  unfold Part.departRequest
  dsimp only
  rw [he]
  dsimp only
  rw [hq, he', Option.getD_some]
  rfl

theorem Part.readBlocks_nil (p : Part) (bs : List BlockIx) : p.readBlocks bs [] = p := by
  unfold Part.readBlocks
  split
  · rfl
  · cases bs <;> rfl

/-- The entry of a frame that has left, its deadline armed (R22, R37). -/
theorem Part.requestSent_stream_self (p : Part) {l : Lane} (hloop : (p.lane l).loopback = false) (f : Frame)
    (rest : List Frame) (e : OttEntry) : (p.requestSent l f rest e).stream f.header.stream =
      { p.stream f.header.stream with inflight := (p.stream f.header.stream).inflight.map (fun x =>
          if x.seq = f.header.seq then x.sent p.now (p.armed l f.header.stream f.header.epoch x) else x) } := by
  have harmed : ∀ x, (p.emit l (p.filled f e) rest).armed l f.header.stream f.header.epoch x =
      p.armed l f.header.stream f.header.epoch x := fun x => by
    unfold Part.armed
    rw [p.emit_stream, p.emit_now, p.emit_params, Part.emit_lane_self hloop]
  unfold Part.requestSent Part.noteSent
  rw [Part.modStream_stream_self, p.emit_stream, p.emit_now]
  simp only [harmed]

theorem Part.requestSent_stream_of_ne (p : Part) (l : Lane) {f : Frame} (rest : List Frame) (e : OttEntry) {m : StreamId}
    (h : m ≠ f.header.stream) : (p.requestSent l f rest e).stream m = p.stream m := by
  rw [Part.requestSent, Part.noteSent, Part.modStream_stream_of_ne _ h, p.emit_stream]

theorem Part.requestSent_lane_self (p : Part) {l : Lane} (hloop : (p.lane l).loopback = false) (f : Frame)
    (rest : List Frame) (e : OttEntry) : (p.requestSent l f rest e).lane l = { p.lane l with
      queue := rest, cable := (p.lane l).cable ++ [p.filled f e],
      timers := { (p.lane l).timers with
        beat := if (p.lane l).state.isUp then some (p.now + p.params.beatUs) else (p.lane l).timers.beat } } :=
  Part.emit_lane_self hloop _ _

theorem Part.requestSent_lane_of_ne (p : Part) {l m : Lane} (h : m ≠ l) (f : Frame) (rest : List Frame) (e : OttEntry) :
    (p.requestSent l f rest e).lane m = p.lane m := p.emit_lane_of_ne h _ _

theorem Part.requestSent_completions (p : Part) (l : Lane) (f : Frame) (rest : List Frame) (e : OttEntry) :
    (p.requestSent l f rest e).completions = p.completions := p.emit_completions l _ rest
theorem Part.requestSent_intake (p : Part) (l : Lane) (f : Frame) (rest : List Frame) (e : OttEntry) :
    (p.requestSent l f rest e).intake = p.intake := p.emit_intake l _ rest
theorem Part.requestSent_now (p : Part) (l : Lane) (f : Frame) (rest : List Frame) (e : OttEntry) :
    (p.requestSent l f rest e).now = p.now := p.emit_now l _ rest
theorem Part.requestSent_params (p : Part) (l : Lane) (f : Frame) (rest : List Frame) (e : OttEntry) :
    (p.requestSent l f rest e).params = p.params := p.emit_params l _ rest
theorem Part.requestSent_buffer (p : Part) (l : Lane) (f : Frame) (rest : List Frame) (e : OttEntry) :
    (p.requestSent l f rest e).engine.buffer = p.engine.buffer := 
  (Part.streamsOnly_modStream _ _ _).buffer.trans (congrArg (fun g : Engine => g.buffer) (p.emit_engine l (p.filled f e) rest))
theorem Part.requestSent_log {p : Part} (h : p.unwatched) (l : Lane) (f : Frame) (rest : List Frame) (e : OttEntry) :
    (p.requestSent l f rest e).log = p.log := (p.emit_log l _ rest).trans (Part.unwatched_raise h _)

theorem Part.requestSent_settled {p : Part} (h : p.settled) {l : Lane} (hloop : (p.lane l).loopback = false) (f : Frame)
    (rest : List Frame) (e : OttEntry) : (p.requestSent l f rest e).settled := by
  obtain ⟨hrestart, hservice⟩ := h
  refine ⟨fun m => ?_, by rw [p.requestSent_intake]; exact hservice⟩
  by_cases hm : m = l
  · rw [hm, p.requestSent_lane_self hloop]; exact hrestart l
  · rw [p.requestSent_lane_of_ne hm]; exact hrestart m

/-- A stream that is not REPLAYING has no binding to end (R122). -/
theorem Part.judgeReplay_of_not {p : Part} {n : StreamId} (h : (p.stream n).state ≠ .replaying) : p.judgeReplay n = p := by
  unfold Part.judgeReplay
  split
  · rfl
  · exact if_neg fun c => h c.1

theorem exec_frameDeparture (p : Part) (w : List Instr) {l : Lane} {reads : List BlockCheck} {q : Part} (h : p.depart l reads = q) :
    exec (.frameDeparture l reads) ⟨p, w⟩ = .next ⟨q, w⟩ := congrArg (fun x => Host.Outcome.next (State.mk x w)) h

/-- An entry after its frame has left, its deadline the time and the clamped interval (R22, R37, R100). -/
theorem OttEntry.sent_armed (p : Part) (l : Lane) (n : StreamId) (x : OttEntry) :
    x.sent p.now (p.armed l n (p.stream n).epoch x) =
      { x with
        phase := .sent
        transmitTime := some p.now
        deadline := some (p.now + p.params.deadlineInterval (p.lane l).latency
          (if x.kind = .swap then 1 else (x.length + 63) / 64))
        fate := { x.fate with transmitted := true } } := by
  have hblocks : x.kind.deadlineBlocks x.length = if x.kind = .swap then 1 else (x.length + 63) / 64 := by
    cases x.kind <;> rfl
  rw [Part.armed, if_pos rfl, hblocks]
  rfl

/-- Settles O12. -/
theorem requestDeparts : Obligations.RequestDeparts := by
  intro p w l f rest e hoff hloop hpause hqueue hk he hepoch hs hsettled
  have hstream := p.requestSent_stream_self hloop f rest e
  have hsent := Part.requestSent_settled hsettled hloop f rest e
  have hdepart : p.depart l [] = p.requestSent l f rest e := by
    rw [Part.depart_request (LaneRec.departing_of_unpaused hoff hpause hqueue) hk he [] (p.readBlocks_nil _) he,
      Part.judgeReplay_of_not (by rw [hstream, hs]; exact (by decide : StreamState.bound ≠ .replaying)),
      Part.settle_of_settled hsent]
  refine ⟨_, exec_frameDeparture p w hdepart, ?_, ?_, ?_, p.requestSent_completions _ _ _ _, p.requestSent_intake _ _ _ _,
    fun m hm => p.requestSent_stream_of_ne l rest e hm, fun m hm => p.requestSent_lane_of_ne hm _ _ _⟩
  · rw [p.requestSent_lane_self hloop]
  · rw [p.requestSent_lane_self hloop]; rfl
  · rw [hstream, hepoch]
    simp only [OttEntry.sent_armed]
    rfl

/-! ### The last replayed REQUEST (R122, R139) -/

theorem LaneRec.holdsRequest_iff (r : LaneRec) (n : StreamId) :
    r.holdsRequest n = true ↔ ∃ g ∈ r.queue, g.kind = .request ∧ g.header.stream = n := by
  simp [LaneRec.holdsRequest]

/-- What the departure of a REPLAYING stream's frame can bring (R122, R139). -/
theorem Part.judgeReplay_eq {p : Part} {n : StreamId} {l : Lane} (hs : (p.stream n).state = .replaying)
    (hc : (p.stream n).carrier = some l) :
    p.judgeReplay n = if (p.lane l).holdsRequest n = false then p.endBinding n else p := by
  unfold Part.judgeReplay
  rw [hc, hs]
  simp

/-- The part in which a binding has ended, before what follows an entry to BOUND (R122, R139). -/
def Part.landed (p : Part) (n : StreamId) : Part :=
  match (p.stream n).move with
  | none => p.modStream n StreamRec.bound
  | some m => (p.modStream n (fun r => { r.bound with move := none })).event .moveDone (p.stream n).carrier (some n)
    (bytePair (laneByteOf m.target) (laneByteOf (p.stream n).carrier))

theorem Part.endBinding_bound {p : Part} {n : StreamId}
    (h : (p.stream n).move = none ∨ ∃ m, (p.stream n).move = some m ∧ m.drain = .absent) :
    p.endBinding n = (p.landed n).afterBound n := by
  unfold Part.endBinding Part.landed
  rcases h with h | ⟨m, h, hd⟩
  · rw [h]
  · rw [h]
    exact if_pos hd

theorem Part.endBinding_drains {p : Part} {n : StreamId} {m : Move} (h : (p.stream n).move = some m)
    (hd : m.drain ≠ .absent) (hi : (p.stream n).inflight ≠ []) :
    p.endBinding n = p.modStream n (fun r =>
      { r.bound with state := .draining, move := some { m with drain := m.drain.resume p.now } }) := by
  unfold Part.endBinding
  rw [h]
  dsimp only
  rw [if_neg hd, Part.resumeDrain, Part.judgeDrain, Part.modStream_stream_self]
  exact if_neg fun c => hi c.2

theorem Part.streamsOnly_landed (p : Part) (n : StreamId) : p.StreamsOnly (p.landed n) := by
  unfold Part.landed
  split
  · exact Part.streamsOnly_modStream p n _
  · exact (Part.streamsOnly_modStream p n _).trans (Part.streamsOnly_event _ _ _ _ _)

theorem Part.landed_stream_self (p : Part) (n : StreamId) :
    (p.landed n).stream n = { (p.stream n).bound with move := none } := by
  unfold Part.landed
  split
  · next h =>
    rw [Part.modStream_stream_self]
    rw [← h]
    rfl
  · rw [Part.event_stream, Part.modStream_stream_self]

theorem Part.landed_lanes (p : Part) (n : StreamId) : (p.landed n).lanes = p.lanes := by
  unfold Part.landed
  split <;> rfl

theorem Part.landed_log {p : Part} {n : StreamId} {l : Lane} (hc : (p.stream n).carrier = some l) :
    (p.landed n).log = match (p.stream n).move with
      | none => p.log
      | some m => p.log.take .moveDone (some l) (some n)
          (bytePair (match m.target with | some g => g.code | none => 255) l.code) p.timeCounter := by
  unfold Part.landed
  rw [hc]
  split <;> rfl

/-- A binding that ends with no drain to resume: the stream is BOUND and dispatches what it held (R27, R122, R139). -/
theorem Part.endBinding_spec {p : Part} {n : StreamId} {l : Lane} (hc : (p.stream n).carrier = some l)
    (hl : (p.lane l).leaving = false)
    (h : (p.stream n).move = none ∨ ∃ m, (p.stream n).move = some m ∧ m.drain = .absent) :
    (p.landed n).Resumed (p.endBinding n) n := by
  rw [Part.endBinding_bound h]
  refine Part.afterBound_resumed (l := l) (by rw [p.landed_stream_self]; rfl) (by rw [p.landed_stream_self]; exact hc) ?_
  rw [Part.lane, p.landed_lanes]
  exact hl

theorem lastReplayed_spec (p : Part) (w : List Instr) (l : Lane) (f : Frame) (rest : List Frame) (n : StreamId)
    (hoff : (p.lane l).state ≠ .off) (hloop : (p.lane l).loopback = false) (hpause : (p.lane l).timers.pause = none)
    (hqueue : (p.lane l).queue = f :: rest) (hn : f.header.stream = n) (e : OttEntry) (hk : f.kind = .request)
    (he : (p.stream n).entryAt f.header.seq = some e) (hepoch : f.header.epoch = (p.stream n).epoch)
    (hc : (p.stream n).carrier = some l) (hs : (p.stream n).state = .replaying) (hsettled : p.settled)
    (hl : (p.lane l).leaving = false) :
      ∃ p', exec (.frameDeparture l []) ⟨p, w⟩ = .next ⟨p', w⟩ ∧ p'.completions = p.completions ∧
        (p'.stream n).carrier = some l ∧ (p'.stream n).epoch = (p.stream n).epoch ∧
        (p'.lane l).cable.length = (p.lane l).cable.length + 1 ∧
        ((∃ g ∈ rest, g.kind = .request ∧ g.header.stream = n) →
          (p'.stream n).state = .replaying ∧ (p'.stream n).move = (p.stream n).move) ∧
        ((∀ g ∈ rest, ¬(g.kind = .request ∧ g.header.stream = n)) →
          (p'.stream n).askAttempts = 0 ∧ (∀ m, (p'.stream n).tried.has m = false) ∧
          (p'.stream n).stallDeadline = none ∧
          (((p.stream n).move = none ∨ ∃ m, (p.stream n).move = some m ∧ m.drain = .absent) →
            (p'.stream n).state = .bound ∧ (p'.stream n).move = none ∧
            StreamRec.dispatchedTo
              { p.stream n with inflight := (p.stream n).inflight.map (fun x =>
                  if x.seq = f.header.seq then
                    { x with phase := .sent, transmitTime := some p.now,
                             deadline := some (p.now + p.params.deadlineInterval (p.lane l).latency
                               (if x.kind = .swap then 1 else (x.length + 63) / 64)),
                             fate := { x.fate with transmitted := true } }
                  else x) } (p'.stream n) ∧
            ((p.stream n).hold.length ≤ 64 → p'.dispatchStops n) ∧
            (p.unwatched → p'.log = match (p.stream n).move with
              | none => p.log
              | some m => p.log.take .moveDone (some l) (some n)
                  (bytePair (match m.target with | some g => g.code | none => 255) l.code) p.timeCounter)) ∧
          ∀ m t, (p.stream n).move = some m → m.drain = .stopped t →
            (p'.stream n).state = .draining ∧ (p'.stream n).move = some { m with drain := .running (p.now + t) } ∧
            (p'.stream n).hold = (p.stream n).hold) := by
  subst hn
  have hstream := p.requestSent_stream_self hloop f rest e
  have hlane := p.requestSent_lane_self hloop f rest e
  have hnow := p.requestSent_now l f rest e
  have hcompletions := p.requestSent_completions l f rest e
  have hsent := Part.requestSent_settled hsettled hloop f rest e
  have hparams := p.requestSent_params l f rest e
  have hlog := fun hu : p.unwatched => Part.requestSent_log hu l f rest e
  have hdepart := Part.depart_request (LaneRec.departing_of_unpaused hoff hpause hqueue) hk he [] (p.readBlocks_nil _) he
  rw [hepoch] at hstream
  simp only [OttEntry.sent_armed] at hstream
  generalize p.requestSent l f rest e = x at *
  generalize f.header.stream = n at *
  have hxs : (x.stream n).state = .replaying := by rw [hstream]; exact hs
  have hxc : (x.stream n).carrier = some l := by rw [hstream]; exact hc
  have hxm : (x.stream n).move = (p.stream n).move := by rw [hstream]
  rw [Part.judgeReplay_eq hxs hxc] at hdepart
  have hcable : (x.lane l).cable.length = (p.lane l).cable.length + 1 := by rw [hlane]; simp
  by_cases hrest : ∃ g ∈ rest, g.kind = .request ∧ g.header.stream = n
  · have hholds : (x.lane l).holdsRequest n = true := (LaneRec.holdsRequest_iff _ _).2 (by rw [hlane]; exact hrest)
    rw [hholds, if_neg (by decide), Part.settle_of_settled hsent] at hdepart
    obtain ⟨g, hg, hgn⟩ := hrest
    exact ⟨_, exec_frameDeparture p w hdepart, hcompletions, hxc, by rw [hstream], hcable, fun _ => ⟨hxs, hxm⟩,
      fun hno => absurd hgn (hno g hg)⟩
  · have hholds : (x.lane l).holdsRequest n = false := by
      rw [← Bool.not_eq_true, LaneRec.holdsRequest_iff, hlane]
      exact hrest
    have hxi : (x.stream n).inflight ≠ [] := by
      have hne : (p.stream n).inflight ≠ [] := List.ne_nil_of_mem (List.mem_of_find?_eq_some he)
      rw [hstream]
      simpa using hne
    rw [hholds, if_pos rfl] at hdepart
    by_cases hmove : (p.stream n).move = none ∨ ∃ m, (p.stream n).move = some m ∧ m.drain = .absent
    · have hresumed := Part.endBinding_spec (p := x) hxc (by rw [hlane]; exact hl) (by rw [hxm]; exact hmove)
      have honly := (x.streamsOnly_landed n).trans hresumed.only
      rw [Part.settle_of_settled (hsent.streamsOnly honly)] at hdepart
      obtain ⟨r, hdisp, hself⟩ := hresumed.stream
      rw [x.landed_stream_self] at hdisp
      have hfields := hdisp.rest
      refine ⟨_, exec_frameDeparture p w hdepart, honly.completions.trans hcompletions, by rw [hself, hfields]; exact hxc,
        by rw [hself, hfields, hstream]; rfl, by rw [honly.lane l]; exact hcable, fun h => absurd h hrest,
        fun _ => ⟨by rw [hself, hfields]; rfl, fun m => by rw [hself, hfields]; exact LaneSet.empty_has m,
          by rw [hself, hfields]; rfl, fun _ => ⟨by rw [hself, hfields]; rfl, by rw [hself, hfields], ?_, fun hlen => ?_,
            fun hu => ?_⟩, fun m t hm hd => ?_⟩⟩
      · rw [hself]
        rw [hstream] at hdisp
        exact hdisp.dispatched
      · exact hresumed.stops (by rw [x.landed_stream_self, hstream]; exact hlen)
      · have hxu : x.unwatched := hu.of_params hparams
        rw [hresumed.log (.inl (Part.unwatched.of_params hxu (x.streamsOnly_landed n).params)), Part.landed_log hxc, hxm, hlog hu,
          show x.timeCounter = p.timeCounter from congrArg (BitVec.ofNat 32) hnow]
      · rcases hmove with hno | ⟨m', hm', hd'⟩
        · rw [hno] at hm; exact absurd hm (by simp)
        · rw [hm', Option.some.injEq] at hm
          rw [← hm, hd'] at hd
          exact absurd hd (by simp)
    · obtain ⟨m, hm⟩ : ∃ m, (p.stream n).move = some m := Option.ne_none_iff_exists'.1 fun h => hmove (.inl h)
      have hdrain : m.drain ≠ .absent := fun h => hmove (.inr ⟨m, hm, h⟩)
      rw [Part.endBinding_drains (hxm.trans hm) hdrain hxi] at hdepart
      have honly := Part.streamsOnly_modStream x n (fun r =>
        { r.bound with state := .draining, move := some { m with drain := m.drain.resume x.now } })
      rw [Part.settle_of_settled (hsent.streamsOnly honly)] at hdepart
      have hself := x.modStream_stream_self n (fun r =>
        { r.bound with state := .draining, move := some { m with drain := m.drain.resume x.now } })
      refine ⟨_, exec_frameDeparture p w hdepart, honly.completions.trans hcompletions, by rw [hself]; exact hxc,
        by rw [hself, hstream]; rfl, hcable, fun h => absurd h hrest, fun _ => ⟨by rw [hself]; rfl,
          fun m => by rw [hself]; exact LaneSet.empty_has m, by rw [hself]; rfl, fun h => absurd h hmove, fun m' t hm' hd => ?_⟩⟩
      rw [hm, Option.some.injEq] at hm'
      subst hm'
      rw [hself, hd, hnow]
      exact ⟨rfl, rfl, by rw [hstream]; rfl⟩

/-! ### An ASK and a TEST frame leave (R76, R116, R164) -/

theorem Part.depart_ask {p : Part} {l : Lane} {f : Frame} {rest : List Frame}
    (hd : (p.lane l).departing = some (f, rest)) (hk : f.kind = .ask) (reads : List BlockCheck) :
    p.depart l reads = p.departAsk l f rest := by
  unfold Part.depart
  rw [hd]
  dsimp only
  rw [hk]

theorem Part.depart_test {p : Part} {l : Lane} {f : Frame} {rest : List Frame}
    (hd : (p.lane l).departing = some (f, rest)) (hk : f.kind = .test) (reads : List BlockCheck) :
    p.depart l reads = p.departTest l f rest := by
  unfold Part.depart
  rw [hd]
  dsimp only
  rw [hk]

theorem Part.departAsk_stream_self (p : Part) (l : Lane) (f : Frame) (rest : List Frame) :
    (p.departAsk l f rest).stream f.header.stream = { p.stream f.header.stream with
      askTimer := if (p.stream f.header.stream).state = .binding ∧ (p.stream f.header.stream).epoch = f.header.epoch then
        some (p.now + 5000) else (p.stream f.header.stream).askTimer } := by
  rw [Part.departAsk, Part.modStream_stream_self, p.emit_stream]
  split <;> rfl

theorem LaneRec.testSent_of_owned {r : LaneRec} {b : Burst} {f : Frame} (hb : r.checker = some b) (ho : b.ownsTest f = true)
    (now : Micros) : r.testSent now f = { r with
      checker := some { b with sent := b.sent + 1 }
      timers := { r.timers with
        qualify := if b.sent + 1 = b.length then some (now + 20000) else r.timers.qualify } } := by
  unfold LaneRec.testSent
  rw [hb]
  exact if_pos ho

/-! ### A block that fails at the departure's own read (R168, R169) -/

theorem Part.poison_entry_stream {p : Part} {i : EntryIx} {e : OttEntry} (h : p.findEntry i = some e) (he : e.poisoned = false) :
    (p.poison (.entry i)).stream e.stream = { p.stream e.stream with inflight := (p.stream e.stream).inflight.map (fun x =>
      if x.index = i then { x with poisoned := true } else x) } := by
  have hpoison : p.poison (.entry i) = (p.modStream e.stream (fun r =>
      { r with inflight := r.inflight.map (fun x => if x.index = i then { x with poisoned := true } else x) })).event
      .poisoned none (some e.stream) (e.seq.setWidth 16) := by
    simp [Part.poison, h, he]
  rw [hpoison, Part.event_stream, Part.modStream_stream_self]

/-- The poison mark of an entry is found with it (R21, R168). -/
theorem StreamRec.entryAt_poisoned {r : StreamRec} {s : Seq} {e : OttEntry} (h : r.entryAt s = some e) :
    StreamRec.entryAt { r with inflight := r.inflight.map (fun x => if x.index = e.index then { x with poisoned := true } else x) } s =
      some { e with poisoned := true } := by
  unfold StreamRec.entryAt at h ⊢
  have hseq : (fun y : OttEntry => y.seq == s) ∘ (fun x : OttEntry => if x.index = e.index then { x with poisoned := true } else x) =
      fun x => x.seq == s := by
    funext x
    rw [Function.comp_apply]
    split <;> rfl
  rw [List.find?_map, hseq, h, Option.map_some, if_pos rfl]

theorem Part.readBlocks_first {p : Part} (h : p.intake.service ≠ .init) (b : BlockIx) (bs : List BlockIx) (c : BlockCheck) :
    p.readBlocks (b :: bs) [c] = p.checkBlock b c := by
  have hnone : ∀ q : Part, q.checkBlocks bs [] = q := fun q => by cases bs <;> rfl
  rw [Part.readBlocks, if_neg h, Part.checkBlocks, hnone]

theorem poisonedDeparture_spec (p : Part) (w : List Instr) (l : Lane) (f : Frame) (rest : List Frame) (n : StreamId)
    (hoff : (p.lane l).state ≠ .off) (hloop : (p.lane l).loopback = false) (hpause : (p.lane l).timers.pause = none)
    (hqueue : (p.lane l).queue = f :: rest) (hn : f.header.stream = n) (e : OttEntry) (b : BlockIx) (bs : List BlockIx)
    (asRead : List Byte) (hk : f.kind = .request) (he : (p.stream n).entryAt f.header.seq = some e) (hen : e.stream = n)
    (hs : (p.stream n).state = .bound) (hsettled : p.settled) (hu : p.unwatched) (hservice : p.intake.service ≠ .init)
    (hwf : p.engine.buffer.wf = true) (hblocks : e.blocks = b :: bs) (hlen : asRead.length = 64)
    (hown : p.engine.owners.get b = some (.entry e.index)) (hfind : p.findEntry e.index = some e) (hpoison : e.poisoned = false) :
      ∃ p', exec (.frameDeparture l [.uncorrectable asRead]) ⟨p, w⟩ = .next ⟨p', w⟩ ∧ (p'.lane l).queue = rest ∧
        p'.engine.buffer.block b = asRead ∧ (∀ c, c ≠ b → p'.engine.buffer.block c = p.engine.buffer.block c) ∧
        (p'.lane l).cable = (p.lane l).cable ++ [{ f with
          header := { f.header with poison := true },
          payload := p'.engine.buffer.load e.blocks (e.kind.payloadBytes e.length) }] ∧
        (∃ x ∈ (p'.stream n).inflight, x.index = e.index ∧ x.poisoned = true ∧ x.phase = .sent) ∧
        p'.log = p.log.take .poisoned none (some n) (e.seq.setWidth 16) p.timeCounter ∧
        p'.completions = p.completions := by
  subst hn
  obtain ⟨hintake, hlanes, hcompletions, hbuffer⟩ := p.checkBlock_spec b asRead
  have hread := Part.readBlocks_first hservice b bs (.uncorrectable asRead)
  have hcheck := Part.checkBlock_of_owner hown asRead
  have hfind' : (p.writeBlock b asRead).findEntry e.index = some e := (p.writeBlock_findEntry b asRead _).trans hfind
  have hlog := (Part.poison_entry hfind' hpoison).2
  have hrec := Part.poison_entry_stream hfind' hpoison
  have honly := (p.writeBlock b asRead).streamsOnly_poison (.entry e.index)
  have hparams : (p.checkBlock b (.uncorrectable asRead)).params = p.params := by rw [hcheck]; exact honly.params
  rw [← hcheck, hen] at hlog hrec
  rw [p.writeBlock_stream] at hrec
  rw [p.writeBlock_log, p.writeBlock_timeCounter] at hlog
  rw [hown, if_neg (by simp)] at hbuffer
  rw [← hblocks] at hread
  generalize p.checkBlock b (.uncorrectable asRead) = q at *
  have hat : (q.stream f.header.stream).entryAt f.header.seq = some { e with poisoned := true } := by
    rw [hrec]
    exact StreamRec.entryAt_poisoned he
  have hlane : q.lane l = p.lane l := congrArg (fun v => v.get l) hlanes
  have hqsettled : q.settled := ⟨fun m => by rw [Part.lane, hlanes]; exact hsettled.1 m, by rw [hintake]; exact hsettled.2⟩
  have hqloop : (q.lane l).loopback = false := by rw [hlane]; exact hloop
  have hdepart := Part.depart_request (LaneRec.departing_of_unpaused hoff hpause hqueue) hk he _ hread hat
  have hstream := q.requestSent_stream_self hqloop f rest { e with poisoned := true }
  rw [Part.judgeReplay_of_not (by rw [hstream, hrec, hs]; exact (by decide : StreamState.bound ≠ .replaying)),
    Part.settle_of_settled (Part.requestSent_settled hqsettled hqloop f rest _)] at hdepart
  have hxbuffer := q.requestSent_buffer l f rest { e with poisoned := true }
  refine ⟨_, exec_frameDeparture p w hdepart, ?_, ?_, fun c hcb => ?_, ?_, ?_,
    (Part.requestSent_log (hu.of_params hparams) _ _ _ _).trans hlog, (q.requestSent_completions _ _ _ _).trans hcompletions⟩
  · rw [q.requestSent_lane_self hqloop]
  · rw [hxbuffer, hbuffer]
    exact Memory.block_setBlock_self hwf b hlen
  · rw [hxbuffer, hbuffer]
    exact Memory.block_setBlock_of_ne hwf hcb _
  · rw [hxbuffer, q.requestSent_lane_self hqloop, hlane]
    rfl
  · have hmem := List.mem_of_find?_eq_some hat
    have hseq : e.seq = f.header.seq := by simpa using List.find?_some hat
    rw [hstream]
    exact ⟨_, List.mem_map_of_mem hmem, by rw [if_pos hseq]; exact ⟨rfl, rfl, rfl⟩⟩

/-- Settles O13, departure by departure. -/
theorem departuresAct : Obligations.DeparturesAct := by
  intro p w l f rest n hoff hloop hpause hqueue hn
  have hdeparting := LaneRec.departing_of_unpaused hoff hpause hqueue
  refine ⟨fun e hk he hepoch hc hs hsettled hl =>
      lastReplayed_spec p w l f rest n hoff hloop hpause hqueue hn e hk he hepoch hc hs hsettled hl,
    fun hk => ?ask, fun b hk hreflect hb howner => ?test,
    fun e b bs asRead hk he hen hs hsettled hu hservice hwf hblocks hlen hown hfind hpoison =>
      poisonedDeparture_spec p w l f rest n hoff hloop hpause hqueue hn e b bs asRead hk he hen hs hsettled hu hservice hwf hblocks
        hlen hown hfind hpoison⟩
  case ask =>
    subst hn
    refine ⟨_, exec_frameDeparture p w (Part.depart_ask hdeparting hk []), ?_, ?_, p.emit_log l f rest,
      p.departAsk_stream_self l f rest, fun m hm => ?_⟩
    · rw [Part.departAsk, Part.modStream_lane, Part.emit_lane_self hloop]
    · rw [Part.departAsk, Part.modStream_lane, Part.emit_lane_self hloop]
    · rw [Part.departAsk, Part.modStream_stream_of_ne _ hm, p.emit_stream]
  case test =>
    have hown : b.ownsTest f = true := by rw [Burst.ownsTest, howner]; exact hreflect
    have hself := Part.emit_lane_self hloop f rest
    have hlane : (p.departTest l f rest).lane l = ((p.emit l f rest).lane l).testSent p.now f := by
      rw [Part.departTest_eq, Part.modLane_lane_self]
    rw [LaneRec.testSent_of_owned (by rw [hself]; exact hb) hown, hself] at hlane
    refine ⟨_, exec_frameDeparture p w (Part.depart_test hdeparting hk []), by rw [hlane], by rw [hlane], by rw [hlane],
      by rw [hlane], by rw [hlane], ?_, fun m hm => ?_⟩
    · rw [Part.departTest_eq, Part.modLane_engine, p.emit_engine]
    · rw [Part.departTest_eq, Part.modLane_lane_of_ne _ hm, p.emit_lane_of_ne hm]

end Sys2Proof.Machine
end

section
/-! A request that passes the checks: dispatched, held, or the first of its stream (O10). -/

namespace Sys2Proof.Machine

/-! ### The data buffer: what is stored is loaded (R22, R23) -/

/-- A block written with at most 64 bytes begins with them. -/
theorem Memory.take_block_setBlock {m : Memory} (h : m.wf = true) (b : BlockIx) (bytes : List Byte) :
    ((m.setBlock b bytes).block b).take bytes.length = bytes.take 64 := by
  have hlen : (((m.setBlock b bytes).block b).take bytes.length).length = (bytes.take 64).length := by
    rw [List.length_take, List.length_take, Memory.block_length, Nat.min_comm]
  refine List.ext_getElem hlen fun i hi hi' => ?_
  have hbytes : i < bytes.length := lt_of_lt_of_le hi' (List.length_take_le' _ _)
  have hi64 : i < 64 := lt_of_lt_of_le hi' (List.length_take_le _ _)
  have hread := Memory.read_writeAll (bytes.take 64) h (64 * b.val) (64 * b.val + i)
  rw [if_pos (by omega), Nat.add_sub_cancel_left, List.getD_eq_getElem _ 0 hi'] at hread
  rw [← hread, List.getElem_take, ← List.getD_eq_getElem _ 0 (by rw [Memory.block_length]; exact hi64),
    Memory.block_getD _ _ hi64]
  rfl

theorem Memory.block_store_of_notMem {m : Memory} (h : m.wf = true) {bs : List BlockIx} {c : BlockIx} (hc : c ∉ bs)
    (bytes : List Byte) : (m.store bs bytes).block c = m.block c := by
  induction bs generalizing m bytes with
  | nil => rfl
  | cons b rest ih =>
    obtain ⟨hb, hrest⟩ : c ≠ b ∧ c ∉ rest := by simpa using hc
    exact (ih (Memory.setBlock_wf h b bytes) hrest _).trans (Memory.block_setBlock_of_ne h hb bytes)

/-- Data stored into distinct blocks that hold it is what the blocks then load (R22, R23). -/
theorem Memory.load_store {m : Memory} (h : m.wf = true) {bs : List BlockIx} (hbs : bs.Nodup) {bytes : List Byte}
    (hlen : bytes.length ≤ 64 * bs.length) : (m.store bs bytes).load bs bytes.length = bytes := by
  induction bs generalizing m bytes with
  | nil => exact (List.length_eq_zero_iff.1 (by simpa using hlen)).symm ▸ rfl
  | cons b rest ih =>
    obtain ⟨hb, hrest⟩ := List.nodup_cons.1 hbs
    have hwf := Memory.setBlock_wf h b bytes
    have hfirst : (m.store (b :: rest) bytes).block b = (m.setBlock b bytes).block b :=
      Memory.block_store_of_notMem hwf hb _
    have hlater := ih hwf hrest (bytes := bytes.drop 64) (by rw [List.length_drop]; rw [List.length_cons] at hlen; omega)
    rw [List.length_drop] at hlater
    rw [Memory.load, List.flatMap_cons, List.take_append, hfirst, Memory.take_block_setBlock h, Memory.block_length]
    exact (congrArg _ hlater).trans (List.take_append_drop 64 bytes)

/-! ### A well-formed request (R8, R183) -/

theorem Intake.lengths_of_wellFormed {i : Intake} {q : HostRecord} {k : ReqKind} (hk : ReqKind.ofCode q.kind = some k)
    (h : i.malformed q = none) : q.length.toNat ≤ 256 ∧ q.data.length = k.payloadBytes q.length.toNat := by
  rw [Intake.malformed_of_kind i q hk] at h
  by_cases hlen : q.length.toNat % 4 = 0 ∧ 4 ≤ q.length.toNat ∧ q.length.toNat ≤ 256 ∧
      q.data.length = k.dataBytes q.length.toNat
  · exact ⟨hlen.2.2.1, hlen.2.2.2⟩
  · rw [if_pos hlen] at h
    exact absurd h (by simp)

theorem ReqKind.payloadBytes_le (k : ReqKind) (len : Nat) : k.payloadBytes len ≤ 64 * k.blocksNeeded len := by
  cases k with
  | read => exact Nat.le_refl 0
  | write => simp only [ReqKind.payloadBytes, ReqKind.dataBytes, ReqKind.blocksNeeded, ceilBlocks, Config.blockBytes]; omega
  | swap => exact (by decide : 16 ≤ 64 * 1)

theorem lengthCode_toNat {len : Nat} (h : len ≤ 256) : (lengthCode len).toNat = len / 4 - 1 := by
  rw [lengthCode, BitVec.toNat_ofNat]
  omega

/-! ### The verdict (R11) -/

theorem Part.verdict_of_admitted {p : Part} {q : HostRecord} {k : ReqKind} {ix : RouteIx} (hs : p.intake.service = .running)
    (hk : ReqKind.ofCode q.kind = some k) (hm : p.intake.malformed q = none) (hr : p.intake.route q.address = some ix)
    (ha : k = .read ∨ (p.intake.routes.get ix).access = .readWrite)
    (hf : (p.stream (p.intake.routes.get ix).stream).state ≠ .faulted) :
    p.verdict q = p.resources k (p.intake.routes.get ix) q.length.toNat := by
  rw [Part.verdict_of_routed (by rw [hs]; decide) hm hk hr, if_neg, if_neg hf]
  rintro ⟨hread, hro⟩
  rcases ha with ha | ha
  · exact hread ha
  · exact absurd (ha.symm.trans hro) (by decide)

theorem Part.resources_of_few {p : Part} {k : ReqKind} {r : Route} {len : Nat}
    (h : p.engine.freeBlocks.length < k.blocksNeeded len) : p.resources k r len = .waits := if_pos h

theorem Part.resources_of_noSlot {p : Part} {k : ReqKind} {r : Route} {len : Nat} (hd : p.dispatches r.stream k = false)
    (hs : p.engine.freeSlots = []) : p.resources k r len = .waits := by
  unfold Part.resources
  split
  · rfl
  · exact if_pos ⟨hd, hs⟩

theorem Part.resources_passes {p : Part} {k : ReqKind} {r : Route} {len : Nat}
    (h : k.blocksNeeded len ≤ p.engine.freeBlocks.length) (hs : p.dispatches r.stream k = true ∨ p.engine.freeSlots ≠ []) :
    p.resources k r len = .passes k r := by
  unfold Part.resources
  rw [if_neg (by omega), if_neg]
  rintro ⟨hd, hfree⟩
  rcases hs with hs | hs
  · exact Bool.false_ne_true (hd.symm.trans hs)
  · exact hs hfree

/-- A request that would be dispatched at once (R26). -/
theorem Part.dispatches_iff (p : Part) (n : StreamId) (k : ReqKind) : p.dispatches n k = true ↔
    (p.stream n).state = .bound ∧ (p.stream n).inflight.length < p.params.streamWindow ∧
    (k = .swap → (p.stream n).swapCount < (p.stream n).swapLimit) ∧ p.engine.freeEntries ≠ [] ∧ (p.stream n).hold = [] := by
  unfold Part.dispatches Part.windowAllows
  cases k <;> simp [and_assoc]

/-! ### A request that waits (R4, R159) -/

theorem Part.wait_spec (p : Part) : p.wait.intake = { p.intake with headWaited := true } ∧ p.wait.engine = p.engine ∧
    p.wait.lanes = p.lanes ∧ p.wait.completions = p.completions ∧
    p.wait.counter (.part .intakeWaits) = p.counter (.part .intakeWaits) + (if p.intake.headWaited then 0 else 1) := by
  cases h : p.intake.headWaited with
  | true =>
    have hwait : p.wait = p := if_pos h
    rw [hwait, if_pos rfl, ← h]
    exact ⟨rfl, rfl, rfl, rfl, (BitVec.add_zero _).symm⟩
  | false =>
    have hwait : p.wait = (p.modIntake (fun i => { i with headWaited := true })).raise (.part .intakeWaits) :=
      if_neg (by rw [h]; exact Bool.false_ne_true)
    rw [hwait, if_neg Bool.false_ne_true]
    exact ⟨Part.raise_intake _ _, Part.raise_engine _ _, Part.raise_lanes _ _, Part.raise_completions _ _,
      Part.raise_counter_self _ _⟩

theorem exec_waits {p : Part} (w : List Instr) {q : HostRecord} {rest : List HostRecord} (hs : p.intake.service = .running)
    (hq : p.intake.queue = q :: rest) (hv : p.verdict q = .waits) :
    ∃ p', exec .intakeChecks ⟨p, w⟩ = .next ⟨p', w⟩ ∧ p'.intake = { p.intake with headWaited := true } ∧
      p'.engine = p.engine ∧ p'.lanes = p.lanes ∧ p'.completions = p.completions ∧
      p'.counter (.part .intakeWaits) = p.counter (.part .intakeWaits) + (if p.intake.headWaited then 0 else 1) := by
  have hspec := p.wait_spec
  have hexec := exec_intakeChecks w hq hv (r := p.wait) rfl
  have hservice : p.wait.intake.service ≠ .quiescing := by rw [hspec.1, hs]; exact (by decide : ServiceState.running ≠ .quiescing)
  rw [Part.judgeQuiesce_of_service hservice] at hexec
  exact ⟨_, hexec, hspec⟩

/-! ### The hand-over (R11) -/

theorem Part.withRequest_now (p : Part) (q : HostRecord) (k : ReqKind) : (p.withRequest q k).now = p.now := by
  unfold Part.withRequest; dsimp only; split <;> rfl
theorem Part.withRequest_completions (p : Part) (q : HostRecord) (k : ReqKind) :
    (p.withRequest q k).completions = p.completions := by unfold Part.withRequest; dsimp only; split <;> rfl
theorem Part.withRequest_service (p : Part) (q : HostRecord) (k : ReqKind) :
    (p.withRequest q k).intake.service = p.intake.service := by
  have h : p.leaveQueue.intake.service = p.intake.service := by rw [p.leaveQueue_intake]
  unfold Part.withRequest; dsimp only; split <;> exact h
theorem Part.withRequest_queue (p : Part) (q : HostRecord) (k : ReqKind) :
    (p.withRequest q k).intake.queue = p.intake.queue.tail := by
  have h : p.leaveQueue.intake.queue = p.intake.queue.tail := by rw [p.leaveQueue_intake]
  unfold Part.withRequest; dsimp only; split <;> exact h
theorem Part.withRequest_tagOpen (p : Part) (q : HostRecord) {k : ReqKind} (hk : k ≠ .write) :
    (p.withRequest q k).intake.tagOpen q.tag = true := by
  unfold Part.withRequest
  dsimp only
  rw [if_neg hk]
  exact Vector.getElem_set_self _
theorem Part.withRequest_chooseFor (p : Part) (q : HostRecord) (k : ReqKind) (n : StreamId) (b : BindingKind) :
    (p.withRequest q k).chooseFor n b = p.chooseFor n b := by
  unfold Part.withRequest; dsimp only; split <;> rfl

theorem Part.streamsOnly_given (p : Part) (q : HostRecord) (k : ReqKind) (r : Route) :
    (p.withRequest q k).StreamsOnly (p.given q k r) := by
  unfold Part.given
  split
  · exact Part.streamsOnly_dispatch _ _ _
  · exact Part.streamsOnly_holdWork _ _ _

/-- What the request takes of the block pool, dispatched or held (R11, R23). -/
theorem Part.given_freeBlocks {p : Part} {q : HostRecord} {k : ReqKind} {r : Route} (h : p.verdict q = .passes k r) :
    (p.given q k r).engine.freeBlocks = p.engine.freeBlocks.drop (k.blocksNeeded q.length.toNat) := by
  have hblocks : (p.withRequest q k).engine.freeBlocks = p.engine.freeBlocks.drop (k.blocksNeeded q.length.toNat) := by
    rw [p.withRequest_engine, List.length_take, Nat.min_eq_left (Part.verdict_passes h).1]
  rcases Part.given_cases h with ⟨-, i, rest, hfree, hg⟩ | ⟨-, i, rest, hfree, hg⟩
  · rw [hg, Part.dispatchInto_engine]
    exact hblocks
  · rw [hg, Part.holdWork_engine (i := i) (rest := rest) _ _ _ (by rw [p.withRequest_engine]; exact hfree)]
    exact hblocks

/-- A part that keeps what the hand-over has done of the intake, the completions, the blocks and the buffer is one
that the request has been handed over in (R11). -/
theorem Part.handedOver_of {p p' : Part} {q : HostRecord} {k : ReqKind} {r : Route} (hv : p.verdict q = .passes k r)
    (hm : p.intake.malformed q = none) (hk : ReqKind.ofCode q.kind = some k)
    (hqueue : p'.intake.queue = (p.given q k r).intake.queue) (htags : p'.intake.openTags = (p.given q k r).intake.openTags)
    (hcompletions : p'.completions = (p.given q k r).completions)
    (hblocks : p'.engine.freeBlocks = (p.given q k r).engine.freeBlocks)
    (hbuffer : p'.engine.buffer = (p.given q k r).engine.buffer) : p.handedOver p' q k := by
  have honly := p.streamsOnly_given q k r
  have hstored : p'.engine.buffer =
      p.engine.buffer.store (p.engine.freeBlocks.take (k.blocksNeeded q.length.toNat)) q.data := by
    rw [hbuffer, honly.buffer, p.withRequest_engine]
  have hlen := (Intake.lengths_of_wellFormed hk hm).2
  refine ⟨by rw [hqueue, honly.intake, p.withRequest_queue], fun hne => ?_,
    by rw [hcompletions, honly.completions, p.withRequest_completions], by rw [hblocks, Part.given_freeBlocks hv],
    fun hwf hnodup => ⟨?_, fun b hb => ?_⟩⟩
  · have hopen := p.withRequest_tagOpen q hne
    rw [Intake.tagOpen] at hopen ⊢
    rw [htags, honly.intake]
    exact hopen
  · rw [hstored, ← hlen]
    refine Memory.load_store hwf (hnodup.sublist (List.take_sublist _ _)) ?_
    rw [hlen, List.length_take, Nat.min_eq_left (Part.verdict_passes hv).1]
    exact k.payloadBytes_le _
  · rw [hstored]
    exact Memory.block_store_of_notMem hwf hb _

/-- An emptied queue's tally is the log's and the intake's matter alone (R7). -/
theorem Part.flushIfEmpty_cases (p : Part) : p.flushIfEmpty = p ∨ p.flushIfEmpty = p.flushTally := by
  unfold Part.flushIfEmpty
  split
  · exact .inr rfl
  · exact .inl rfl

theorem Part.flushIfEmpty_spec (p : Part) : p.flushIfEmpty.engine = p.engine ∧ p.flushIfEmpty.lanes = p.lanes ∧
    p.flushIfEmpty.completions = p.completions ∧ p.flushIfEmpty.intake.queue = p.intake.queue ∧
    p.flushIfEmpty.intake.openTags = p.intake.openTags ∧ p.flushIfEmpty.intake.service = p.intake.service := by
  rcases p.flushIfEmpty_cases with h | h <;> rw [h]
  · exact ⟨rfl, rfl, rfl, rfl, rfl, rfl⟩
  · rw [p.flushTally_intake]
    exact ⟨p.flushTally_engine, p.flushTally_lanes, p.flushTally_completions, rfl, rfl, rfl⟩

/-- A request that passes, on a stream that needs no first binding (R11). -/
theorem exec_passes_awake {p : Part} (w : List Instr) {q : HostRecord} {rest : List HostRecord} {k : ReqKind} {r : Route}
    (hs : p.intake.service = .running) (hq : p.intake.queue = q :: rest) (hv : p.verdict q = .passes k r)
    (hm : p.intake.malformed q = none) (hk : ReqKind.ofCode q.kind = some k) (hstate : (p.stream r.stream).state ≠ .idle) :
    ∃ p', exec .intakeChecks ⟨p, w⟩ = .next ⟨p', w⟩ ∧ p.handedOver p' q k ∧ p'.engine = (p.given q k r).engine ∧
      p'.lanes = (p.given q k r).lanes := by
  have honly := p.streamsOnly_given q k r
  obtain ⟨hengine, hlanes, hcompletions, hqueue, htags, hservice⟩ := (p.given q k r).flushIfEmpty_spec
  have hexec := exec_intakeChecks w hq hv (r := (p.given q k r).flushIfEmpty)
    (by rw [Part.takeVerdict, Part.handOver_eq, if_neg hstate])
  have hnot : (p.given q k r).flushIfEmpty.intake.service ≠ .quiescing := by
    rw [hservice, honly.intake, p.withRequest_service, hs]
    decide
  rw [Part.judgeQuiesce_of_service hnot] at hexec
  exact ⟨_, hexec, Part.handedOver_of hv hm hk hqueue htags hcompletions (congrArg (fun g : Engine => g.freeBlocks) hengine)
    (congrArg (fun g : Engine => g.buffer) hengine), hengine, hlanes⟩

/-- A request that passes, and is the first of its stream's binding (R11, R113). -/
theorem exec_passes_idle {p : Part} (w : List Instr) {q : HostRecord} {rest : List HostRecord} {k : ReqKind} {r : Route}
    (hs : p.intake.service = .running) (hq : p.intake.queue = q :: rest) (hv : p.verdict q = .passes k r)
    (hm : p.intake.malformed q = none) (hk : ReqKind.ofCode q.kind = some k) (hstate : (p.stream r.stream).state = .idle) :
    ∃ p', exec .intakeChecks ⟨p, w⟩ = .next ⟨p', w⟩ ∧ p.handedOver p' q k ∧
      p'.engine = ((p.given q k r).bind r.stream .plain).engine ∧ p'.lanes = ((p.given q k r).bind r.stream .plain).lanes := by
  have hbind := (p.given q k r).streamsOnly_bind r.stream .plain
  have honly := (p.streamsOnly_given q k r).trans hbind
  obtain ⟨hengine, hlanes, hcompletions, hqueue, htags, hservice⟩ := ((p.given q k r).bind r.stream .plain).flushIfEmpty_spec
  have hexec := exec_intakeChecks w hq hv (r := ((p.given q k r).bind r.stream .plain).flushIfEmpty)
    (by rw [Part.takeVerdict, Part.handOver_eq, if_pos hstate])
  have hnot : ((p.given q k r).bind r.stream .plain).flushIfEmpty.intake.service ≠ .quiescing := by
    rw [hservice, honly.intake, p.withRequest_service, hs]
    decide
  rw [Part.judgeQuiesce_of_service hnot] at hexec
  refine ⟨_, hexec, Part.handedOver_of hv hm hk (by rw [hqueue, hbind.intake]) (by rw [htags, hbind.intake])
    (by rw [hcompletions, hbind.completions]) ?_ (by rw [hengine, hbind.buffer]), hengine, hlanes⟩
  rw [hengine, Part.samePools_bind]

end Sys2Proof.Machine
end

section
/-! The outcomes of a hand-over (O10). -/

namespace Sys2Proof.Machine

/-- A request dispatched at once: a free entry, the next sequence, and a REQUEST at the tail of the carrier's queue
(R26). -/
theorem exec_passes_dispatched {p : Part} (w : List Instr) {q : HostRecord} {rest : List HostRecord} {k : ReqKind} {r : Route}
    (hs : p.intake.service = .running) (hq : p.intake.queue = q :: rest) (hv : p.verdict q = .passes k r)
    (hm : p.intake.malformed q = none) (hk : ReqKind.ofCode q.kind = some k) (hd : p.dispatches r.stream k = true)
    {l : Lane} (hc : (p.stream r.stream).carrier = some l) {i : EntryIx} {fe : List EntryIx}
    (hfree : p.engine.freeEntries = i :: fe) :
    ∃ p' e f, exec .intakeChecks ⟨p, w⟩ = .next ⟨p', w⟩ ∧ p.handedOver p' q k ∧
      (p'.stream r.stream).inflight = (p.stream r.stream).inflight ++ [e] ∧
      (p'.stream r.stream).nextSeq = (p.stream r.stream).nextSeq + 1 ∧ (p'.stream r.stream).state = .bound ∧
      e.index = i ∧ e.stream = r.stream ∧ e.seq = (p.stream r.stream).nextSeq ∧ e.kind = k ∧
      e.tag = (if k = .write then none else some q.tag) ∧ e.address = r.translate q.address ∧
      e.length = q.length.toNat ∧ e.blocks = p.engine.freeBlocks.take (k.blocksNeeded q.length.toNat) ∧ e.phase = .queued ∧
      e.transmissions = 1 ∧ e.transmitTime = none ∧ e.deadline = none ∧ e.poisoned = false ∧
      (p'.lane l).queue = (p.lane l).queue ++ [f] ∧ f.kind = .request ∧ f.header.stream = r.stream ∧
      f.header.seq = e.seq ∧ f.header.op = k.op ∧ f.header.epoch = (p.stream r.stream).epoch ∧
      f.header.destination = (p.stream r.stream).node ∧ f.header.source = p.params.sourceNode ∧
      f.header.address = r.translate q.address ∧ f.header.lengthCode.toNat = q.length.toNat / 4 - 1 ∧
      p'.engine.freeEntries = fe ∧
      (∀ m, m ≠ r.stream → p'.stream m = p.stream m) ∧ (∀ m, m ≠ l → p'.lane m = p.lane m) := by
  have hbound := ((p.dispatches_iff r.stream k).1 hd).1
  obtain ⟨p', hexec, hhanded, hengine, hlanes⟩ := exec_passes_awake w hs hq hv hm hk
    (by rw [hbound]; exact (by decide : StreamState.bound ≠ .idle))
  have hgiven : p.given q k r = (p.withRequest q k).dispatchInto r.stream i fe (p.workOf q k r) := by
    unfold Part.given Part.dispatch
    rw [if_pos hd, p.withRequest_engine]
    dsimp only
    rw [hfree]
  have hwith := p.withRequest_stream q k
  have hlane : ∀ m, (p.withRequest q k).lane m = p.lane m := fun m => congrArg (fun v => v.get m) (p.withRequest_lanes q k)
  have hparams := p.withRequest_params q k
  have hstream : ∀ m, p'.stream m = ((p.withRequest q k).dispatchInto r.stream i fe (p.workOf q k r)).stream m := fun m => by
    rw [Part.stream, hengine, hgiven]; rfl
  have hself : p'.stream r.stream = { p.stream r.stream with
      nextSeq := (p.stream r.stream).nextSeq + 1
      inflight := (p.stream r.stream).inflight ++ [(p.withRequest q k).newEntry r.stream i (p.workOf q k r)] } := by
    rw [hstream, Part.dispatchInto_stream, if_pos rfl, hwith]
  have hqueue : ∀ m, (p'.lane m).queue = (p.lane m).queue ++ (if some l = some m then
      [(p.withRequest q k).requestFrame r.stream ((p.withRequest q k).newEntry r.stream i (p.workOf q k r))] else []) := fun m => by
    rw [Part.lane, hlanes, hgiven]
    have h := (p.withRequest q k).dispatchInto_lane_queue r.stream i fe (p.workOf q k r) m
    rwa [hwith, hc, hlane] at h
  have hframe : ∀ e, (p.withRequest q k).requestFrame r.stream e = p.requestFrame r.stream e := fun e => by
    unfold Part.requestFrame; rw [hwith, hparams]
  refine ⟨p', (p.withRequest q k).newEntry r.stream i (p.workOf q k r), _, hexec, hhanded, by rw [hself], by rw [hself],
    by rw [hself]; exact hbound, rfl, rfl, congrArg StreamRec.nextSeq (hwith r.stream), rfl, rfl, rfl, rfl, rfl, rfl, rfl, rfl, rfl, rfl,
    (hqueue l).trans (by rw [if_pos rfl]), rfl, rfl, rfl, rfl, ?_, ?_, ?_, rfl,
    lengthCode_toNat (Intake.lengths_of_wellFormed hk hm).1, ?_, fun m hne => ?_, fun m hne => ?_⟩
  · rw [hframe]; rfl
  · rw [hframe]; rfl
  · rw [hframe]; rfl
  · rw [hengine, hgiven, Part.dispatchInto_engine]
  · rw [hstream, Part.dispatchInto_stream, if_neg hne, hwith]
  · have hother := (p.streamsOnly_given q k r).lane m
    have hq' := hqueue m
    rw [if_neg (by simpa using hne.symm), List.append_nil] at hq'
    have hp' : p'.lane m = (p.given q k r).lane m := by rw [Part.lane, hlanes]; rfl
    rw [hp', hother, ← hp', hq', hlane]

/-- A held request: the first free slot, at the tail of its stream's hold list (R24, R26). -/
theorem Part.given_held {p : Part} {q : HostRecord} {k : ReqKind} {r : Route} (hd : p.dispatches r.stream k = false)
    {i : SlotIx} {fs : List SlotIx} (hfree : p.engine.freeSlots = i :: fs) :
    (p.given q k r).stream r.stream =
      { p.stream r.stream with hold := (p.stream r.stream).hold ++ [⟨i, r.stream, p.workOf q k r⟩] } ∧
    (∀ m, m ≠ r.stream → (p.given q k r).stream m = p.stream m) ∧ (p.given q k r).engine.freeSlots = fs ∧
    (p.given q k r).engine.freeEntries = p.engine.freeEntries ∧ (p.given q k r).lanes = p.lanes ∧
    (p.given q k r).now = p.now ∧ (p.given q k r).params = p.params ∧
    ∀ b, (p.given q k r).chooseFor r.stream b = p.chooseFor r.stream b := by
  have hfree' : (p.withRequest q k).engine.freeSlots = i :: fs := by rw [p.withRequest_engine]; exact hfree
  have hgiven : p.given q k r = (p.withRequest q k).holdWork r.stream (p.workOf q k r) := by
    unfold Part.given
    rw [if_neg (by rw [hd]; exact Bool.false_ne_true)]
  have honly := (p.withRequest q k).streamsOnly_holdWork r.stream (p.workOf q k r)
  have hstream := fun m => Part.holdWork_stream (p.withRequest q k) r.stream m (p.workOf q k r) hfree'
  have hengine := Part.holdWork_engine (p.withRequest q k) r.stream (p.workOf q k r) hfree'
  have hlanes : ((p.withRequest q k).holdWork r.stream (p.workOf q k r)).lanes = (p.withRequest q k).lanes := by
    unfold Part.holdWork; rw [hfree']; rfl
  rw [hgiven]
  refine ⟨?_, fun m hne => ?_, by rw [hengine], by rw [hengine, p.withRequest_engine], hlanes.trans (p.withRequest_lanes q k),
    honly.now.trans (p.withRequest_now q k), honly.params.trans (p.withRequest_params q k), fun b => ?_⟩
  · rw [hstream, if_pos rfl, p.withRequest_stream]
  · rw [hstream, if_neg hne, p.withRequest_stream]
  · rw [← p.withRequest_chooseFor q k r.stream b]
    unfold Part.chooseFor
    rw [honly.choose, hstream, if_pos rfl]

/-- A request held on a stream that already has a binding, a drain, a stall or too much in flight (R26). -/
theorem exec_passes_held {p : Part} (w : List Instr) {q : HostRecord} {rest : List HostRecord} {k : ReqKind} {r : Route}
    (hs : p.intake.service = .running) (hq : p.intake.queue = q :: rest) (hv : p.verdict q = .passes k r)
    (hm : p.intake.malformed q = none) (hk : ReqKind.ofCode q.kind = some k) (hstate : (p.stream r.stream).state ≠ .idle)
    (hd : p.dispatches r.stream k = false) {i : SlotIx} {fs : List SlotIx} (hfree : p.engine.freeSlots = i :: fs) :
    ∃ p' h, exec .intakeChecks ⟨p, w⟩ = .next ⟨p', w⟩ ∧ p.handedOver p' q k ∧
      p'.stream r.stream = { p.stream r.stream with hold := (p.stream r.stream).hold ++ [h] } ∧
      h = ⟨i, r.stream, p.workOf q k r⟩ ∧
      p'.engine.freeSlots = fs ∧ p'.engine.freeEntries = p.engine.freeEntries ∧ p'.lanes = p.lanes ∧
      ∀ m, m ≠ r.stream → p'.stream m = p.stream m := by
  obtain ⟨p', hexec, hhanded, hengine, hlanes⟩ := exec_passes_awake w hs hq hv hm hk hstate
  obtain ⟨hself, hothers, hslots, hentries, hheld, -⟩ := Part.given_held (q := q) hd hfree
  have hstream : ∀ m, p'.stream m = (p.given q k r).stream m := fun m => by rw [Part.stream, hengine]; rfl
  exact ⟨p', _, hexec, hhanded, (hstream _).trans hself, rfl, by rw [hengine, hslots], by rw [hengine, hentries],
    hlanes.trans hheld, fun m hne => (hstream m).trans (hothers m hne)⟩

/-- The first request of an IDLE stream: held, with the stream's first binding started (R11, R113, R114, R125). -/
theorem exec_passes_first {p : Part} (w : List Instr) {q : HostRecord} {rest : List HostRecord} {k : ReqKind} {r : Route}
    (hs : p.intake.service = .running) (hq : p.intake.queue = q :: rest) (hv : p.verdict q = .passes k r)
    (hm : p.intake.malformed q = none) (hk : ReqKind.ofCode q.kind = some k) (hstate : (p.stream r.stream).state = .idle)
    {i : SlotIx} {fs : List SlotIx} (hfree : p.engine.freeSlots = i :: fs) :
    ∃ p' h, exec .intakeChecks ⟨p, w⟩ = .next ⟨p', w⟩ ∧ p.handedOver p' q k ∧
      (p'.stream r.stream).epoch = (p.stream r.stream).epoch + 1 ∧
      (p'.stream r.stream).hold = (p.stream r.stream).hold ++ [h] ∧
      h.slot = i ∧ h.stream = r.stream ∧ h.work = p.workOf q k r ∧
      p'.engine.freeSlots = fs ∧ (∀ m, m ≠ r.stream → p'.stream m = p.stream m) ∧
      match p.chooseFor r.stream ⟨none, none⟩ with
      | some l => (p'.stream r.stream).state = .binding ∧ (p'.stream r.stream).carrier = some l ∧
        (p'.stream r.stream).askAttempts = 1 ∧ ∃ f,
        (p'.lane l).queue = (p.lane l).queue.filter (fun x => !x.isOf r.stream) ++ [f] ∧ f.kind = .ask ∧
        f.header.epoch = (p.stream r.stream).epoch + 1 ∧ f.header.seq = (p.stream r.stream).nextSeq
      | none => (p'.stream r.stream).state = .stalled ∧ (p'.stream r.stream).carrier = none ∧
        (p'.stream r.stream).askAttempts = 0 ∧ ((p.stream r.stream).stallDeadline = none →
          (p'.stream r.stream).stallDeadline = some (p.now + p.params.stallLimit * 100000)) := by
  have hd : p.dispatches r.stream k = false := by
    rw [← Bool.not_eq_true, Part.dispatches_iff, hstate]
    exact fun h => absurd h.1 (by decide)
  obtain ⟨p', hexec, hhanded, hengine, hlanes⟩ := exec_passes_idle w hs hq hv hm hk hstate
  obtain ⟨hself, hothers, hslots, -, hheld, hnow, hparams, hchoose⟩ := Part.given_held (q := q) hd hfree
  have hpools := (p.given q k r).samePools_bind r.stream .plain
  have hstream : ∀ m, p'.stream m = ((p.given q k r).bind r.stream .plain).stream m := fun m => by
    rw [Part.stream, hengine]; rfl
  have hend : (p.given q k r).stallEnd = p.now + p.params.stallLimit * 100000 := by
    rw [Part.stallEnd, hnow, hparams]
  have hrec : p'.stream r.stream =
      StreamRec.rebound { p.stream r.stream with hold := (p.stream r.stream).hold ++ [⟨i, r.stream, p.workOf q k r⟩] } p.now .plain
        (p.now + p.params.stallLimit * 100000) (p.chooseFor r.stream .plain) := by
    rw [hstream, Part.bind_stream_self, hself, hchoose, hnow, hend]
  refine ⟨p', ⟨i, r.stream, p.workOf q k r⟩, hexec, hhanded, by rw [hrec, StreamRec.rebound_epoch],
    by rw [hrec, StreamRec.rebound_hold], rfl, rfl, rfl, by rw [hengine, hpools]; exact hslots,
    fun m hne => by rw [hstream, Part.bind_stream_of_ne _ hne, hothers m hne], ?_⟩
  have hplain : p.chooseFor r.stream ⟨none, none⟩ = p.chooseFor r.stream .plain := rfl
  rw [hplain, hrec]
  cases hcase : p.chooseFor r.stream .plain with
  | some l =>
    refine ⟨rfl, rfl, rfl, (p.given q k r).nextAsk r.stream, ?_, rfl, ?_, ?_⟩
    · have hq' := (p.given q k r).bind_queue r.stream .plain l
      rw [hchoose, hcase, if_pos rfl] at hq'
      have hp' : p'.lane l = ((p.given q k r).bind r.stream .plain).lane l := by rw [Part.lane, hlanes]; rfl
      rw [hp', hq', Part.lane, hheld]
      rfl
    · rw [Part.nextAsk, hself]
    · rw [Part.nextAsk, hself]
  | none =>
    refine ⟨rfl, rfl, rfl, fun hno => ?_⟩
    simp [StreamRec.rebound, StreamRec.stalledBy, StreamRec.opened, hno]

/-- Settles O10, by what the stream and the pools allow. -/
theorem intakeDispatches : Obligations.IntakeDispatches := by
  intro p w q rest k ix n hs hq hk hm hr ha hn hf
  subst hn
  have hverdict := Part.verdict_of_admitted hs hk hm hr ha hf
  refine ⟨fun hfew => exec_waits w hs hq (hverdict.trans (Part.resources_of_few hfew)), ?_⟩
  rintro henough blocks address rfl rfl
  refine ⟨fun l i fe hb hc hhold hwindow hswap hfree => ?dispatched, fun i fs hidle hfree => ?first, fun held hheld => ?_⟩
  case dispatched =>
    have hd : p.dispatches (p.intake.routes.get ix).stream k = true :=
      (p.dispatches_iff _ k).2 ⟨hb, hwindow, hswap, by rw [hfree]; exact List.cons_ne_nil _ _, hhold⟩
    exact exec_passes_dispatched w hs hq (hverdict.trans (Part.resources_passes henough (.inl hd))) hm hk hd hc hfree
  case first =>
    have hfree' : p.engine.freeSlots ≠ [] := by rw [hfree]; exact List.cons_ne_nil _ _
    exact exec_passes_first w hs hq (hverdict.trans (Part.resources_passes henough (.inr hfree'))) hm hk hidle hfree
  have hwaits : held ∨ (p.stream (p.intake.routes.get ix).stream).state = .idle →
      p.dispatches (p.intake.routes.get ix).stream k = false := by
    rw [← Bool.not_eq_true, Part.dispatches_iff]
    rintro (h | hidle) ⟨hb, hwindow, hswap, hentries, hhold⟩
    · rcases hheld.1 h with hstate | ⟨-, hh | hh | ⟨hk', hh⟩ | hh⟩
      · rw [hb] at hstate
        exact absurd hstate (by decide)
      · exact hh hhold
      · omega
      · have := hswap hk'
        omega
      · exact hentries hh
    · rw [hb] at hidle
      exact absurd hidle (by decide)
  refine ⟨fun i fs h hfree => ?held, fun h hfree =>
    exec_waits w hs hq (hverdict.trans (Part.resources_of_noSlot (hwaits h) hfree))⟩
  case held =>
    have hfree' : p.engine.freeSlots ≠ [] := by rw [hfree]; exact List.cons_ne_nil _ _
    have hstate : (p.stream (p.intake.routes.get ix).stream).state ≠ .idle := fun hidle => by
      rcases hheld.1 h with hstate | ⟨hb, -⟩
      · rw [hidle] at hstate
        exact absurd hstate (by decide)
      · rw [hidle] at hb
        exact absurd hb (by decide)
    exact exec_passes_held w hs hq (hverdict.trans (Part.resources_passes henough (.inr hfree'))) hm hk hstate (hwaits (.inl h)) hfree

end Sys2Proof.Machine
end

section
/-! The host link reset (O11). -/

namespace Sys2Proof.Machine

/-! ### One stream (R41) -/

theorem Part.foldl_unhold_stream (n : StreamId) (hs : List Held) (p : Part) (m : StreamId) :
    (hs.foldl (fun q h => q.unhold n h) p).stream m = if m = n then { p.stream m with
      hold := (p.stream m).hold.filter (fun x => hs.all (fun h => x.slot != h.slot)) } else p.stream m := by
  induction hs generalizing p with
  | nil => simp
  | cons h hs ih =>
    rw [List.foldl_cons, ih, p.unhold_stream]
    split
    · simp only [List.filter_filter, List.all_cons, Bool.and_comm]
    · rfl

theorem Part.foldl_unhold_log (n : StreamId) (hs : List Held) (p : Part) :
    (hs.foldl (fun q h => q.unhold n h) p).log = p.log := by
  induction hs generalizing p with
  | nil => rfl
  | cons h hs ih => exact ih _

theorem Part.streamsOnly_foldl_unhold (n : StreamId) (hs : List Held) (p : Part) :
    p.StreamsOnly (hs.foldl (fun q h => q.unhold n h) p) := by
  induction hs generalizing p with
  | nil => exact .refl p
  | cons h hs ih => exact (p.streamsOnly_unhold n h).trans (ih _)

/-- Of a hold list whose slots differ, removing the requests outside a kind leaves those within it. -/
theorem filter_slots_eq {hold : List Held} (hnodup : (hold.map Held.slot).Nodup) (keep : Held → Bool) :
    hold.filter (fun x => (hold.filter (fun h => !keep h)).all (fun h => x.slot != h.slot)) = hold.filter keep := by
  refine List.filter_congr fun x hx => ?_
  cases hk : keep x with
  | true =>
    rw [List.all_eq_true]
    intro h hh
    obtain ⟨hmem, hout⟩ := List.mem_filter.1 hh
    rw [bne_iff_ne]
    intro hslot
    have hxh : x = h := List.inj_on_of_nodup_map hnodup hx hmem hslot
    rw [← hxh, hk] at hout
    exact absurd hout (by decide)
  | false =>
    rw [List.all_eq_false]
    exact ⟨x, List.mem_filter.2 ⟨hx, by rw [hk]; rfl⟩, by simp⟩

/-- What a host link reset leaves of a stream's record before held WRITEs are dispatched (R41). -/
def StreamRec.orphaned (r : StreamRec) : StreamRec :=
  { r with hold := r.hold.filter (fun h => h.work.kind == .write), inflight := r.inflight.map OttEntry.orphaned }

theorem Part.orphanStream_self {p : Part} {n : StreamId} (h : ((p.stream n).hold.map Held.slot).Nodup) :
    (p.orphanStream n).stream n = (p.stream n).orphaned := by
  rw [Part.orphanStream, Part.modStream_stream_self, Part.foldl_unhold_stream, if_pos rfl]
  have hfilter := filter_slots_eq h (fun x => x.work.kind == .write)
  exact congrArg (fun hold => { p.stream n with hold := hold, inflight := (p.stream n).inflight.map OttEntry.orphaned }) hfilter

theorem Part.orphanStream_of_ne (p : Part) {n m : StreamId} (h : m ≠ n) : (p.orphanStream n).stream m = p.stream m := by
  rw [Part.orphanStream, Part.modStream_stream_of_ne _ h, Part.foldl_unhold_stream, if_neg h]

theorem Part.orphanStream_log (p : Part) (n : StreamId) : (p.orphanStream n).log = p.log := Part.foldl_unhold_log n _ p

theorem Part.streamsOnly_orphanStream (p : Part) (n : StreamId) : p.StreamsOnly (p.orphanStream n) :=
  (Part.streamsOnly_foldl_unhold n _ p).trans (Part.streamsOnly_modStream _ n _)

/-! ### Every hold-list head judged (R27, R41) -/

theorem Part.dispatchStops.dispatchHeld {n : StreamId} (m : StreamId) (k : Nat) : ∀ {p : Part}, p.dispatchStops n →
    (p.dispatchHeld m k).dispatchStops n := by
  induction k with
  | zero => exact fun h => h
  | succ k ih =>
    intro p h
    unfold Part.dispatchHeld
    split
    · next hc =>
      obtain ⟨hm, hfree⟩ := hc
      have hready : p.headReady n = false := h.resolve_right hfree
      have hne : n ≠ m := fun hnm => Bool.false_ne_true (hready.symm.trans (hnm ▸ hm))
      refine ih (.inl ?_)
      rw [Part.headReady_congr (p.dispatchHead_stream_of_ne hne hm hfree) (p.streamsOnly_dispatchHead m).params]
      exact hready
    · exact h

/-- The streams of a list dispatch what they held, in the list's order. -/
def Part.dispatchAll (p : Part) (ns : List StreamId) : Part := ns.foldl (fun q n => q.dispatchHeld n 64) p

theorem Part.streamsOnly_dispatchAll (ns : List StreamId) (p : Part) : p.StreamsOnly (p.dispatchAll ns) :=
  foldl_keeps (I := fun q => p.StreamsOnly q) (f := fun q n => q.dispatchHeld n 64)
    (fun q n hq => hq.trans (Part.streamsOnly_dispatchHeld n 64 q)) ns (.refl p)

theorem Part.dispatchAll_dispatched (ns : List StreamId) (p : Part) (m : StreamId) :
    (p.stream m).Dispatched ((p.dispatchAll ns).stream m) :=
  foldl_keeps (I := fun q => (p.stream m).Dispatched (q.stream m)) (f := fun q n => q.dispatchHeld n 64)
    (fun q n hq => hq.trans (q.dispatchHeld_dispatched n 64 m)) ns (.refl _)

theorem Part.dispatchAll_log (ns : List StreamId) {p : Part} (h : p.unwatched) : (p.dispatchAll ns).log = p.log := by
  have hkeeps := foldl_keeps (I := fun q => q.unwatched ∧ q.log = p.log) (f := fun q n => q.dispatchHeld n 64)
    (fun q n hq => ⟨hq.1.of_params (Part.streamsOnly_dispatchHeld n 64 q).params, (Part.dispatchHeld_log n 64 hq.1).trans hq.2⟩)
    ns (p := p) ⟨h, rfl⟩
  exact hkeeps.2

theorem Part.dispatchStops.dispatchAll {n : StreamId} (ns : List StreamId) {p : Part} (h : p.dispatchStops n) :
    (p.dispatchAll ns).dispatchStops n :=
  foldl_keeps (I := fun q => q.dispatchStops n) (f := fun q m => q.dispatchHeld m 64) (fun _ m hq => hq.dispatchHeld m 64) ns h

theorem StreamRec.Dispatched.hold_length_le {r r' : StreamRec} (h : r.Dispatched r') : r'.hold.length ≤ r.hold.length := by
  obtain ⟨hs, es, hhold, -⟩ := h.dispatched
  rw [hhold, List.length_append]
  omega

theorem Part.dispatchAll_stops {n : StreamId} {ns : List StreamId} (hn : n ∈ ns) {p : Part} (h : (p.stream n).hold.length ≤ 64) :
    (p.dispatchAll ns).dispatchStops n := by
  induction ns generalizing p with
  | nil => exact absurd hn List.not_mem_nil
  | cons m ns ih =>
    rcases List.mem_cons.1 hn with rfl | hmem
    · exact (Part.dispatchHeld_stops n 64 p h).dispatchAll ns
    · exact ih hmem ((p.dispatchHeld_dispatched m 64 n).hold_length_le.trans h)

/-! ### The whole engine (R41) -/

/-- The engine once every stream has lost its tags and its held READs and SWAPs. -/
def Part.allOrphaned (p : Part) : Part := allStreams.foldl (fun q n => q.orphanStream n) p

theorem Part.orphan_eq (p : Part) : p.orphan = p.allOrphaned.dispatchAll allStreams := rfl

theorem Part.streamsOnly_allOrphaned (p : Part) : p.StreamsOnly p.allOrphaned :=
  foldl_keeps (I := fun q => p.StreamsOnly q) (f := fun q n => q.orphanStream n)
    (fun q n hq => hq.trans (q.streamsOnly_orphanStream n)) allStreams (.refl p)

theorem Part.allOrphaned_log (p : Part) : p.allOrphaned.log = p.log :=
  foldl_keeps (I := fun q => q.log = p.log) (f := fun q n => q.orphanStream n)
    (fun q n hq => (q.orphanStream_log n).trans hq) allStreams rfl

theorem Part.allOrphaned_stream {p : Part} (h : ∀ n, ((p.stream n).hold.map Held.slot).Nodup) (n : StreamId) :
    p.allOrphaned.stream n = (p.stream n).orphaned :=
  p.foldl_stream (fun m => (p.stream m).orphaned) (fun q m => q.streamsOnly_orphanStream m)
    (fun q _ _ hm => q.orphanStream_of_ne hm) (fun q m _ hq => by
      rw [Part.orphanStream_self (by rw [hq]; exact h m), hq]) n

theorem exists_of_forall₂_right {α β : Type} {R : α → β → Prop} {xs : List α} {ys : List β} (h : List.Forall₂ R xs ys) {y : β}
    (hy : y ∈ ys) : ∃ x ∈ xs, R x y := by
  induction h with
  | nil => exact absurd hy List.not_mem_nil
  | cons hxy _ ih =>
    rcases List.mem_cons.1 hy with rfl | hy
    · exact ⟨_, List.mem_cons_self, hxy⟩
    · obtain ⟨x, hx, hr⟩ := ih hy
      exact ⟨x, List.mem_cons_of_mem _ hx, hr⟩

/-- What a stream has dispatched of WRITEs alone has no tag (R26, R41). -/
theorem StreamRec.tags_of_dispatched {r r' : StreamRec} (h : r.dispatchedTo r') (hw : ∀ x ∈ r.hold, x.work.kind = .write)
    (htags : ∀ e ∈ r.inflight, e.tag = none) : ∀ e ∈ r'.inflight, e.tag = none := by
  obtain ⟨hs, es, hhold, hin, hbecome, -⟩ := h
  rw [hin]
  intro e he
  rcases List.mem_append.1 he with he | he
  · exact htags e he
  · obtain ⟨x, hx, hxe⟩ := exists_of_forall₂_right hbecome he
    rw [hxe.2.1, if_pos (hw x (by rw [hhold]; exact List.mem_append_left _ hx))]

theorem writesIn_eq (queue : List HostRecord) : writesIn queue = queue.countP (fun q => q.kind == 0x02#8) := by
  refine List.countP_congr fun q _ => ?_
  rw [beq_iff_eq, beq_iff_eq]
  exact ReqKind.ofCode_eq_some_iff q.kind .write

theorem Part.discardIntake_tagOpen (p : Part) (t : HostTag) : p.discardIntake.intake.tagOpen t = false := by
  simp [Part.discardIntake, Part.modIntake, Intake.tagOpen, Vector.get]

/-- Settles O11. -/
theorem hostLinkResetOrphans : Obligations.HostLinkResetOrphans := by
  intro p w hu hs ht hnodup
  have honly : p.discardIntake.StreamsOnly p.discardIntake.orphan :=
    p.discardIntake.streamsOnly_allOrphaned.trans (Part.streamsOnly_dispatchAll allStreams _)
  have hstream := fun n => Part.allOrphaned_stream (p := p.discardIntake) hnodup n
  have hdispatched := fun n => p.discardIntake.allOrphaned.dispatchAll_dispatched allStreams n
  have hlog : p.discardIntake.orphan.log = p.log := by
    rw [Part.orphan_eq, Part.dispatchAll_log _ (Part.unwatched.of_params (p := p.discardIntake) hu
      p.discardIntake.streamsOnly_allOrphaned.params), Part.allOrphaned_log]
    rfl
  have hstops : ∀ n, (p.stream n).hold.length ≤ 64 → p.discardIntake.orphan.dispatchStops n := by
    intro n hlen
    rw [Part.orphan_eq]
    refine Part.dispatchAll_stops (List.mem_finRange n) ?_
    rw [hstream]
    exact (List.length_filter_le _ _).trans hlen
  have hexec : exec .hostLinkReset ⟨p, w⟩ = .next ⟨(p.discardIntake.orphan.event .hostLinkReset none none
      (sat16 (writesIn p.intake.queue))).raise (.part .hostLinkResets), w⟩ := by
    have hservice : ((p.discardIntake.orphan.event .hostLinkReset none none
        (sat16 (writesIn p.intake.queue))).raise (.part .hostLinkResets)).intake.service ≠ .quiescing := by
      rw [Part.raise_intake, Part.event_intake, honly.intake]
      exact hs
    refine congrArg (fun x => Host.Outcome.next (State.mk x w)) ?_
    dsimp only
    rw [Part.flushTally_of_none ht, Part.judgeQuiesce_of_service hservice]
  rw [← Part.orphan_eq] at hdispatched
  simp only [hstream] at hdispatched
  generalize p.discardIntake.orphan = x at *
  have hxu : (x.event .hostLinkReset none none (sat16 (writesIn p.intake.queue))).unwatched :=
    Part.unwatched.of_params (p := p.discardIntake) hu honly.params
  have hintake : ((x.event .hostLinkReset none none (sat16 (writesIn p.intake.queue))).raise (.part .hostLinkResets)).intake =
      p.discardIntake.intake := by rw [Part.raise_intake, Part.event_intake, honly.intake]
  refine ⟨_, hexec, by rw [hintake]; rfl, by rw [hintake]; rfl, by rw [hintake]; rfl, fun t => ?_, by rw [hintake]; rfl,
    by rw [hintake]; rfl, ?_, ?_, fun n => ?_, fun l => ?_⟩
  · rw [hintake]
    exact p.discardIntake_tagOpen t
  · rw [Part.raise_completions, Part.event_completions, honly.completions]
    rfl
  · rw [Part.unwatched_raise hxu, Part.event_log, hlog, Part.timeCounter, honly.now, sat16, writesIn_eq, Nat.min_comm]
    rfl
  · obtain ⟨hrest, hto, -⟩ := hdispatched n
    have hself : ((x.event .hostLinkReset none none (sat16 (writesIn p.intake.queue))).raise (.part .hostLinkResets)).stream n =
        x.stream n := by rw [Part.raise_stream, Part.event_stream]
    rw [hself]
    refine ⟨StreamRec.tags_of_dispatched hto (fun y hy => ?_) (fun e he => ?_), ?_, hto, fun hlen => ?_,
      by rw [hrest]; rfl, by rw [hrest]; rfl, by rw [hrest]; rfl, by rw [hrest]; rfl, by rw [hrest]; rfl⟩
    · exact beq_iff_eq.1 (List.mem_filter.1 hy).2
    · obtain ⟨e', -, rfl⟩ := List.mem_map.1 he
      rfl
    · obtain ⟨-, es, -, hin, -⟩ := hto
      rw [hin]
      exact List.prefix_append _ _
    · have h := hstops n hlen
      unfold Part.dispatchStops at h ⊢
      rw [Part.headReady_congr hself (Part.raise_params _ _), Part.raise_engine, Part.event_engine]
      exact h
  · rw [Part.raise_lane, Part.event_lane, honly.state]
    rfl

end Sys2Proof.Machine
end

section
/-! The warm restart (O53). -/

namespace Sys2Proof.Machine

/-! ### Folds over the streams -/

/-- What a fold leaves of a stream's record, when each step changes its own stream's alone. -/
theorem Part.foldl_own_stream {f : Part → StreamId → Part} {g : StreamRec → StreamRec}
    (hstep : ∀ (q : Part) n m, (f q n).stream m = if m = n then g (q.stream m) else q.stream m) {xs : List StreamId}
    (hxs : xs.Nodup) (p : Part) (m : StreamId) :
    (xs.foldl f p).stream m = if m ∈ xs then g (p.stream m) else p.stream m := by
  induction xs generalizing p with
  | nil => simp
  | cons x xs ih =>
    obtain ⟨hx, hxs⟩ := List.nodup_cons.1 hxs
    rw [List.foldl_cons, ih hxs, hstep]
    by_cases hm : m = x
    · subst hm
      simp [hx]
    · simp [hm]

/-- What a fold gathers of the part, when each step changes its own stream's record alone. -/
theorem Part.foldl_gathers {α : Type} {f : Part → StreamId → Part} {g : StreamRec → StreamRec}
    (hstep : ∀ (q : Part) n m, (f q n).stream m = if m = n then g (q.stream m) else q.stream m) {I : Part → Prop}
    (hI : ∀ q n, I q → I (f q n)) {gathered : Part → α} {step : StreamId → StreamRec → α → α}
    (hg : ∀ q n, I q → gathered (f q n) = step n (q.stream n) (gathered q)) {xs : List StreamId} (hxs : xs.Nodup) {p : Part}
    (hp : I p) : gathered (xs.foldl f p) = xs.foldl (fun a n => step n (p.stream n) a) (gathered p) := by
  induction xs generalizing p with
  | nil => rfl
  | cons x xs ih =>
    obtain ⟨hx, hxs⟩ := List.nodup_cons.1 hxs
    rw [List.foldl_cons, List.foldl_cons, ih hxs (hI p x hp), hg p x hp]
    refine List.foldl_ext _ _ _ fun a n hn => ?_
    have hne : n ≠ x := fun h => hx (h ▸ hn)
    rw [hstep, if_neg hne]

theorem foldl_append_eq_flatMap {α β : Type} (g : α → List β) (xs : List α) (a : List β) :
    xs.foldl (fun b x => b ++ g x) a = a ++ xs.flatMap g := by
  induction xs generalizing a with
  | nil => simp
  | cons x xs ih => rw [List.foldl_cons, ih, List.flatMap_cons, List.append_assoc]

/-! ### One stream (R40) -/

/-- The completions that a warm restart gives a stream's READs and SWAPs (R40). -/
def StreamRec.restarted (r : StreamRec) : List Completion :=
  r.inflight.filterMap (fun e => if e.kind = .write then none else e.tag.map (fun t => ⟨t, .restarted, []⟩)) ++
    r.hold.filterMap (fun h => if h.work.kind = .write then none else some ⟨h.work.tag, .restarted, []⟩)

theorem Part.restartEntry_completions (p : Part) (n : StreamId) (e : OttEntry) : (p.restartEntry n e).completions =
    p.completions ++ (if e.kind = .write then none else e.tag.map (fun t => ⟨t, .restarted, []⟩) : Option Completion).toList := by
  unfold Part.restartEntry
  split
  · simp
  · exact Part.complete_completions _ _ _ _ _

theorem Part.giveUpHeld_restarted (p : Part) (n : StreamId) (h : Held) : (p.giveUpHeld n .restarted h).completions =
    p.completions ++
      (if h.work.kind = .write then none else some ⟨h.work.tag, .restarted, []⟩ : Option Completion).toList := by
  unfold Part.giveUpHeld
  split
  · simp
  · exact Part.complete_completions _ _ _ _ _

theorem Part.engineWork_restartEntry (p : Part) (n : StreamId) (e : OttEntry) : p.EngineWork (p.restartEntry n e) := by
  unfold Part.restartEntry
  split
  · exact .refl p
  · exact p.engineWork_complete _ _ _ _

theorem Part.restartEntry_log {p : Part} (h : p.unwatched) (n : StreamId) (e : OttEntry) : (p.restartEntry n e).log = p.log := by
  unfold Part.restartEntry
  split
  · rfl
  · exact Part.complete_log h _ _ _ _

/-- A stream's READs and SWAPs answered, before its lists are emptied (R40, step 1). -/
def Part.answeredRestarted (p : Part) (n : StreamId) : Part :=
  (p.stream n).hold.foldl (fun q h => q.giveUpHeld n .restarted h) ((p.stream n).inflight.foldl (fun q e => q.restartEntry n e) p)

theorem Part.engineWork_answeredRestarted (p : Part) (n : StreamId) : p.EngineWork (p.answeredRestarted n) :=
  (Part.engineWork_foldl _ (fun q e => q.engineWork_restartEntry n e) _ p).trans
    (Part.engineWork_foldl _ (fun q h => q.engineWork_giveUpHeld n _ h) _ _)

theorem Part.answeredRestarted_completions (p : Part) (n : StreamId) :
    (p.answeredRestarted n).completions = p.completions ++ (p.stream n).restarted := by
  unfold Part.answeredRestarted
  rw [Part.foldl_completions (fun q h => q.giveUpHeld n .restarted h)
      (fun h => if h.work.kind = .write then none else some ⟨h.work.tag, .restarted, []⟩)
      (fun q h _ => q.giveUpHeld_restarted n h),
    Part.foldl_completions (fun q e => q.restartEntry n e)
      (fun e => if e.kind = .write then none else e.tag.map (fun t => ⟨t, .restarted, []⟩))
      (fun q e _ => q.restartEntry_completions n e), List.append_assoc]
  rfl

theorem foldl_const_log (g : EventLog) {α : Type} (xs : List α) : xs.foldl (fun log _ => log) g = g := by
  induction xs with
  | nil => rfl
  | cons x xs ih => exact ih

theorem Part.answeredRestarted_log {p : Part} (h : p.unwatched) (n : StreamId) : (p.answeredRestarted n).log = p.log := by
  have hwork := Part.engineWork_foldl _ (fun q e => q.engineWork_restartEntry n e) (p.stream n).inflight p
  unfold Part.answeredRestarted
  rw [Part.foldl_log (fun q h => q.giveUpHeld n .restarted h) (fun _ _ g => g) (fun q h => q.engineWork_giveUpHeld n _ h)
      (fun q x hq => Part.giveUpHeld_log hq n _ x) _ _ (hwork.unwatched h), foldl_const_log,
    Part.foldl_log (fun q e => q.restartEntry n e) (fun _ _ g => g) (fun q e => q.engineWork_restartEntry n e)
      (fun q e hq => Part.restartEntry_log hq n e) _ p h, foldl_const_log]

theorem Part.restartStream_eq (p : Part) (n : StreamId) : p.restartStream n =
    ((((p.answeredRestarted n).logCount .writeFateUnknown n (fateUnknown ((p.stream n).inflight.map (OttEntry.ending none)))).logCount
      .writesDropped n (fateDropped ((p.stream n).inflight.map (OttEntry.ending none)) (p.stream n).hold)).emptyStream n
      none).modStream n (fun r => r.ended .idle) := rfl

theorem Part.engineWork_restartStream (p : Part) (n : StreamId) : p.EngineWork (p.restartStream n) := by
  rw [Part.restartStream_eq]
  exact ((((p.engineWork_answeredRestarted n).trans (Part.streamsOnly_logCount _ _ _ _).work).trans
    (Part.streamsOnly_logCount _ _ _ _).work).trans (Part.streamsOnly_emptyStream _ _ _).work).trans
    (Part.streamsOnly_modStream _ _ _).work

theorem Part.restartStream_completions (p : Part) (n : StreamId) :
    (p.restartStream n).completions = p.completions ++ (p.stream n).restarted := by
  rw [Part.restartStream_eq, Part.modStream_completions, (Part.streamsOnly_emptyStream _ _ _).completions,
    (Part.streamsOnly_logCount _ _ _ _).completions, (Part.streamsOnly_logCount _ _ _ _).completions,
    Part.answeredRestarted_completions]

theorem Part.restartStream_log {p : Part} (h : p.unwatched) (n : StreamId) :
    (p.restartStream n).log = (p.stream n).writesLog n p.timeCounter p.log := by
  have hself : ∀ e ∈ (p.stream n).inflight, e.endsAsItself none := fun e _ => e.endsAsItself_none
  have htime := (p.engineWork_answeredRestarted n).timeCounter
  have hempty : ∀ q : Part, (q.emptyStream n none).log = q.log := fun _ => rfl
  rw [Part.restartStream_eq, Part.modStream_log, hempty, Part.logCount_log, Part.logCount_log,
    (Part.streamsOnly_logCount _ _ _ _).work.timeCounter, htime, Part.answeredRestarted_log h, fateUnknown_eq hself,
    fateDropped_eq _ hself]
  rfl

/-- What a warm restart leaves of a stream's record (R39, R40). -/
def StreamRec.emptied (r : StreamRec) : StreamRec := ({ r with inflight := [], hold := [] } : StreamRec).ended .idle

theorem Part.restartStream_stream (p : Part) (n m : StreamId) :
    (p.restartStream n).stream m = if m = n then (p.stream m).emptied else p.stream m := by
  obtain ⟨q, haside, hq⟩ := p.restartStream_eq_emptyStream n
  rw [hq, Part.modStream_stream, Part.emptyStream_stream, haside.stream]
  split <;> rfl

/-! ### Every stream (R39, R40) -/

/-- The streams once each has been restarted. -/
def Part.allRestarted (p : Part) : Part := allStreams.foldl (fun q n => q.restartStream n) p

theorem Part.restartStreams_eq (p : Part) : p.restartStreams = p.allRestarted.modEngine (fun g => { g with lastServed := 63 }) :=
  rfl

theorem Part.allRestarted_stream (p : Part) (n : StreamId) : p.allRestarted.stream n = (p.stream n).emptied :=
  (Part.foldl_own_stream (f := fun q n => q.restartStream n) (g := StreamRec.emptied)
    (fun q n m => q.restartStream_stream n m) (xs := allStreams) (List.nodup_finRange 64) p n).trans (if_pos (List.mem_finRange n))

theorem Part.engineWork_allRestarted (p : Part) : p.EngineWork p.allRestarted :=
  Part.engineWork_foldl _ (fun q n => q.engineWork_restartStream n) allStreams p

theorem Part.allRestarted_completions (p : Part) :
    p.allRestarted.completions = p.completions ++ allStreams.flatMap (fun n => (p.stream n).restarted) :=
  (Part.foldl_gathers (f := fun q n => q.restartStream n) (g := StreamRec.emptied) (I := fun _ => True)
    (fun q n m => q.restartStream_stream n m) (fun _ _ _ => trivial) (gathered := Part.completions)
    (step := fun _ r a => a ++ r.restarted) (fun q n _ => q.restartStream_completions n) (xs := allStreams)
    (List.nodup_finRange 64) (p := p) trivial).trans
    (foldl_append_eq_flatMap (fun n => (p.stream n).restarted) allStreams p.completions)

theorem Part.allRestarted_log {p : Part} (h : p.unwatched) : p.allRestarted.log =
    allStreams.foldl (fun log n => (p.stream n).writesLog n p.timeCounter log) p.log :=
  Part.foldl_gathers (f := fun q n => q.restartStream n) (g := StreamRec.emptied)
    (I := fun q => q.unwatched ∧ q.timeCounter = p.timeCounter)
    (fun q n m => q.restartStream_stream n m)
    (fun q n hq => ⟨(q.engineWork_restartStream n).unwatched hq.1, (q.engineWork_restartStream n).timeCounter.trans hq.2⟩)
    (gathered := Part.log) (step := fun n r log => r.writesLog n p.timeCounter log)
    (fun q n hq => by rw [Part.restartStream_log hq.1, hq.2]) (xs := allStreams) (List.nodup_finRange 64) ⟨h, rfl⟩

end Sys2Proof.Machine
end

section
/-! The warm restart at the intake and at the lanes (O53). -/

namespace Sys2Proof.Machine

/-! ### The intake (R17) -/

/-- The queue discarded at a warm restart, before its READs and SWAPs are answered (R17). -/
def Part.queueCleared (p : Part) : Part := p.flushTally.modIntake (fun i => { i with queue := [], headWaited := false })

/-- The completion of a queued record at a warm restart (R17). -/
def Part.restartRecord (p : Part) (q : HostRecord) : Part :=
  if expectsAnswer q then p.answerHost q.tag .restarted [] else p

theorem Part.restartIntake_eq (p : Part) : p.restartIntake =
    if writesIn p.intake.queue = 0 then p.intake.queue.foldl (fun x q => x.restartRecord q) p.queueCleared
    else (p.intake.queue.foldl (fun x q => x.restartRecord q) p.queueCleared).event .writesDropped none none
      (sat16 (writesIn p.intake.queue)) := rfl

theorem Part.engineWork_restartRecord (p : Part) (q : HostRecord) : p.EngineWork (p.restartRecord q) := by
  unfold Part.restartRecord
  split
  · constructor <;> simp [Part.answerHost, Part.lane]
  · exact .refl p

theorem Part.restartRecord_intake (p : Part) (q : HostRecord) : (p.restartRecord q).intake = p.intake := by
  unfold Part.restartRecord
  split
  · exact p.answerHost_intake _ _ _
  · rfl

theorem Part.restartRecord_completions (p : Part) (q : HostRecord) : (p.restartRecord q).completions =
    p.completions ++ (if q.kind = 0x02#8 then none else some ⟨q.tag, .restarted, []⟩ : Option Completion).toList := by
  unfold Part.restartRecord
  by_cases hk : q.kind = 0x02#8
  · rw [if_neg (by rw [(expectsAnswer_eq_false q).2 hk]; exact Bool.false_ne_true), if_pos hk]
    exact (List.append_nil _).symm
  · rw [if_pos ((expectsAnswer_iff q).2 hk), if_neg hk]
    exact p.answerHost_completions _ _ _

theorem Part.restartRecord_log {p : Part} (h : p.unwatched) (q : HostRecord) : (p.restartRecord q).log = p.log := by
  unfold Part.restartRecord
  split
  · exact Part.answerHost_log_of_unwatched h _ _ _
  · rfl

/-- A warm restart at the intake: what it leaves of the intake and the lanes, and what it hands over (R17). -/
theorem Part.restartIntake_spec (p : Part) :
    p.restartIntake.intake = { p.intake with queue := [], headWaited := false, tally := none } ∧
    p.restartIntake.completions = p.completions ++
      p.intake.queue.filterMap (fun q => if q.kind = 0x02#8 then none else some ⟨q.tag, .restarted, []⟩) ∧
    p.restartIntake.params = p.params ∧ p.restartIntake.now = p.now := by
  have hwork := Part.engineWork_foldl (fun x q => x.restartRecord q) (fun x q => x.engineWork_restartRecord q)
    p.intake.queue p.queueCleared
  have hintake : (p.intake.queue.foldl (fun x q => x.restartRecord q) p.queueCleared).intake = p.queueCleared.intake :=
    foldl_keeps (I := fun x => x.intake = p.queueCleared.intake) (f := fun x q => x.restartRecord q)
      (fun x q hx => (x.restartRecord_intake q).trans hx) _ rfl
  have hcompletions := Part.foldl_completions (fun x q => x.restartRecord q)
    (fun q => if q.kind = 0x02#8 then none else some ⟨q.tag, .restarted, []⟩) (xs := p.intake.queue)
    (fun x q _ => x.restartRecord_completions q) p.queueCleared
  have hcleared : p.queueCleared.intake = { p.intake with queue := [], headWaited := false, tally := none } := by
    rw [Part.queueCleared, Part.modIntake_intake, p.flushTally_intake]
  have hnow : p.queueCleared.now = p.now := p.flushTally_now
  have hparams : p.queueCleared.params = p.params := p.flushTally_params
  have hc : p.queueCleared.completions = p.completions := p.flushTally_completions
  rw [hc] at hcompletions
  rw [p.restartIntake_eq]
  split
  · exact ⟨hintake.trans hcleared, hcompletions, hwork.params.trans hparams, hwork.now.trans hnow⟩
  · exact ⟨hintake.trans hcleared, hcompletions, hwork.params.trans hparams, hwork.now.trans hnow⟩

theorem Part.restartIntake_log {p : Part} (h : p.unwatched) (ht : p.intake.tally = none) : p.restartIntake.log =
    p.log.counted .writesDropped none (p.intake.queue.countP (fun q => q.kind == 0x02#8)) p.timeCounter := by
  have hflush : p.queueCleared = p.modIntake (fun i => { i with queue := [], headWaited := false }) := by
    rw [Part.queueCleared, Part.flushTally_of_none ht]
  have hlog : (p.intake.queue.foldl (fun x q => x.restartRecord q) p.queueCleared).log = p.log := by
    rw [Part.foldl_log (fun x q => x.restartRecord q) (fun _ _ g => g) (fun x q => x.engineWork_restartRecord q)
      (fun x q hx => Part.restartRecord_log hx q) _ _ (by rw [hflush]; exact h), foldl_const_log, hflush]
    rfl
  have htime : (p.intake.queue.foldl (fun x q => x.restartRecord q) p.queueCleared).timeCounter = p.timeCounter := by
    rw [(Part.engineWork_foldl (fun x q => x.restartRecord q) (fun x q => x.engineWork_restartRecord q)
      p.intake.queue p.queueCleared).timeCounter, hflush]
    rfl
  rw [p.restartIntake_eq, ← writesIn_eq]
  unfold EventLog.counted
  split
  · exact hlog
  · rw [Part.event_log, hlog, htime]
    rfl

/-! ### The lanes (R87, R88) -/

/-- A lane's record but for its queue. -/
def LaneRec.unqueued (r : LaneRec) : LaneRec := { r with queue := [] }

/-- A lane after its pending restart has been judged with no stream on it (R87). -/
def LaneRec.restartedTo (r r' : LaneRec) : Prop :=
  (r.restartPending = false → r'.unqueued = r.unqueued) ∧ (r.restartPending = true → r'.state = .quiet)

theorem LaneRec.restartedTo.congr {r s r' : LaneRec} (h : s.restartedTo r') (hrs : s.unqueued = r.unqueued) : r.restartedTo r' := by
  have hpending : s.unqueued.restartPending = r.unqueued.restartPending := by rw [hrs]
  exact ⟨fun hr => (h.1 (hpending.trans hr)).trans hrs, fun hr => h.2 (hpending.trans hr)⟩

theorem Part.judgeRestart_lane_of_ne (p : Part) {l m : Lane} (h : m ≠ l) :
    ((p.judgeRestart l).lane m).unqueued = (p.lane m).unqueued := by
  unfold Part.judgeRestart
  split
  · have hlane := p.restartLane_lane_of_ne h
    generalize (p.restartLane l).lane m = r at hlane ⊢
    rw [hlane]
    rfl
  · rfl

theorem Part.judgeRestart_lane_self {p : Part} {l : Lane} (h : p.carries l = false) :
    (p.lane l).restartedTo ((p.judgeRestart l).lane l) := by
  unfold Part.judgeRestart
  refine ⟨fun hp => by rw [if_neg fun c => Bool.false_ne_true (hp.symm.trans c.1)], fun hp => ?_⟩
  rw [if_pos ⟨hp, h⟩, Part.restartLane, p.enterQuiet_lane_self l (laneEvent_lanes _ _ _)]

/-- No stream has a carrier. -/
def Part.noneCarried (p : Part) : Prop := ∀ n, (p.stream n).carrier = none

theorem Part.noneCarried.carries {p : Part} (h : p.noneCarried) (l : Lane) : p.carries l = false :=
  (p.carries_eq_false_iff l).2 fun n hn => absurd (hn.symm.trans (h n)) (by simp)

theorem Part.noneCarried.judgeRestart {p : Part} (h : p.noneCarried) (l : Lane) : (p.judgeRestart l).noneCarried := fun n => by
  rw [p.judgeRestart_stream l n]
  exact h n

theorem Part.foldl_judgeRestart_lane {xs : List Lane} (hxs : xs.Nodup) {p : Part} (h : p.noneCarried) (m : Lane) :
    (m ∉ xs → ((xs.foldl Part.judgeRestart p).lane m).unqueued = (p.lane m).unqueued) ∧
    (m ∈ xs → (p.lane m).restartedTo ((xs.foldl Part.judgeRestart p).lane m)) := by
  induction xs generalizing p with
  | nil => exact ⟨fun _ => rfl, fun hm => absurd hm List.not_mem_nil⟩
  | cons x xs ih =>
    obtain ⟨hx, hxs⟩ := List.nodup_cons.1 hxs
    obtain ⟨hout, hin⟩ := ih hxs (h.judgeRestart x)
    refine ⟨fun hm => ?_, fun hm => ?_⟩
    · obtain ⟨hne, hm⟩ : m ≠ x ∧ m ∉ xs := by simpa using hm
      exact (hout hm).trans (p.judgeRestart_lane_of_ne hne)
    · by_cases hmx : m = x
      · subst hmx
        have hself := Part.judgeRestart_lane_self (h.carries m)
        have hrest := hout hx
        have hstate : ((xs.foldl Part.judgeRestart (p.judgeRestart m)).lane m).unqueued.state =
            ((p.judgeRestart m).lane m).unqueued.state := by rw [hrest]
        exact ⟨fun hp => hrest.trans (hself.1 hp), fun hp => hstate.trans (hself.2 hp)⟩
      · exact (hin ((List.mem_cons.1 hm).resolve_left hmx)).congr (p.judgeRestart_lane_of_ne hmx)

theorem Part.judgeRestarts_eq (p : Part) : p.judgeRestarts = [Lane.a0, .a1, .b0, .b1].foldl Part.judgeRestart p := rfl

theorem Part.judgeRestarts_lane {p : Part} (h : p.noneCarried) (m : Lane) : (p.lane m).restartedTo (p.judgeRestarts.lane m) :=
  (Part.foldl_judgeRestart_lane (xs := [Lane.a0, .a1, .b0, .b1]) (by decide) h m).2 (by cases m <;> decide)

/-- No REQUEST and no ASK stands in a queue. -/
def Part.noTransactions (p : Part) : Prop := ∀ l, ∀ f ∈ (p.lane l).queue, f.isTransaction = false

theorem Part.noTransactions.judgeRestart {p : Part} (h : p.noTransactions) (l : Lane) : (p.judgeRestart l).noTransactions := by
  intro m f hf
  rcases p.judgeRestart_queue l m with hq | hq
  · exact h m f (hq ▸ hf)
  · rw [hq] at hf
    rw [List.mem_singleton.1 hf]
    rfl

theorem Part.restartLane_samePools (p : Part) (l : Lane) (h : p.carries l = false) : p.SamePools (p.restartLane l) := by
  have hcarry := (p.carries_eq_false_iff l).1 h
  unfold Part.restartLane Part.enterQuiet Part.changeLane
  dsimp only
  generalize hq : p.moveLane l .quiet _ _ = q
  have hengine : q.engine = p.engine := hq ▸ p.moveLane_engine l .quiet _ (fun _ => rfl)
  refine (Part.SamePools.of_eq hengine).trans ?_
  unfold Part.SamePools
  rw [(q.streamsTake_of_not_carried l _ .quiet (by simp) fun m => by rw [Part.stream, hengine]; exact hcarry m).rest]

/-- A lane's restart leaves the engine's pools as they are (R87). -/
theorem Part.judgeRestart_samePools (p : Part) (l : Lane) : p.SamePools (p.judgeRestart l) := by
  unfold Part.judgeRestart
  split
  · next h => exact p.restartLane_samePools l h.2
  · exact .refl p

theorem Part.judgeRestarts_samePools (p : Part) : p.SamePools p.judgeRestarts :=
  (((p.judgeRestart_samePools .a0).trans (Part.judgeRestart_samePools _ .a1)).trans
    (Part.judgeRestart_samePools _ .b0)).trans (Part.judgeRestart_samePools _ .b1)

theorem Part.judgeRestarts_stream (p : Part) (n : StreamId) : p.judgeRestarts.stream n =
    { p.stream n with returnTimer := (p.judgeRestarts.stream n).returnTimer } := by
  have htrans : ∀ (q : Part) (l : Lane), q.stream n = { p.stream n with returnTimer := (q.stream n).returnTimer } →
      (q.judgeRestart l).stream n = { p.stream n with returnTimer := ((q.judgeRestart l).stream n).returnTimer } :=
    fun q l hq => (q.judgeRestart_stream l n).trans (by rw [hq])
  exact htrans _ .b1 (htrans _ .b0 (htrans _ .a1 (htrans p .a0 rfl)))

/-! ### O53 -/

theorem Part.restartService_intake (p : Part) : p.restartService.intake = { p.intake with
    service := if p.intake.service = .init then .init else .running
    credits := p.restartService.intake.credits } := by
  have hservice : p.intake.service.restarted = if p.intake.service = .init then .init else .running := by
    cases p.intake.service <;> rfl
  rw [Part.restartService, Part.modIntake_intake, Intake.offer_eq, hservice]

/-- The part before its tags are closed, its service state set and its pass started (R182). -/
def Part.restartedLanes (p : Part) : Part := p.restartIntake.restartStreams.restartLanes

theorem Part.warmRestart_eq (p : Part) : p.warmRestart = (p.restartedLanes.closeTags.restartService).startPass .restart := rfl

/-- Settles O53. -/
theorem warmRestartEmpties : Obligations.WarmRestartEmpties := by
  intro p w hport
  obtain ⟨hintake, hcompletions, hparams, hnow⟩ := p.restartIntake_spec
  have haside := p.aside_restartIntake
  have hstreams : ∀ n, p.restartIntake.stream n = p.stream n := haside.stream
  have hlanes : ∀ l, p.restartIntake.lane l = p.lane l := haside.lane
  have hlog := fun hu ht => Part.restartIntake_log (p := p) hu ht
  have htime : p.restartIntake.timeCounter = p.timeCounter := by rw [Part.timeCounter, hnow]; rfl
  generalize hx : p.restartIntake = x at hintake hcompletions hparams hstreams hlanes hlog htime
  have hwork := x.engineWork_allRestarted
  have hrestarted := x.allRestarted_stream
  have hgathered := x.allRestarted_completions
  have hrlog := fun hu => Part.allRestarted_log (p := x) hu
  simp only [hstreams] at hrestarted hgathered hrlog
  generalize hy : x.allRestarted = y at hwork hrestarted hgathered hrlog
  have hunqueued : p.restartedLanes =
      ((y.modEngine (fun g => { g with lastServed := 63 })).unqueue Frame.isTransaction).judgeRestarts := by
    rw [Part.restartedLanes, hx, Part.restartStreams_eq, hy]
    rfl
  generalize hz : (y.modEngine (fun g => { g with lastServed := 63 })).unqueue Frame.isTransaction = z at hunqueued
  have hzstream : ∀ n, z.stream n = (p.stream n).emptied := fun n => by rw [← hz]; exact hrestarted n
  have hzlane : ∀ l, z.lane l = { y.lane l with queue := (y.lane l).queue.filter (fun f => !f.isTransaction) } := fun l => by
    rw [← hz, Part.unqueue_lane]; rfl
  have hzrest : z.params = y.params ∧ z.intake = y.intake ∧ z.completions = y.completions ∧ z.log = y.log ∧
      z.engine.lastServed = 63 := by rw [← hz]; exact ⟨rfl, rfl, rfl, rfl, rfl⟩
  have hznone : z.noneCarried := fun n => by rw [hzstream]; rfl
  have hzfree : z.noTransactions := fun l f hf => by
    rw [hzlane] at hf
    simpa using (List.mem_filter.1 hf).2
  have hjudged := z.laneWork_judgeRestarts
  have hfree : z.judgeRestarts.noTransactions :=
    (((hzfree.judgeRestart .a0).judgeRestart .a1).judgeRestart .b0).judgeRestart .b1
  have hserved : z.judgeRestarts.engine.lastServed = 63 := by
    rw [z.judgeRestarts_samePools]
    exact hzrest.2.2.2.2
  have hlane := fun l => Part.judgeRestarts_lane hznone l
  have hstream : ∀ n, z.judgeRestarts.stream n =
      { (p.stream n).emptied with returnTimer := (z.judgeRestarts.stream n).returnTimer } := fun n => by
    rw [← hzstream]
    exact z.judgeRestarts_stream n
  have hjlog : (∀ l, (z.lane l).restartPending = false) → z.judgeRestarts.log = z.log := fun h => by
    rw [Part.judgeRestarts, Part.judgeRestart_of_not (h .a0), Part.judgeRestart_of_not (h .a1),
      Part.judgeRestart_of_not (h .b0), Part.judgeRestart_of_not (h .b1)]
  have hpending : ∀ l, (z.lane l).restartPending = (p.lane l).restartPending := fun l => by
    rw [hzlane, hwork.lane, hlanes]
  generalize z.judgeRestarts = j at *
  have hjintake : j.intake = { x.intake with openTags := y.intake.openTags } := by
    rw [hjudged.intake, hzrest.2.1, hwork.intake]
  have hfinal : p.warmRestart.reply .ok = ((j.closeTags.restartService).startPass .restart).reply .ok := by
    rw [p.warmRestart_eq, hunqueued]
  have hservice := j.closeTags.restartService_intake
  have hfintake : (((j.closeTags.restartService).startPass .restart).reply .ok).intake = j.closeTags.restartService.intake := rfl
  have hclosed : j.closeTags.intake = { x.intake with openTags := Vector.replicate 256 false } := by
    rw [Part.closeTags, Part.modIntake_intake, hjintake]
  rw [hclosed] at hservice
  have hfcompletions : (((j.closeTags.restartService).startPass .restart).reply .ok).completions = j.completions := rfl
  have hfparams : (((j.closeTags.restartService).startPass .restart).reply .ok).params = j.params := rfl
  have hfengine : (((j.closeTags.restartService).startPass .restart).reply .ok).engine = j.engine := rfl
  have hflog : (((j.closeTags.restartService).startPass .restart).reply .ok).log = j.log := rfl
  have hfstream : ∀ n, (((j.closeTags.restartService).startPass .restart).reply .ok).stream n = j.stream n := fun _ => rfl
  have hflane : ∀ l, (((j.closeTags.restartService).startPass .restart).reply .ok).lane l = j.lane l := fun _ => rfl
  have hfpatrol : (((j.closeTags.restartService).startPass .restart).reply .ok).patrol = ⟨0, .restart, false⟩ := rfl
  have hfstatus : (((j.closeTags.restartService).startPass .restart).reply .ok).port.status = 0x00#8 := rfl
  have hfdata : (((j.closeTags.restartService).startPass .restart).reply .ok).port.data = [] := rfl
  refine ⟨p.warmRestart.reply .ok, State.manage_of_free hport w _, ?_⟩
  rw [hfinal]
  generalize ((j.closeTags.restartService).startPass .restart).reply .ok = d at *
  rw [hservice, hintake] at hfintake
  refine ⟨hfstatus, hfdata, ?_, by rw [hfintake], fun t => ?_, by rw [hfintake], by rw [hfintake], ?_, by rw [hfengine, hserved],
    hfpatrol, fun hu ht hall => ?_, fun n => ?_, fun l => ⟨fun f hf => ?_, fun hp => ?_, fun hp => ?_⟩⟩
  · rw [hfcompletions, hjudged.completions, hzrest.2.2.1, hgathered, hcompletions]
    rfl
  · rw [hfintake]
    simp [Intake.tagOpen, Vector.get]
  · rw [hfparams, hjudged.params, hzrest.1, hwork.params, hparams]
  · rw [hflog, hjlog fun l => (hpending l).trans (hall l), hzrest.2.2.2.1, hrlog (hu.of_params hparams), htime, hlog hu ht]
  · rw [hfstream, hstream]
    exact ⟨rfl, rfl, rfl, rfl, rfl, rfl, rfl, rfl, rfl, rfl, rfl⟩
  · rw [hflane] at hf
    have hnot := hfree l f hf
    exact ⟨fun hk => Bool.false_ne_true (hnot.symm.trans ((Frame.isTransaction_iff f).2 (.inl hk))),
      fun hk => Bool.false_ne_true (hnot.symm.trans ((Frame.isTransaction_iff f).2 (.inr hk)))⟩
  · have hrec := (hlane l).1 ((hpending l).trans hp)
    rw [hzlane, hwork.lane, hlanes] at hrec
    have hfields : ∀ {β : Type} (field : LaneRec → β), (∀ r : LaneRec, field r.unqueued = field r) →
        field (j.lane l) = field (p.lane l) := fun field hfield => by
      rw [← hfield, hrec]
      exact hfield (p.lane l)
    rw [hflane]
    exact ⟨hfields LaneRec.state fun _ => rfl, hfields LaneRec.figure fun _ => rfl, hfields LaneRec.latency fun _ => rfl⟩
  · rw [hflane]
    exact (hlane l).2 ((hpending l).trans hp)

end Sys2Proof.Machine
end

section
/-! The fresh case of a TELL (O20). -/

namespace Sys2Proof.Machine

/-! ### What ends an event leaves of the dispatch (R87, R143) -/

theorem Part.restartLane_lane_eq (p : Part) {l m : Lane} (h : p.carries l = false) (hm : m ≠ l) :
    (p.restartLane l).lane m = p.lane m := by
  unfold Part.restartLane Part.enterQuiet Part.changeLane
  dsimp only
  generalize hq : p.moveLane l .quiet _ _ = q
  have hmove : ∀ n, q.stream n = p.stream n := fun n => hq ▸ p.moveLane_stream l .quiet _ (laneEvent_stream .laneRestarted l 0) n
  have hfree := (p.carries_eq_false_iff l).1 h
  rw [(q.streamsTake_of_not_carried l _ .quiet (by simp) fun n => by rw [hmove n]; exact hfree n).lane m, ← hq,
    p.moveLane_lane_of_ne hm _ _ (laneEvent_lanes _ _ _)]

theorem Part.judgeRestart_lane_of_carried {p : Part} {l : Lane} {n : StreamId} (h : (p.stream n).carrier = some l) (m : Lane) :
    (p.judgeRestart m).lane l = p.lane l ∧ ((p.judgeRestart m).stream n).carrier = some l := by
  refine ⟨?_, by rw [p.judgeRestart_stream m n]; exact h⟩
  by_cases hm : l = m
  · rw [← hm, Part.judgeRestart_of_carried h]
  · unfold Part.judgeRestart
    split
    · next hc => exact p.restartLane_lane_eq hc.2 hm
    · rfl

/-- The end of an event changes no lane that a stream is on (R87). -/
theorem Part.settle_lane_eq {p : Part} {l : Lane} {n : StreamId} (h : (p.stream n).carrier = some l) :
    p.settle.lane l = p.lane l := by
  obtain ⟨h0, c0⟩ := Part.judgeRestart_lane_of_carried h .a0
  obtain ⟨h1, c1⟩ := Part.judgeRestart_lane_of_carried c0 .a1
  obtain ⟨h2, c2⟩ := Part.judgeRestart_lane_of_carried c1 .b0
  obtain ⟨h3, -⟩ := Part.judgeRestart_lane_of_carried c2 .b1
  rw [Part.settle, (Part.aside_judgeQuiesce _).lane, Part.judgeRestarts, h3, h2, h1, h0]

/-- The end of an event makes no held request ready, and no entry free (R26, R143). -/
theorem Part.dispatchStops.settle {p : Part} {n : StreamId} (h : p.dispatchStops n) : p.settle.dispatchStops n := by
  have hparams : p.settle.params = p.params :=
    (Part.aside_judgeQuiesce _).params.trans p.laneWork_judgeRestarts.params
  have hentries : p.settle.engine.freeEntries = p.engine.freeEntries := by
    rw [Part.settle, (Part.aside_judgeQuiesce _).entries, p.judgeRestarts_samePools]
  have hready : p.settle.headReady n = p.headReady n := by
    unfold Part.headReady Part.windowAllows StreamRec.swapCount
    rw [p.settle_stream n, hparams]
  unfold Part.dispatchStops
  rw [hready, hentries]
  exact h

/-! ### Each entry has its REQUEST on the carrier (R22, R26) -/

/-- The REQUEST frame of an entry of a stream, in what R46 gives it from the entry and the stream. -/
def StreamRec.requestedBy (r : StreamRec) (n : StreamId) (e : OttEntry) (f : Frame) : Prop :=
  f.kind = .request ∧ f.header.stream = n ∧ f.header.seq = e.seq ∧ f.header.op = e.kind.op ∧ f.header.epoch = r.epoch ∧
    f.header.address = e.address

/-- The stream is on the lane, where the REQUEST of each of its entries waits that a list does not hold. -/
def Part.requested (p : Part) (n : StreamId) (l : Lane) (old : List OttEntry) : Prop :=
  (p.stream n).carrier = some l ∧
    ∀ e ∈ (p.stream n).inflight, e ∉ old → ∃ f ∈ (p.lane l).queue, (p.stream n).requestedBy n e f

theorem Part.requested.dispatchHead {p : Part} {n m : StreamId} {l : Lane} {old : List OttEntry} (h : p.requested n l old)
    (hready : p.headReady m = true) (hfree : p.engine.freeEntries ≠ []) : (p.dispatchHead m).requested n l old := by
  obtain ⟨hc, hall⟩ := h
  obtain ⟨x, hs, hhold⟩ := Part.headReady_hold hready
  obtain ⟨i, rest, hfree'⟩ := List.exists_cons_of_ne_nil hfree
  have hqueue := p.dispatchHead_lane_queue hhold hfree' l
  have hstream := p.dispatchHead_stream hhold hfree' n
  have hold : ∀ e ∈ (p.stream n).inflight, e ∉ old →
      ∃ f ∈ ((p.dispatchHead m).lane l).queue, (p.stream n).requestedBy n e f := fun e he hnew => by
    obtain ⟨f, hf, hreq⟩ := hall e he hnew
    exact ⟨f, by rw [hqueue]; exact List.mem_append_left _ hf, hreq⟩
  by_cases hn : n = m
  · subst hn
    rw [if_pos rfl] at hstream
    rw [if_pos hc] at hqueue
    rw [Part.requested, hstream]
    refine ⟨hc, fun e he hnew => ?_⟩
    rcases List.mem_append.1 he with he | he
    · exact hold e he hnew
    · rw [List.mem_singleton.1 he, hqueue]
      exact ⟨_, List.mem_append_right _ (List.mem_singleton_self _), rfl, rfl, rfl, rfl, rfl, rfl⟩
  · rw [if_neg hn] at hstream
    rw [Part.requested, hstream]
    exact ⟨hc, hold⟩

/-- What the dispatch of a head keeps, the dispatch of a hold list keeps. -/
theorem Part.dispatchHeld_keeps {I : Part → Prop}
    (hI : ∀ (q : Part) m, q.headReady m = true → q.engine.freeEntries ≠ [] → I q → I (q.dispatchHead m)) (n : StreamId) (k : Nat) :
    ∀ {p : Part}, I p → I (p.dispatchHeld n k) := by
  induction k with
  | zero => exact id
  | succ k ih =>
    intro p h
    unfold Part.dispatchHeld
    split
    · next hc => exact ih (hI p n hc.1 hc.2 h)
    · exact h

theorem Part.serve_keeps {I : Part → Prop}
    (hI : ∀ (q : Part) m, q.headReady m = true → q.engine.freeEntries ≠ [] → I q → I (q.served m)) {p : Part} (h : I p) : I p.serve := by
  have harbitrate : ∀ (k : Nat) (q : Part), I q → I (q.arbitrate k) := by
    intro k
    induction k with
    | zero => exact fun q hq => hq
    | succ k ih =>
      intro q hq
      by_cases hfree : q.engine.freeEntries = []
      · rw [Part.arbitrate_of_no_entry hfree]
        exact hq
      · cases hfind : q.arbiterOrder.find? q.headReady with
        | none =>
          rw [Part.arbitrate, if_neg hfree, hfind]
          exact hq
        | some m =>
          rw [Part.arbitrate_succ hfree hfind]
          exact ih _ (hI q m (List.find?_some hfind) hfree hq)
  exact harbitrate 64 p h

section
variable {p : Part} {n : StreamId} {l : Lane} {old : List OttEntry} (h : p.requested n l old)
include h

theorem Part.requested.dispatchHeld (m : StreamId) (k : Nat) : (p.dispatchHeld m k).requested n l old :=
  Part.dispatchHeld_keeps (I := fun q => q.requested n l old) (fun _ _ hr hf hq => hq.dispatchHead hr hf) m k h

theorem Part.requested.serve : p.serve.requested n l old :=
  Part.serve_keeps (I := fun q => q.requested n l old) (fun q m hr hf hq => by
    have hhead := hq.dispatchHead hr hf
    unfold Part.requested at hhead ⊢
    rw [Part.served_stream]
    exact hhead) h

/-- A stream's return timer and what else leaves its entries, its epoch and the lane's queue is no matter. -/
theorem Part.requested.congr {q : Part} (hs : q.stream n = { p.stream n with returnTimer := (q.stream n).returnTimer })
    (hl : (q.lane l).queue = (p.lane l).queue) : q.requested n l old := by
  unfold Part.requested
  rw [hs, hl]
  exact h

theorem Part.requested.afterBound (hl : (p.lane l).leaving = false) : (p.afterBound n).requested n l old := by
  rw [Part.afterBound, Part.judgeLeaving_of_staying h.1 hl]
  have hretimed := ((p.dispatchHeld n 64).serve).retimed_judgeReturn n
  exact (h.dispatchHeld n 64).serve.congr (hretimed.stream n) (by rw [hretimed.lane l])

end

/-! ### O20 -/

/-- A TELL in the fresh case, with no move pending (R118, R122). -/
theorem Part.takeTell_fresh {p : Part} {n : StreamId} {l : Lane} {h : Header} (hm : (p.stream n).mark = none)
    (hi : (p.stream n).inflight = []) : p.takeTell n l h =
      (((p.modStream n (fun r => { r with askTimer := none, askAttempts := 0 })).modStream n
        (fun r => r.freshTell h)).endBinding n).settle := by
  rw [Part.takeTell, Part.judgeTell, if_pos]
  rw [Part.modStream_stream_self]
  exact ⟨hm, hi⟩

/-- What a stream that holds nothing has dispatched is nothing (R26). -/
theorem StreamRec.dispatchedTo_of_no_hold {r r' : StreamRec} (h : r.dispatchedTo r') (hh : r.hold = []) :
    r'.nextSeq = r.nextSeq ∧ r'.inflight = r.inflight := by
  obtain ⟨hs, es, hhold, hin, hbecome, -, hnext⟩ := h
  rw [hh] at hhold
  obtain ⟨rfl, -⟩ := List.append_eq_nil_iff.1 hhold.symm
  cases hbecome
  exact ⟨by rw [hnext]; exact BitVec.add_zero _, by rw [hin, List.append_nil]⟩

/-- Settles O20. -/
theorem freshTellAccepted : Obligations.FreshTellAccepted := by
  intro p w l h n next hn hoff hleaving hdest hepoch hcarrier hstate hmark hinflight hmove hnext
  have hexec := Part.accepts.tell ⟨hn, hoff, hdest, hepoch, hcarrier⟩ hstate w
  rw [Part.takeTell_fresh (by rw [p.reached_stream]; exact hmark) (by rw [p.reached_stream]; exact hinflight)] at hexec
  generalize hx : ((p.reached l).modStream n (fun r => { r with askTimer := none, askAttempts := 0 })).modStream n
    (fun r => r.freshTell h) = x at hexec
  have hrec : x.stream n = StreamRec.freshTell { p.stream n with askTimer := none, askAttempts := 0 } h := by
    rw [← hx, Part.modStream_stream_self, Part.modStream_stream_self, p.reached_stream]
  have hlane : x.lane l = (p.reached l).lane l := by rw [← hx]; rfl
  have hxc : (x.stream n).carrier = some l := by rw [hrec]; exact hcarrier
  have hxm : (x.stream n).move = none := by rw [hrec]; exact hmove
  have hxl : (x.lane l).leaving = false := by rw [hlane, p.reached_lane_self]; exact hleaving
  have hresumed := Part.endBinding_spec hxc hxl (.inl hxm)
  have hlanded := x.landed_stream_self n
  have hrequested : (x.endBinding n).requested n l [] := by
    rw [Part.endBinding_bound (.inl hxm)]
    refine Part.requested.afterBound ⟨by rw [hlanded]; exact hxc, fun e he _ => ?_⟩ (by rw [Part.lane, x.landed_lanes]; exact hxl)
    rw [hlanded] at he
    have hnone : (x.stream n).inflight = [] := by rw [hrec]; exact hinflight
    exact absurd (hnone ▸ he) List.not_mem_nil
  have hsettled := (x.endBinding n).settle_stream n
  have hfinal := hrequested.congr hsettled (by rw [Part.settle_lane_eq hrequested.1])
  obtain ⟨r, hdisp, hself⟩ := hresumed.stream
  rw [hlanded, hrec] at hdisp
  have hfields := hdisp.rest
  rw [hself] at hsettled
  have hnextSeq : ({ (StreamRec.freshTell { p.stream n with askTimer := none, askAttempts := 0 } h).bound with
      move := none } : StreamRec).nextSeq = next := hnext.symm
  have hto : StreamRec.dispatchedTo { p.stream n with nextSeq := next } ((x.endBinding n).settle.stream n) := by
    rw [hsettled, ← hnextSeq]
    exact hdisp.dispatched
  have hepoch' : ((x.endBinding n).settle.stream n).epoch = (p.stream n).epoch := by rw [hsettled, hfields]; rfl
  refine ⟨_, hexec, by rw [hsettled, hfields]; rfl, by rw [hsettled, hfields]; exact hcarrier, hepoch', ?mark,
    by rw [hsettled, hfields]; rfl, by rw [hsettled, hfields]; rfl, by rw [hsettled, hfields]; rfl, by rw [hsettled, hfields]; rfl,
    fun m => by rw [hsettled, hfields]; exact LaneSet.empty_has m, by rw [hsettled, hfields]; rfl, hto,
    fun hlen => (hresumed.stops (by rw [hlanded, hrec]; exact hlen)).settle, fun hno => ?nothing, fun e he => ?requests⟩
  case mark =>
    rw [hsettled, hfields]
    show (if !h.fresh && h.markValid then some h.mark else none) = _
    cases h.fresh <;> cases h.markValid <;> rfl
  case nothing =>
    obtain ⟨hseq, hin⟩ := StreamRec.dispatchedTo_of_no_hold hto hno
    exact ⟨hseq, hin.trans hinflight⟩
  case requests =>
    obtain ⟨f, hf, hk, hs, hseq, hop, hfe, ha⟩ := hfinal.2 e he List.not_mem_nil
    exact ⟨f, hf, hk, hs, hseq, hop, hfe.trans hepoch', ha⟩

end Sys2Proof.Machine
end

section
/-! The replay that a TELL with history starts (O22). -/

namespace Sys2Proof.Machine

/-! ### The replay of a stream's entries (R121) -/

/-- An entry transmitted once more (R121). -/
def OttEntry.resent (e : OttEntry) : OttEntry := { e with transmissions := min 255 (e.transmissions + 1) }

theorem Part.replayEntry_eq {p : Part} {n : StreamId} {i : EntryIx} {e : OttEntry}
    (h : (p.stream n).inflight.find? (fun x => x.index == i) = some e) : p.replayEntry n i =
      ((p.modStream n (fun r => { r with inflight := r.inflight.map (fun x => if x.index = i then e.resent else x) })).queueRequest n
        e.resent).raise (.stream n .replayed) := by
  unfold Part.replayEntry
  rw [h]
  rfl

theorem Part.queueRequest_queue {p : Part} {n : StreamId} {l : Lane} (h : (p.stream n).carrier = some l) (e : OttEntry) :
    ((p.queueRequest n e).lane l).queue = (p.lane l).queue ++ [p.requestFrame n e] := by
  unfold Part.queueRequest
  rw [h]
  dsimp only
  rw [Part.place_lane_self]

/-- One entry replayed: its record, and its REQUEST at the tail of the carrier's queue (R121). -/
theorem Part.replayEntry_spec {p : Part} {n : StreamId} {l : Lane} (hc : (p.stream n).carrier = some l) {done todo : List OttEntry}
    {e : OttEntry} (hin : (p.stream n).inflight = done ++ e :: todo)
    (hnodup : ((done ++ e :: todo).map OttEntry.index).Nodup) :
    (p.replayEntry n e.index).stream n = { p.stream n with inflight := done ++ e.resent :: todo } ∧
    ((p.replayEntry n e.index).lane l).queue = (p.lane l).queue ++ [p.requestFrame n e] ∧
    p.StreamsOnly (p.replayEntry n e.index) := by
  have hmem : e ∈ done ++ e :: todo := List.mem_append_right _ List.mem_cons_self
  have hunique : ∀ x ∈ done ++ e :: todo, x.index = e.index → x = e := fun x hx hix =>
    List.inj_on_of_nodup_map hnodup hx hmem hix
  have hfind : (p.stream n).inflight.find? (fun x => x.index == e.index) = some e := by
    rw [hin]
    cases hf : (done ++ e :: todo).find? (fun x => x.index == e.index) with
    | none => exact absurd (List.find?_eq_none.1 hf e hmem) (by simp)
    | some x => rw [hunique x (List.mem_of_find?_eq_some hf) (by simpa using List.find?_some hf)]
  have hmap : (done ++ e :: todo).map (fun x => if x.index = e.index then e.resent else x) = done ++ e.resent :: todo := by
    have hother : ∀ x, x ∈ done ∨ x ∈ todo → x.index ≠ e.index := by
      rw [List.map_append, List.map_cons, List.nodup_append] at hnodup
      obtain ⟨-, hlater, hapart⟩ := hnodup
      rintro x (hx | hx)
      · exact hapart _ (List.mem_map_of_mem hx) _ List.mem_cons_self
      · exact fun h => (List.nodup_cons.1 hlater).1 (h ▸ List.mem_map_of_mem hx)
    rw [List.map_append, List.map_cons, if_pos rfl, List.map_congr_left (fun x hx => if_neg (hother x (.inl hx))),
      List.map_congr_left (fun x hx => if_neg (hother x (.inr hx))), List.map_id', List.map_id']
  have hself := p.modStream_stream_self n (fun r =>
    { r with inflight := r.inflight.map (fun x => if x.index = e.index then e.resent else x) })
  rw [hin, hmap] at hself
  have honly := Part.streamsOnly_modStream p n (fun r =>
    { r with inflight := r.inflight.map (fun x => if x.index = e.index then e.resent else x) })
  rw [Part.replayEntry_eq hfind]
  generalize hq : p.modStream n (fun r =>
    { r with inflight := r.inflight.map (fun x => if x.index = e.index then e.resent else x) }) = q at hself honly
  have hlane : q.lane l = p.lane l := by rw [← hq]; rfl
  have hframe : q.requestFrame n e.resent = p.requestFrame n e := by
    unfold Part.requestFrame
    rw [hself, honly.params]
    rfl
  refine ⟨?_, ?_, honly.trans ((Part.streamsOnly_queueRequest _ _ _).trans (Part.streamsOnly_raise _ _))⟩
  · rw [Part.raise_stream, Part.queueRequest_stream, hself]
  · rw [Part.raise_lane, Part.queueRequest_queue (by rw [hself]; exact hc), hlane, hframe]

/-- The entries from one on replayed in turn, those before it being done (R121). -/
theorem Part.foldl_replayEntry {n : StreamId} {l : Lane} (todo : List OttEntry) : ∀ {p : Part} {done : List OttEntry},
    (p.stream n).carrier = some l → (p.stream n).inflight = done ++ todo → ((done ++ todo).map OttEntry.index).Nodup →
    ((todo.map OttEntry.index).foldl (fun q i => q.replayEntry n i) p).stream n =
      { p.stream n with inflight := done ++ todo.map OttEntry.resent } ∧
    (((todo.map OttEntry.index).foldl (fun q i => q.replayEntry n i) p).lane l).queue =
      (p.lane l).queue ++ todo.map (p.requestFrame n) := by
  induction todo with
  | nil =>
    intro p done _ hin _
    rw [List.append_nil] at hin
    exact ⟨by rw [List.map_nil, List.map_nil, List.append_nil, ← hin]; rfl, (List.append_nil _).symm⟩
  | cons e todo ih =>
    intro p done hc hin hnodup
    obtain ⟨hstream, hqueue, honly⟩ := Part.replayEntry_spec hc hin hnodup
    have hindex : ((done ++ [e.resent]) ++ todo).map OttEntry.index = (done ++ e :: todo).map OttEntry.index := by simp [OttEntry.resent]
    obtain ⟨hstream', hqueue'⟩ := ih (p := p.replayEntry n e.index) (done := done ++ [e.resent])
      (by rw [hstream]; exact hc) (by rw [hstream, List.append_assoc]; rfl) (by rw [hindex]; exact hnodup)
    have hframe : (p.replayEntry n e.index).requestFrame n = p.requestFrame n := by
      funext x
      unfold Part.requestFrame
      rw [hstream, honly.params]
    rw [List.map_cons, List.foldl_cons, hstream', hqueue', hstream, hqueue, hframe]
    exact ⟨by rw [List.map_cons, List.append_assoc]; rfl, by rw [List.map_cons, List.append_assoc]; rfl⟩

/-- Entry to REPLAYING: every entry sent once more, its REQUEST last on the carrier's queue, in order (R121). -/
theorem Part.replay_spec {p : Part} {n : StreamId} {l : Lane} (hc : (p.stream n).carrier = some l)
    (hnodup : ((p.stream n).inflight.map OttEntry.index).Nodup) :
    (p.replay n).stream n =
      { p.stream n with state := .replaying, inflight := (p.stream n).inflight.map OttEntry.resent } ∧
    ((p.replay n).lane l).queue = (p.lane l).queue ++ (p.stream n).inflight.map (p.requestFrame n) := by
  have hself := p.modStream_stream_self n (fun r => { r with state := .replaying })
  have hfold := Part.foldl_replayEntry (n := n) (l := l) (p.stream n).inflight
    (p := p.modStream n (fun r => { r with state := .replaying })) (done := []) (by rw [hself]; exact hc) (by rw [hself]; rfl) hnodup
  rw [hself] at hfold
  have hframe : (p.modStream n (fun r => { r with state := .replaying })).requestFrame n = p.requestFrame n := by
    funext x
    unfold Part.requestFrame
    rw [hself]
    rfl
  rw [hframe] at hfold
  exact hfold

/-! ### O22 -/

theorem Part.retireWrites_queue (p : Part) (n : StreamId) (mark : Seq) (own : Option Seq) (l : Lane) :
    ∀ f ∈ ((p.retireWrites n mark own).lane l).queue, f ∈ (p.lane l).queue := by
  refine foldl_keeps (I := fun q => ∀ f ∈ (q.lane l).queue, f ∈ (p.lane l).queue) (f := fun q e => q.retireWrite n own e)
    (fun q e hq f hf => hq f ?_) _ fun f hf => hf
  have hretire : ∀ f ∈ ((q.retire n e).lane l).queue, f ∈ (q.lane l).queue := fun g hg => by
    rw [Part.retire, Part.unqueue_lane] at hg
    exact (List.mem_filter.1 hg).1
  unfold Part.retireWrite at hf
  dsimp only at hf
  split at hf
  · exact hretire f hf
  · rw [Part.raise_lane] at hf
    exact hretire f hf

/-- A TELL accepted, before the arbiter and what continues the binding (R120). -/
def Part.tellAccepted (p : Part) (n : StreamId) (l : Lane) (h : Header) : Part :=
  (((p.modStream n (fun r => { r with mark := some h.mark })).retireWrites n h.mark none).modStream n
    (fun r => { r with recallDepth := some h.recallDepth, swapLimit := swapLimitOf (some h.recallDepth) })).compareRejections n l
    h.rejections

theorem Part.acceptTell_eq (p : Part) (n : StreamId) (l : Lane) (h : Header) :
    p.acceptTell n l h = (p.tellAccepted n l h).serve.continueBinding n := rfl

theorem Part.streamsOnly_tellAccepted (p : Part) (n : StreamId) (l : Lane) (h : Header) : p.StreamsOnly (p.tellAccepted n l h) :=
  (((Part.streamsOnly_modStream p n _).trans (Part.streamsOnly_retireWrites _ _ _ _)).trans
    (Part.streamsOnly_modStream _ n _)).trans (Part.streamsOnly_compareRejections _ n l _)

theorem Part.tellAccepted_stream {p : Part} {n : StreamId} (hnodup : ((p.stream n).inflight.map OttEntry.index).Nodup) (l : Lane)
    (h : Header) : (p.tellAccepted n l h).stream n = { p.stream n with
      mark := some h.mark, recallDepth := some h.recallDepth, swapLimit := swapLimitOf (some h.recallDepth),
      rejections := h.rejections
      inflight := (p.stream n).inflight.filter (fun x => !(x.kind == .write && serialAtOrBefore x.seq h.mark)) } := by
  have hmarked := p.modStream_stream_self n (fun r => { r with mark := some h.mark })
  rw [Part.tellAccepted, Part.compareRejections_stream, if_pos rfl, Part.modStream_stream_self,
    Part.retireWrites_stream _ n n h.mark none (by rw [hmarked]; exact hnodup), if_pos rfl, hmarked]

theorem Part.tellAccepted_queue (p : Part) (n : StreamId) (l m : Lane) (h : Header) :
    ∀ f ∈ ((p.tellAccepted n l h).lane m).queue, f ∈ (p.lane m).queue := by
  intro f hf
  have hlane : (p.tellAccepted n l h).lane m = (((p.modStream n (fun r => { r with mark := some h.mark })).retireWrites n h.mark
      none).modStream n (fun r => { r with
        recallDepth := some h.recallDepth, swapLimit := swapLimitOf (some h.recallDepth) })).lane m := by
    unfold Part.tellAccepted Part.compareRejections
    split <;> rfl
  rw [hlane, Part.modStream_lane] at hf
  have hmem := Part.retireWrites_queue _ n h.mark none m f hf
  rwa [Part.modStream_lane] at hmem

theorem Part.takeTell_accepted {p : Part} {n : StreamId} {l : Lane} {h : Header}
    (hhistory : (p.stream n).mark ≠ none ∨ (p.stream n).inflight ≠ []) (hc : (p.stream n).contradiction h = none) :
    p.takeTell n l h =
      ((p.modStream n (fun r => { r with askTimer := none, askAttempts := 0 })).acceptTell n l h).settle := by
  have hself := p.modStream_stream_self n (fun r => { r with askTimer := none, askAttempts := 0 })
  have hcontra : ((p.modStream n (fun r => { r with askTimer := none, askAttempts := 0 })).stream n).contradiction h = none := by
    rw [hself]
    exact hc
  rw [Part.takeTell, Part.judgeTell, if_neg, hcontra]
  rw [hself]
  rintro ⟨hm, hi⟩
  exact hhistory.elim (· hm) (· hi)

/-- Settles O22. -/
theorem tellReplays : Obligations.TellReplays := by
  intro p w l h n left hn hoff hdest hepoch hcarrier hstate hcontra hnodup hleft hne
  have hinflight : (p.stream n).inflight ≠ [] := by
    rintro hi
    rw [hi] at hleft
    exact hne hleft
  have hexec := Part.accepts.tell ⟨hn, hoff, hdest, hepoch, hcarrier⟩ hstate w
  rw [Part.takeTell_accepted (by rw [p.reached_stream]; exact .inr hinflight) (by rw [p.reached_stream]; exact hcontra),
    Part.acceptTell_eq] at hexec
  generalize hx : (p.reached l).modStream n (fun r => { r with askTimer := none, askAttempts := 0 }) = x at hexec
  have hxonly : (p.reached l).StreamsOnly x := by rw [← hx]; exact Part.streamsOnly_modStream _ n _
  have hrec : x.stream n = { p.stream n with askTimer := none, askAttempts := 0 } := by
    rw [← hx, Part.modStream_stream_self, p.reached_stream]
  have hxqueue : (x.lane l).queue = (p.lane l).queue := by
    rw [← hx, Part.modStream_lane, p.reached_lane_self]
  have haccepted := Part.tellAccepted_stream (p := x) (n := n) (by rw [hrec]; exact hnodup) l h
  have hxonly' := hxonly.trans (x.streamsOnly_tellAccepted n l h)
  have hqueue := x.tellAccepted_queue n l l h
  rw [hrec] at haccepted
  generalize x.tellAccepted n l h = a at hexec haccepted hxonly' hqueue
  have haway : (a.stream n).state ≠ .bound := by rw [haccepted, hstate]; exact (by decide : StreamState.binding ≠ .bound)
  have hserved : a.serve.stream n = a.stream n := (a.serve_dispatched n).away haway
  obtain ⟨added, hfilled, hadded⟩ := a.serve_fills l
  have honly := hxonly'.trans a.streamsOnly_serve
  have hrecord : a.serve.stream n = { p.stream n with
      askTimer := none, askAttempts := 0, mark := some h.mark, recallDepth := some h.recallDepth,
      swapLimit := swapLimitOf (some h.recallDepth), rejections := h.rejections, inflight := left } := by
    rw [hserved, haccepted, hleft]
  generalize a.serve = b at hexec hfilled honly hrecord
  have hcontinue : b.continueBinding n = b.replay n := if_neg (by rw [hrecord]; exact hne)
  have hbc : (b.stream n).carrier = some l := by rw [hrecord]; exact hcarrier
  obtain ⟨hreplay, htail⟩ := Part.replay_spec hbc (by
    rw [hrecord, hleft]
    exact hnodup.sublist (List.Sublist.map _ List.filter_sublist))
  have hparams : b.params = p.params := honly.params.trans (p.reached_params l)
  have hcompletions : (b.replay n).completions = p.completions :=
    (b.streamsOnly_replay n).completions.trans (honly.completions.trans (p.reached_completions l))
  rw [hcontinue] at hexec
  rw [hrecord] at hreplay htail
  have hframe : b.requestFrame n = p.requestFrame n := by
    funext e
    unfold Part.requestFrame
    rw [hrecord, hparams]
  rw [hframe] at htail
  generalize b.replay n = c at hexec hreplay htail hcompletions
  have hcarried : (c.stream n).carrier = some l := by rw [hreplay]; exact hcarrier
  have hsettled := c.settle_stream n
  rw [hreplay] at hsettled
  refine ⟨_, (b.lane l).queue, hexec, by rw [hsettled], by rw [hsettled], by rw [hsettled]; exact hcarrier, by rw [hsettled],
    by rw [hsettled], by rw [hsettled], by rw [hsettled], by rw [hsettled]; rfl, ?_, fun f hf => ?_,
    c.settle_completions.trans hcompletions⟩
  · rw [Part.settle_lane_eq hcarried, htail]
    rfl
  · rw [hfilled] at hf
    rcases List.mem_append.1 hf with hf | hf
    · exact .inl (hxqueue ▸ hqueue f hf)
    · refine .inr fun hfn => haway ?_
      rw [← hfn]
      exact (hadded f hf).2

end Sys2Proof.Machine
end

section
/-! What a taken ANSWER does before held requests are dispatched (R31 to R36), for O18 and O19. -/

namespace Sys2Proof.Machine

/-! ### A frame heard (R45, R78, R158) -/

/-- Nothing has happened to the part but a frame's count and its lane's silence timer. -/
structure Part.Heard (p q : Part) : Prop where
  engine : q.engine = p.engine
  intake : q.intake = p.intake
  completions : q.completions = p.completions
  params : q.params = p.params
  now : q.now = p.now
  reports : q.reports = p.reports
  sides : q.sides = p.sides
  lane : ∀ m, q.lane m = { p.lane m with timers := (q.lane m).timers }
  log : p.unwatched → q.log = p.log

theorem Part.heard_answer (p : Part) (l : Lane) (n : StreamId) (h : Header) :
    p.Heard ((p.reached l).countDuplicate n h) := by
  have hlane : ∀ m, (p.reached l).lane m = { p.lane m with timers := ((p.reached l).lane m).timers } := fun m => by
    by_cases hm : m = l
    · rw [hm, p.reached_lane_self]
    · rw [p.reached_lane_of_ne hm]
  have hreached : p.Heard (p.reached l) := by
    refine ⟨by simp, by simp, by simp, by simp, by simp, by simp, by simp, hlane, fun hu => Part.reached_log hu l⟩
  unfold Part.countDuplicate
  split
  · obtain ⟨hengine, hintake, hcompletions, hparams, hnow, hreports, hsides, -, hlog⟩ := hreached
    exact ⟨(Part.raise_engine _ _).trans hengine, (Part.raise_intake _ _).trans hintake,
      (Part.raise_completions _ _).trans hcompletions, (Part.raise_params _ _).trans hparams, (Part.raise_now _ _).trans hnow,
      (Part.raise_reports _ _).trans hreports, (Part.raise_sides _ _).trans hsides,
      fun m => by rw [Part.raise_lane]; exact hlane m,
      fun hu => (Part.unwatched_raise (hu.of_params hparams) _).trans (hlog hu)⟩
  · exact hreached

section
variable {p q : Part} (h : p.Heard q)
include h

theorem Part.Heard.stream (n : StreamId) : q.stream n = p.stream n := by rw [Part.stream, h.engine]; rfl
theorem Part.Heard.timeCounter : q.timeCounter = p.timeCounter := by rw [Part.timeCounter, h.now]; rfl
theorem Part.Heard.unwatched (hu : p.unwatched) : q.unwatched := hu.of_params h.params
theorem Part.Heard.settled (hs : p.settled) : q.settled :=
  ⟨fun l => by rw [h.lane l]; exact hs.1 l, by rw [h.intake]; exact hs.2⟩
theorem Part.Heard.eligible (tried : LaneSet) (x : Option Lane) (m : Lane) : q.eligible tried x m = p.eligible tried x m := by
  unfold Part.eligible
  rw [h.lane m]
theorem Part.Heard.side (d : Side) : q.side d = p.side d := by cases d <;> simp [Part.side, h.sides]
theorem Part.Heard.choose (preferred : Lane) (tried : LaneSet) (kind : BindingKind) :
    q.choose preferred tried kind = p.choose preferred tried kind := by
  have heligible : q.eligible tried kind.excluded = p.eligible tried kind.excluded := funext fun m => h.eligible tried _ m
  have hstate : ∀ m, (q.lane m).state = (p.lane m).state := fun m => by rw [h.lane m]
  unfold Part.choose Part.ranked
  simp only [heligible, hstate, h.side]

end

/-! ### The mark and the WRITEs it retires (R31) -/

theorem advanceMark_eq (r : StreamRec) (s : Seq) : advanceMark r.mark s = r.markAfter s := by
  unfold advanceMark StreamRec.markAfter serialBefore
  cases r.mark with
  | none => rfl
  | some m => simp only [Bool.and_eq_true, decide_eq_true_eq]

theorem Part.streamsOnly_applyMark (p : Part) (n : StreamId) (s : Seq) : p.StreamsOnly (p.applyMark n s) :=
  (Part.streamsOnly_modStream p n _).trans (Part.streamsOnly_retireWrites _ _ _ _)

/-- The WRITEs that a mark retires. -/
def StreamRec.writesTo (r : StreamRec) (mark : Seq) : List OttEntry :=
  r.inflight.filter (fun e => e.kind == .write && serialAtOrBefore e.seq mark)

theorem Part.applyMark_stream (p : Part) (n m : StreamId) (s : Seq) : (p.applyMark n s).stream m =
    if m = n then { p.stream m with
      mark := some ((p.stream m).markAfter s)
      inflight := (p.stream m).inflight.filter (fun x =>
        !(((p.stream m).writesTo ((p.stream m).markAfter s)).map OttEntry.index).contains x.index) }
    else p.stream m := by
  unfold Part.applyMark
  dsimp only
  rw [advanceMark_eq, Part.retireWrites, Part.foldl_retireWrite_stream, Part.modStream_stream, Part.modStream_stream_self]
  by_cases hm : m = n
  · subst hm
    rw [if_pos rfl, if_pos rfl, if_pos rfl]
    rfl
  · rw [if_neg hm, if_neg hm, if_neg hm]

theorem StreamRec.filter_writesTo {r : StreamRec} (hnodup : (r.inflight.map OttEntry.index).Nodup) (mark : Seq) :
    r.inflight.filter (fun x => !((r.writesTo mark).map OttEntry.index).contains x.index) =
      r.inflight.filter (fun x => !(x.kind == .write && serialAtOrBefore x.seq mark)) := by
  refine List.filter_congr fun x hx => congrArg not ?_
  rw [Bool.eq_iff_iff, List.contains_iff_mem, List.mem_map]
  constructor
  · rintro ⟨y, hy, hxy⟩
    obtain ⟨hmem, htest⟩ := List.mem_filter.1 hy
    rwa [List.inj_on_of_nodup_map hnodup hmem hx hxy] at htest
  · exact fun htest => ⟨x, List.mem_filter.2 ⟨hx, htest⟩, rfl⟩

/-- What stays in flight under a mark is no WRITE at or before it (R31). -/
theorem StreamRec.mem_filter_writesTo {r : StreamRec} {mark : Seq} {x : OttEntry}
    (hx : x ∈ r.inflight.filter (fun x => !((r.writesTo mark).map OttEntry.index).contains x.index)) :
    x ∈ r.inflight ∧ (x.kind = .write → serialAtOrBefore x.seq mark = false) := by
  obtain ⟨hmem, hout⟩ := List.mem_filter.1 hx
  refine ⟨hmem, fun hk => Bool.eq_false_iff.2 fun hs => ?_⟩
  have hin : x ∈ r.writesTo mark := List.mem_filter.2 ⟨hmem, by rw [hk, hs]; rfl⟩
  have hcontains : ((r.writesTo mark).map OttEntry.index).contains x.index = true :=
    List.contains_iff_mem.2 (List.mem_map_of_mem hin)
  rw [hcontains] at hout
  exact absurd hout (by decide)

/-! ### The completion of the answered entry (R33) -/

/-- The completion that R33's table gives a READ or SWAP. -/
def OttEntry.answeredWith (e : OttEntry) (h : Header) (payload : List Byte) : CompletionStatus × List Byte :=
  if e.kind = .read then
    (if h.op = 0#4 ∧ payload.length = e.length then (.ok, payload) else (.endpointError, []))
  else if e.poisoned then (.poisoned, [])
  else if (h.op = 0#4 ∨ h.op = 2#4) ∧ payload.length = 8 then (.ok, payload)
  else if h.op = 3#4 ∧ payload = [] then (.outcomeUnknown, [])
  else (.endpointError, [])

theorem answerStatus_of_op {e : OttEntry} {h : Header} {st : AnswerStatus} (hst : AnswerStatus.ofCode h.op = st)
    (payload : List Byte) : answerStatus e h payload = if payload.length = fittingLength e st then st else .error := by
  rw [← hst]
  rfl

/-- The statuses that the codes of an ANSWER name (R184). -/
theorem AnswerStatus.ofCode_cases (c : BitVec 4) :
    (c = 0#4 ∧ ofCode c = .ok) ∨ (c = 2#4 ∧ ofCode c = .dup) ∨ (c = 3#4 ∧ ofCode c = .dupUnknown) ∨
      ((c ≠ 0#4 ∧ c ≠ 2#4 ∧ c ≠ 3#4) ∧ ofCode c = .error) := by
  revert c
  decide

theorem answerStatus_read {e : OttEntry} (hk : e.kind = .read) (h : Header) (payload : List Byte) :
    answerStatus e h payload = .ok ↔ h.op = 0#4 ∧ payload.length = e.length := by
  rcases AnswerStatus.ofCode_cases h.op with ⟨hop, hst⟩ | ⟨hop, hst⟩ | ⟨hop, hst⟩ | ⟨⟨hop, -, -⟩, hst⟩ <;>
    rw [answerStatus_of_op hst]
  · simp [fittingLength, hk, hop]
  · split <;> simp [hop]
  · split <;> simp [hop]
  · simp [hop]

/-- R33 for a SWAP that is not poisoned. -/
theorem completeSwap_status {e : OttEntry} (hk : e.kind = .swap) (hp : e.poisoned = false) (h : Header) (payload : List Byte) :
    match answerStatus e h payload with
    | .ok | .dup => e.answeredWith h payload = (.ok, payload)
    | .dupUnknown => e.answeredWith h payload = (.outcomeUnknown, [])
    | .error => e.answeredWith h payload = (.endpointError, []) := by
  unfold OttEntry.answeredWith
  rw [hk, hp]
  rcases AnswerStatus.ofCode_cases h.op with ⟨hop, hst⟩ | ⟨hop, hst⟩ | ⟨hop, hst⟩ | ⟨⟨h0, h2, h3⟩, hst⟩ <;>
    rw [answerStatus_of_op hst]
  · by_cases hlen : payload.length = 8 <;> simp [fittingLength, hk, hop, hlen]
  · by_cases hlen : payload.length = 8 <;> simp [fittingLength, hk, hop, hlen]
  · by_cases hlen : payload = [] <;> simp [fittingLength, hop, hlen]
  · simp [h0, h2, h3]

/-- The completion of an answered READ or SWAP, with the event of an unknown outcome (R33). -/
theorem Part.completeEntry_eq (p : Part) (n : StreamId) (l : Lane) {e : OttEntry} (hk : e.kind ≠ .write) (h : Header)
    (payload : List Byte) :
    p.completeEntry n l e (answerStatus e h payload) payload =
      p.complete n e.tag (e.answeredWith h payload).1 (e.answeredWith h payload).2 ∨
    p.completeEntry n l e (answerStatus e h payload) payload =
      (p.complete n e.tag (e.answeredWith h payload).1 (e.answeredWith h payload).2).event .outcomeUnknown (some l) (some n)
        (e.seq.setWidth 16) := by
  unfold Part.completeEntry
  cases hkind : e.kind with
  | write => exact absurd hkind hk
  | read =>
    left
    have hread := answerStatus_read hkind h payload
    unfold OttEntry.answeredWith
    rw [if_pos hkind]
    dsimp only
    by_cases hok : h.op = 0#4 ∧ payload.length = e.length
    · rw [if_pos (hread.2 hok), if_pos hok]
    · rw [if_neg fun hst => hok (hread.1 hst), if_neg hok]
  | swap =>
    dsimp only
    cases hp : e.poisoned with
    | true =>
      left
      have hw : e.answeredWith h payload = (.poisoned, []) := by simp [OttEntry.answeredWith, hkind, hp]
      rw [hw, if_pos rfl]
    | false =>
      have hstatus := completeSwap_status hkind hp h payload
      rw [if_neg Bool.false_ne_true]
      unfold Part.completeSwap
      cases hst : answerStatus e h payload <;> rw [hst] at hstatus <;> dsimp only at hstatus ⊢ <;> rw [hstatus]
      · exact .inl rfl
      · exact .inl rfl
      · exact .inl rfl
      · exact .inr rfl

theorem Part.complete_tagOpen (p : Part) (n : StreamId) (tg : HostTag) (st : CompletionStatus) (d : List Byte) :
    (p.complete n (some tg) st d).intake.tagOpen tg = false := by
  rw [Part.complete, Part.raise_intake, Part.answerHost_intake]
  exact Vector.getElem_set_self _

theorem Part.completeEntry_answers (p : Part) (n : StreamId) (l : Lane) {e : OttEntry} (hk : e.kind ≠ .write) {tg : HostTag}
    (ht : e.tag = some tg) (h : Header) (payload : List Byte) :
    (p.completeEntry n l e (answerStatus e h payload) payload).completions =
      p.completions ++ [⟨tg, (e.answeredWith h payload).1, (e.answeredWith h payload).2⟩] ∧
    (p.completeEntry n l e (answerStatus e h payload) payload).intake.tagOpen tg = false := by
  have hc := p.complete_completions n (some tg) (e.answeredWith h payload).1 (e.answeredWith h payload).2
  have hopen := p.complete_tagOpen n tg (e.answeredWith h payload).1 (e.answeredWith h payload).2
  rcases p.completeEntry_eq n l hk h payload with heq | heq <;> rw [heq, ht]
  · exact ⟨hc, hopen⟩
  · exact ⟨hc, hopen⟩

theorem Part.engineWork_completeEntry (p : Part) (n : StreamId) (l : Lane) (e : OttEntry) (h : Header) (payload : List Byte) :
    p.EngineWork (p.completeEntry n l e (answerStatus e h payload) payload) := by
  by_cases hk : e.kind = .write
  · unfold Part.completeEntry
    rw [hk]
    dsimp only
    split
    · exact (p.streamsOnly_event _ _ _ _).work
    · exact .refl p
  · rcases p.completeEntry_eq n l hk h payload with heq | heq <;> rw [heq]
    · exact p.engineWork_complete _ _ _ _
    · exact (p.engineWork_complete _ _ _ _).trans (Part.streamsOnly_event _ _ _ _ _).work

end Sys2Proof.Machine
end

section
/-! What a taken ANSWER leaves before held requests are dispatched, and the completion it hands over (O18). -/

namespace Sys2Proof.Machine

/-! ### The steps after the mark (R32 to R36) -/

/-- The marks moved, and a missing result judged (R31, R32). -/
def Part.judgedMissing (p : Part) (n : StreamId) (s : Seq) : Part := (p.applyMark n s).judgeMissing n s

/-- What an ANSWER does before held requests are dispatched (R31 to R36). -/
def Part.answered (p : Part) (n : StreamId) (l : Lane) (e : OttEntry) (h : Header) (payload : List Byte) : Part :=
  (((((p.judgedMissing n h.seq).completeEntry n l e (answerStatus e h payload) payload).retireAnswered n e).noteRejections n l e
    (answerStatus e h payload) h.rejections).sampleOf l e)

theorem Part.takeMatched_eq (p : Part) (n : StreamId) (l : Lane) (e : OttEntry) (h : Header) (payload : List Byte) :
    p.takeMatched n l e h payload = (p.answered n l e h payload).afterAnswer n p.engine.freeEntries.length := rfl

theorem Part.takeAnswer_matched {p : Part} {n : StreamId} {h : Header} {e : OttEntry} (he : (p.stream n).entryAt h.seq = some e)
    (l : Lane) (payload : List Byte) : p.takeAnswer n l h payload = (p.countDuplicate n h).takeMatched n l e h payload := by
  unfold Part.takeAnswer
  dsimp only
  rw [he]

/-- A taken ANSWER for an entry in flight: the frame heard, and what follows (R30). -/
theorem Part.accepts.matched {p : Part} {l : Lane} {h : Header} {n : StreamId} (ha : p.accepts l h n)
    (hstate : (p.stream n).state.takesAnswers = true) {e : OttEntry} (he : (p.stream n).entryAt h.seq = some e)
    (payload : List Byte) (w : List Instr) : ∃ x, p.Heard x ∧ exec (.receiveAnswer l h payload false) ⟨p, w⟩ =
      .next ⟨(x.answered n l e h payload).afterAnswer n x.engine.freeEntries.length, w⟩ := by
  refine ⟨_, p.heard_answer l n h, (ha.answer hstate payload w).trans ?_⟩
  rw [Part.takeAnswer_matched (by rw [p.reached_stream]; exact he), Part.takeMatched_eq]

theorem Part.streamsOnly_judgedMissing (p : Part) (n : StreamId) (s : Seq) : p.StreamsOnly (p.judgedMissing n s) := by
  refine (p.streamsOnly_applyMark n s).trans ?_
  unfold Part.judgedMissing Part.judgeMissing
  split
  · exact Part.streamsOnly_rewind _ n _
  · exact .refl _

theorem Part.streamsOnly_retireAnswered (p : Part) (n : StreamId) (e : OttEntry) : p.StreamsOnly (p.retireAnswered n e) := by
  unfold Part.retireAnswered
  split
  · exact .refl p
  · exact p.streamsOnly_retire n e

theorem Part.streamsOnly_noteRejections (p : Part) (n : StreamId) (l : Lane) (e : OttEntry) (st : AnswerStatus) (c : BitVec 8) :
    p.StreamsOnly (p.noteRejections n l e st c) := by
  unfold Part.noteRejections
  dsimp only
  split
  · exact (Part.streamsOnly_modStream p n _).trans (Part.streamsOnly_compareRejections _ n l c)
  · exact p.streamsOnly_compareRejections n l c

theorem Part.streamsOnly_sampleOf (p : Part) (l : Lane) (e : OttEntry) : p.StreamsOnly (p.sampleOf l e) := by
  unfold Part.sampleOf
  split
  · split
    · exact p.streamsOnly_report _
    · exact .refl p
  · exact .refl p

/-- The steps after the completion touch the streams alone. -/
theorem Part.streamsOnly_afterCompletion (p : Part) (n : StreamId) (l : Lane) (e : OttEntry) (st : AnswerStatus) (c : BitVec 8) :
    p.StreamsOnly (((p.retireAnswered n e).noteRejections n l e st c).sampleOf l e) :=
  ((p.streamsOnly_retireAnswered n e).trans (Part.streamsOnly_noteRejections _ n l e st c)).trans (Part.streamsOnly_sampleOf _ l e)

theorem Part.engineWork_answered (p : Part) (n : StreamId) (l : Lane) (e : OttEntry) (h : Header) (payload : List Byte) :
    p.EngineWork (p.answered n l e h payload) :=
  ((p.streamsOnly_judgedMissing n h.seq).work.trans (Part.engineWork_completeEntry _ n l e h payload)).trans
    (Part.streamsOnly_afterCompletion _ n l e _ _).work

theorem Part.completeEntry_stream (p : Part) (n : StreamId) (l : Lane) (e : OttEntry) (h : Header) (payload : List Byte)
    (m : StreamId) : (p.completeEntry n l e (answerStatus e h payload) payload).stream m = p.stream m := by
  have hcomplete : ∀ (q : Part) st d, (q.complete n e.tag st d).stream m = q.stream m := fun q st d =>
    (q.aside_complete n e.tag st d).stream m
  by_cases hk : e.kind = .write
  · unfold Part.completeEntry
    rw [hk]
    dsimp only
    split
    · rfl
    · rfl
  · rcases p.completeEntry_eq n l hk h payload with heq | heq <;> rw [heq]
    · exact hcomplete p _ _
    · exact (Part.event_stream _ _ _ _ _ _).trans (hcomplete p _ _)

theorem Part.retireAnswered_stream (p : Part) (n m : StreamId) (e : OttEntry) : (p.retireAnswered n e).stream m =
    if m = n then { p.stream m with
      inflight := (p.stream m).inflight.filter (fun x => e.kind == .write || x.index != e.index) } else p.stream m := by
  unfold Part.retireAnswered
  split
  · next hk =>
    rw [hk]
    split <;> simp
  · next hk =>
    have hfalse : (e.kind == .write) = false := beq_eq_false_iff_ne.2 hk
    rw [Part.retire_stream, hfalse]
    simp

theorem Part.noteRejections_stream (p : Part) (n m : StreamId) (l : Lane) (e : OttEntry) (st : AnswerStatus) (c : BitVec 8) :
    (p.noteRejections n l e st c).stream m = if m = n then { p.stream m with rejections := c } else p.stream m := by
  unfold Part.noteRejections
  dsimp only
  by_cases hbad : e.kind = .write ∧ st = .error
  · rw [if_pos hbad, Part.compareRejections_stream, Part.modStream_stream]
    split <;> rfl
  · rw [if_neg hbad, Part.compareRejections_stream]

theorem Part.sampleOf_stream (p : Part) (l : Lane) (e : OttEntry) (m : StreamId) : (p.sampleOf l e).stream m = p.stream m := by
  unfold Part.sampleOf
  split
  · split <;> rfl
  · rfl

/-- The streams after an ANSWER's steps, from what the judgement of a missing result leaves (R33, R35). -/
theorem Part.answered_stream (p : Part) (n : StreamId) (l : Lane) (e : OttEntry) (h : Header) (payload : List Byte) (m : StreamId) :
    (p.answered n l e h payload).stream m = if m = n then { (p.judgedMissing n h.seq).stream m with
      inflight := ((p.judgedMissing n h.seq).stream m).inflight.filter (fun x => e.kind == .write || x.index != e.index)
      rejections := h.rejections } else (p.judgedMissing n h.seq).stream m := by
  rw [Part.answered, Part.sampleOf_stream, Part.noteRejections_stream, Part.retireAnswered_stream, Part.completeEntry_stream]
  split <;> rfl

/-! ### A missing result (R32) -/

theorem Part.judgedMissing_of_none {p : Part} {n : StreamId} {s : Seq} (h : ((p.applyMark n s).stream n).missing s = false) :
    p.judgedMissing n s = p.applyMark n s := by
  unfold Part.judgedMissing Part.judgeMissing
  rw [h]
  exact if_neg Bool.false_ne_true

theorem Part.judgedMissing_of_missing {p : Part} {n : StreamId} {s : Seq} (h : ((p.applyMark n s).stream n).missing s = true) :
    p.judgedMissing n s = (p.applyMark n s).rewind n .missingResult := if_pos h

theorem Part.applyMark_stream_of_ne (p : Part) {n m : StreamId} (h : m ≠ n) (s : Seq) : (p.applyMark n s).stream m = p.stream m := by
  rw [Part.applyMark_stream, if_neg h]

theorem Part.applyMark_carrier (p : Part) (n : StreamId) (s : Seq) : ((p.applyMark n s).stream n).carrier = (p.stream n).carrier := by
  rw [Part.applyMark_stream, if_pos rfl]

theorem Part.judgedMissing_stream_of_ne {p : Part} {n m : StreamId} {l : Lane} (hc : (p.stream n).carrier = some l) (h : m ≠ n)
    (s : Seq) : (p.judgedMissing n s).stream m = p.stream m := by
  cases hm : ((p.applyMark n s).stream n).missing s with
  | false => rw [Part.judgedMissing_of_none hm, p.applyMark_stream_of_ne h]
  | true =>
    rw [Part.judgedMissing_of_missing hm,
      Part.rewind_stream_of_ne (l := l) ((p.applyMark_carrier n s).trans hc) _ h, p.applyMark_stream_of_ne h]

/-- The answered stream after the judgement: as the mark left it, or rewound with its entries queued again (R32). -/
theorem Part.judgedMissing_outcome {p : Part} {n : StreamId} {l : Lane} (hc : (p.stream n).carrier = some l) (s : Seq) :
    (p.judgedMissing n s).stream n = (p.applyMark n s).stream n ∨
    (((p.judgedMissing n s).stream n).state = .binding ∨ ((p.judgedMissing n s).stream n).state = .stalled) ∧
      ((p.judgedMissing n s).stream n).mark = ((p.applyMark n s).stream n).mark ∧
      ((p.judgedMissing n s).stream n).hold = ((p.applyMark n s).stream n).hold ∧
      ((p.judgedMissing n s).stream n).inflight = ((p.applyMark n s).stream n).inflight.map OttEntry.requeued := by
  cases hm : ((p.applyMark n s).stream n).missing s with
  | false => exact .inl (by rw [Part.judgedMissing_of_none hm])
  | true =>
    right
    rw [Part.judgedMissing_of_missing hm, Part.rewind_stream_self (l := l) ((p.applyMark_carrier n s).trans hc)]
    refine ⟨?_, by simp, by simp, by simp⟩
    rcases StreamRec.rebound_outcome ((p.applyMark n s).stream n) (p.applyMark n s).now ⟨some l, none⟩ (p.applyMark n s).stallEnd
      (ok := fun _ => True) (fun _ (_ : (p.applyMark n s).chooseFor n ⟨some l, none⟩ = some _) => trivial) with ⟨hs, -⟩ | ⟨hs, -⟩
    · exact .inl hs
    · exact .inr hs

/-! ### The end of the event (R36, R143) -/

theorem Part.judgeDrain_of_not {p : Part} {n : StreamId} (h : (p.stream n).state ≠ .draining ∨ (p.stream n).inflight ≠ []) :
    p.judgeDrain n = p := if_neg fun c => h.elim (· c.1) (· c.2)

/-- Held requests dispatched in a stream that has no binding and no drain to end (R36). -/
theorem Part.afterAnswer_eq {p : Part} {n : StreamId} (hreplaying : (p.stream n).state ≠ .replaying)
    (hdraining : (p.stream n).state ≠ .draining) (k : Nat) : p.afterAnswer n k = ((p.dispatchHeld n k).serve).settle := by
  have hstate : (((p.dispatchHeld n k).serve).stream n).state = (p.stream n).state :=
    ((p.dispatchHeld_dispatched n k n).trans (Part.serve_dispatched _ n)).state
  rw [Part.afterAnswer, Part.judgeReplay_of_not (by rw [hstate]; exact hreplaying),
    Part.judgeDrain_of_not (.inl (by rw [hstate]; exact hdraining))]

theorem Part.afterAnswer_of_noneHeld {p : Part} {n : StreamId} (hheld : p.noneHeld) (hreplaying : (p.stream n).state ≠ .replaying)
    (hdraining : (p.stream n).state ≠ .draining) (k : Nat) : p.afterAnswer n k = p.settle := by
  rw [Part.afterAnswer_eq hreplaying hdraining, hheld.dispatchHeld, hheld.serve]

theorem Part.settle_openTags (p : Part) : p.settle.intake.openTags = p.intake.openTags := by
  rw [← p.laneWork_judgeRestarts.intake, Part.settle]
  by_cases hq : p.judgeRestarts.intake.service = .quiescing ∧ p.judgeRestarts.quiesceHolds = true
  · rw [(Part.judgeQuiesce_of_holds hq.1 hq.2).1]
  · rw [Part.judgeQuiesce, if_neg hq]

/-! ### O18: the completion -/

/-- What an ANSWER leaves of a BOUND stream's state (R32). -/
theorem Part.answered_state {p : Part} {n : StreamId} {l : Lane} (hc : (p.stream n).carrier = some l)
    (hs : (p.stream n).state = .bound) (e : OttEntry) (h : Header) (payload : List Byte) :
    ((p.answered n l e h payload).stream n).state ≠ .replaying ∧ ((p.answered n l e h payload).stream n).state ≠ .draining := by
  rw [Part.answered_stream, if_pos rfl]
  rcases Part.judgedMissing_outcome hc h.seq with heq | ⟨hstate | hstate, -⟩
  · have hbound : ((p.judgedMissing n h.seq).stream n).state = .bound := by
      rw [heq, Part.applyMark_stream, if_pos rfl]
      exact hs
    rw [hbound]
    decide
  · rw [hstate]
    decide
  · rw [hstate]
    decide

theorem Part.answered_noneHeld {p : Part} {n : StreamId} {l : Lane} (hc : (p.stream n).carrier = some l) (hheld : p.noneHeld)
    (e : OttEntry) (h : Header) (payload : List Byte) : (p.answered n l e h payload).noneHeld := by
  intro m
  rw [Part.answered_stream]
  by_cases hm : m = n
  · rw [if_pos hm, hm]
    have happlied : ((p.applyMark n h.seq).stream n).hold = [] := by
      rw [Part.applyMark_stream, if_pos rfl]
      exact hheld n
    rcases Part.judgedMissing_outcome hc h.seq with heq | ⟨-, -, hhold, -⟩
    · rw [heq]; exact happlied
    · exact hhold.trans happlied
  · rw [if_neg hm, Part.judgedMissing_stream_of_ne hc hm]
    exact hheld m

/-- What stays in flight after an ANSWER for a READ or SWAP: entries of before, but for their phase, none a WRITE at or
before the mark and none with the answered entry's index (R31, R33). -/
theorem Part.answered_inflight {p : Part} {n : StreamId} {l : Lane} (hc : (p.stream n).carrier = some l) {e : OttEntry}
    (hk : e.kind ≠ .write) (h : Header) (payload : List Byte) {x : OttEntry}
    (hx : x ∈ ((p.answered n l e h payload).stream n).inflight) :
    (x.kind = .write → serialAtOrBefore x.seq ((p.stream n).markAfter h.seq) = false) ∧
      ∃ y ∈ (p.stream n).inflight, y.seq = x.seq ∧ y.index ≠ e.index := by
  have hfalse : (e.kind == .write) = false := beq_eq_false_iff_ne.2 hk
  rw [Part.answered_stream, if_pos rfl, hfalse] at hx
  obtain ⟨hmem, hindex⟩ := List.mem_filter.1 hx
  have hne : x.index ≠ e.index := by simpa using hindex
  have hkept : ∀ y ∈ ((p.applyMark n h.seq).stream n).inflight, y ∈ (p.stream n).inflight ∧
      (y.kind = .write → serialAtOrBefore y.seq ((p.stream n).markAfter h.seq) = false) := fun y hy => by
    rw [Part.applyMark_stream, if_pos rfl] at hy
    exact StreamRec.mem_filter_writesTo hy
  rcases Part.judgedMissing_outcome hc h.seq with heq | ⟨-, -, -, hrequeued⟩
  · rw [heq] at hmem
    obtain ⟨hin, hwrite⟩ := hkept x hmem
    exact ⟨hwrite, x, hin, rfl, hne⟩
  · rw [hrequeued] at hmem
    obtain ⟨y, hy, rfl⟩ := List.mem_map.1 hmem
    obtain ⟨hin, hwrite⟩ := hkept y hy
    exact ⟨hwrite, y, hin, rfl, hne⟩

theorem Part.answered_mark {p : Part} {n : StreamId} {l : Lane} (hc : (p.stream n).carrier = some l) (e : OttEntry) (h : Header)
    (payload : List Byte) : ((p.answered n l e h payload).stream n).mark = some ((p.stream n).markAfter h.seq) := by
  have happlied : ((p.applyMark n h.seq).stream n).mark = some ((p.stream n).markAfter h.seq) := by
    rw [Part.applyMark_stream, if_pos rfl]
  rw [Part.answered_stream, if_pos rfl]
  rcases Part.judgedMissing_outcome hc h.seq with heq | ⟨-, hmark, -, -⟩
  · rw [heq]; exact happlied
  · exact hmark.trans happlied

/-- The completion that an ANSWER's steps hand over for a READ or SWAP, and the tag they close (R33, R34). -/
theorem Part.answered_completes (p : Part) (n : StreamId) (l : Lane) {e : OttEntry} (hk : e.kind ≠ .write) {tg : HostTag}
    (ht : e.tag = some tg) (h : Header) (payload : List Byte) : (p.answered n l e h payload).completions =
      p.completions ++ [⟨tg, (e.answeredWith h payload).1, (e.answeredWith h payload).2⟩] ∧
    (p.answered n l e h payload).intake.tagOpen tg = false := by
  obtain ⟨hcompletions, htag⟩ := (p.judgedMissing n h.seq).completeEntry_answers n l hk ht h payload
  have hafter := Part.streamsOnly_afterCompletion
    ((p.judgedMissing n h.seq).completeEntry n l e (answerStatus e h payload) payload) n l e (answerStatus e h payload) h.rejections
  rw [Part.answered, hafter.completions, hafter.intake, hcompletions, (p.streamsOnly_judgedMissing n h.seq).completions]
  exact ⟨rfl, htag⟩

theorem answerCompletes_completion (p : Part) (w : List Instr) (l : Lane) (h : Header) (payload : List Byte) (e : OttEntry)
    (tg : HostTag) (hoff : (p.lane l).state ≠ .off) (hdest : h.destination = p.params.sourceNode)
    (hepoch : h.epoch = (p.stream h.stream).epoch) (hc : (p.stream h.stream).carrier = some l)
    (hs : (p.stream h.stream).state = .bound) (he : (p.stream h.stream).entryAt h.seq = some e) (hk : e.kind ≠ .write)
    (ht : e.tag = some tg) (hheld : p.noneHeld) :
    ∃ p', exec (.receiveAnswer l h payload false) ⟨p, w⟩ = .next ⟨p', w⟩ ∧
      p'.completions = p.completions ++ [⟨tg, (e.answeredWith h payload).1, (e.answeredWith h payload).2⟩] ∧
      p'.intake.tagOpen tg = false ∧
      (p'.stream h.stream).mark = some ((p.stream h.stream).markAfter h.seq) ∧
      (((p.stream h.stream).inflight.map OttEntry.seq).Nodup → ∀ x ∈ (p'.stream h.stream).inflight, x.seq ≠ h.seq) ∧
      (∀ x ∈ (p'.stream h.stream).inflight, x.kind = .write →
        ∀ m, (p'.stream h.stream).mark = some m → serialAtOrBefore x.seq m = false) := by
  obtain ⟨x, hx, hexec⟩ := Part.accepts.matched (p := p) ⟨rfl, hoff, hdest, hepoch, hc⟩ (by rw [hs]; rfl) he payload w
  have hxc : (x.stream h.stream).carrier = some l := by rw [hx.stream]; exact hc
  have hxs : (x.stream h.stream).state = .bound := by rw [hx.stream]; exact hs
  obtain ⟨hreplaying, hdraining⟩ := Part.answered_state hxc hxs e h payload
  have hnone := Part.answered_noneHeld hxc (fun m => by rw [hx.stream]; exact hheld m) e h payload
  rw [Part.afterAnswer_of_noneHeld hnone hreplaying hdraining] at hexec
  obtain ⟨hcompletions, htag⟩ := x.answered_completes h.stream l hk ht h payload
  have hmark := Part.answered_mark hxc e h payload
  have hsettled := (x.answered h.stream l e h payload).settle_stream h.stream
  have hinflight := fun y hy => Part.answered_inflight (x := y) hxc hk h payload hy
  rw [hx.stream] at hmark
  simp only [hx.stream] at hinflight
  refine ⟨_, hexec, ?_, ?_, ?_, fun hnodup y hy => ?_, fun y hy hw m hm => ?_⟩
  · rw [Part.settle_completions, hcompletions, hx.completions]
  · rw [Intake.tagOpen, Part.settle_openTags]
    exact htag
  · rw [hsettled]
    exact hmark
  · rw [hsettled] at hy
    obtain ⟨-, z, hz, hzy, hne⟩ := hinflight y hy
    intro hseq
    have heseq : e.seq = h.seq := by simpa using List.find?_some he
    have hze : z = e := List.inj_on_of_nodup_map hnodup hz (List.mem_of_find?_eq_some he) (hzy.trans (hseq.trans heseq.symm))
    exact hne (by rw [hze])
  · rw [hsettled] at hy hm
    rw [← Option.some.inj (hmark.symm.trans hm)]
    exact (hinflight y hy).1 hw

end Sys2Proof.Machine
end

section
/-! What an ANSWER lets the engine dispatch (O18). -/

namespace Sys2Proof.Machine

/-! ### The entries that come free (R21, R31, R33) -/

/-- Entries have come free, last in the pool, and the arbiter has served nobody. -/
structure Part.Frees (p q : Part) (is : List EntryIx) : Prop where
  entries : q.engine.freeEntries = p.engine.freeEntries ++ is
  served : q.engine.lastServed = p.engine.lastServed

theorem Part.Frees.of_engine {p q : Part} (h : q.engine = p.engine) : p.Frees q [] :=
  ⟨by rw [h, List.append_nil], by rw [h]⟩

theorem Part.Frees.trans {p q r : Part} {is js : List EntryIx} (h : p.Frees q is) (k : q.Frees r js) : p.Frees r (is ++ js) :=
  ⟨by rw [k.entries, h.entries, List.append_assoc], k.served.trans h.served⟩

theorem Part.frees_modStream (p : Part) (n : StreamId) (f : StreamRec → StreamRec) : p.Frees (p.modStream n f) [] :=
  ⟨(List.append_nil _).symm, rfl⟩

theorem Part.frees_retire (p : Part) (n : StreamId) (e : OttEntry) : p.Frees (p.retire n e) [e.index] := ⟨rfl, rfl⟩

theorem Part.frees_retireWrite (p : Part) (n : StreamId) (own : Option Seq) (e : OttEntry) :
    p.Frees (p.retireWrite n own e) [e.index] := by
  unfold Part.retireWrite
  dsimp only
  split
  · exact p.frees_retire n e
  · exact (p.frees_retire n e).trans (.of_engine (Part.raise_engine _ _))

theorem Part.frees_foldl_retireWrite (n : StreamId) (own : Option Seq) (es : List OttEntry) :
    ∀ p : Part, p.Frees (es.foldl (fun q e => q.retireWrite n own e) p) (es.map OttEntry.index) := by
  induction es with
  | nil => exact fun p => .of_engine rfl
  | cons e es ih => exact fun p => (p.frees_retireWrite n own e).trans (ih _)

theorem Part.frees_applyMark (p : Part) (n : StreamId) (s : Seq) :
    p.Frees (p.applyMark n s) (((p.stream n).writesTo ((p.stream n).markAfter s)).map OttEntry.index) := by
  unfold Part.applyMark
  dsimp only
  rw [advanceMark_eq, Part.retireWrites, Part.modStream_stream_self]
  exact (p.frees_modStream n _).trans (Part.frees_foldl_retireWrite n _ _ _)

theorem Part.completeEntry_engine (p : Part) (n : StreamId) (l : Lane) (e : OttEntry) (h : Header) (payload : List Byte) :
    (p.completeEntry n l e (answerStatus e h payload) payload).engine = p.engine := by
  have hcomplete : ∀ (q : Part) st d, (q.complete n e.tag st d).engine = q.engine := fun q st d => by
    unfold Part.complete
    cases e.tag with
    | none => exact Part.raise_engine _ _
    | some t => exact (Part.raise_engine _ _).trans (Part.answerHost_engine _ _ _ _)
  by_cases hk : e.kind = .write
  · unfold Part.completeEntry
    rw [hk]
    dsimp only
    split
    · rfl
    · rfl
  · rcases p.completeEntry_eq n l hk h payload with heq | heq <;> rw [heq]
    · exact hcomplete p _ _
    · exact (Part.event_engine _ _ _ _ _).trans (hcomplete p _ _)

theorem Part.frees_retireAnswered (p : Part) (n : StreamId) (e : OttEntry) :
    p.Frees (p.retireAnswered n e) (if e.kind = .write then [] else [e.index]) := by
  unfold Part.retireAnswered
  split
  · exact .of_engine rfl
  · exact p.frees_retire n e

theorem Part.frees_noteRejections (p : Part) (n : StreamId) (l : Lane) (e : OttEntry) (st : AnswerStatus) (c : BitVec 8) :
    p.Frees (p.noteRejections n l e st c) [] := by
  have hcompare : ∀ q : Part, q.Frees (q.compareRejections n l c) [] := fun q => by
    unfold Part.compareRejections
    split
    · exact .of_engine rfl
    · exact (q.frees_modStream n _).trans (.of_engine (Part.event_engine _ _ _ _ _))
  unfold Part.noteRejections
  dsimp only
  split
  · exact (p.frees_modStream n _).trans (hcompare _)
  · exact hcompare p

theorem Part.sampleOf_engine (p : Part) (l : Lane) (e : OttEntry) : (p.sampleOf l e).engine = p.engine := by
  unfold Part.sampleOf
  split
  · split <;> rfl
  · rfl

/-- The entries that an ANSWER for an entry frees (R31, R33). -/
def StreamRec.freedBy (r : StreamRec) (e : OttEntry) (s : Seq) : List EntryIx :=
  (r.writesTo (r.markAfter s)).map OttEntry.index ++ if e.kind = .write then [] else [e.index]

/-- What an ANSWER that finds no result missing frees (R31, R33). -/
theorem Part.frees_answered {p : Part} {n : StreamId} {h : Header}
    (hm : ((p.applyMark n h.seq).stream n).missing h.seq = false) (l : Lane) (e : OttEntry) (payload : List Byte) :
    p.Frees (p.answered n l e h payload) ((p.stream n).freedBy e h.seq) := by
  rw [Part.answered, Part.judgedMissing_of_none hm]
  have hcompleted := (p.frees_applyMark n h.seq).trans (.of_engine ((p.applyMark n h.seq).completeEntry_engine n l e h payload))
  have hnoted := (hcompleted.trans (Part.frees_retireAnswered _ n e)).trans
    (Part.frees_noteRejections _ n l e (answerStatus e h payload) h.rejections)
  simpa [StreamRec.freedBy] using hnoted.trans (.of_engine (Part.sampleOf_engine _ l e))

/-! ### The entries left (R31, R33) -/

/-- With each index once in flight, the marks' filter and the retirement leave what O18 says. -/
theorem StreamRec.filter_answered {r : StreamRec} (hnodup : (r.inflight.map OttEntry.index).Nodup) (e : OttEntry) (s : Seq) :
    (r.inflight.filter (fun x => !((r.writesTo (r.markAfter s)).map OttEntry.index).contains x.index)).filter
      (fun x => e.kind == .write || x.index != e.index) = r.leftBy e s := by
  rw [StreamRec.filter_writesTo hnodup, List.filter_filter]
  exact List.filter_congr fun x _ => Bool.and_comm _ _

/-- What is left in flight and what came free are as many as were in flight. -/
theorem StreamRec.length_leftBy {r : StreamRec} (hnodup : (r.inflight.map OttEntry.index).Nodup) {e : OttEntry} {s : Seq}
    (he : r.entryAt s = some e) : (r.leftBy e s).length + (r.freedBy e s).length = r.inflight.length := by
  have hmem : e ∈ r.inflight := List.mem_of_find?_eq_some he
  have hwrites : r.inflight.length = (r.writesTo (r.markAfter s)).length +
      (r.inflight.filter (fun x => !(x.kind == .write && serialAtOrBefore x.seq (r.markAfter s)))).length := by
    unfold StreamRec.writesTo
    exact List.length_eq_length_filter_add _
  unfold StreamRec.freedBy
  rw [← StreamRec.filter_answered hnodup, StreamRec.filter_writesTo hnodup, List.length_append, List.length_map]
  by_cases hk : e.kind = .write
  · have htrue : (e.kind == .write) = true := beq_iff_eq.2 hk
    simp only [htrue, Bool.true_or, List.filter_true, if_pos hk, List.length_nil]
    omega
  · have hfalse : (e.kind == .write) = false := beq_eq_false_iff_ne.2 hk
    generalize hkept : r.inflight.filter (fun x => !(x.kind == .write && serialAtOrBefore x.seq (r.markAfter s))) = kept at *
    have hin : e ∈ kept := hkept ▸ List.mem_filter.2 ⟨hmem, by
      have hbeq : (e.kind == ReqKind.write) = false := hfalse
      rw [hbeq]; rfl⟩
    have hkeptNodup : (kept.map OttEntry.index).Nodup := by
      rw [← hkept]
      exact hnodup.sublist (List.filter_sublist.map _)
    have herase : kept.filter (fun x => e.kind == .write || x.index != e.index) = kept.erase e := by
      rw [(List.Nodup.of_map _ hkeptNodup).erase_eq_filter]
      refine List.filter_congr fun x hx => ?_
      rw [hfalse, Bool.false_or, Bool.eq_iff_iff, bne_iff_ne, bne_iff_ne]
      exact not_congr ⟨List.inj_on_of_nodup_map hkeptNodup hx hin, congrArg _⟩
    have hlen := List.length_erase_of_mem hin
    have hpos := List.length_pos_of_mem hin
    rw [herase, if_neg hk, List.length_singleton]
    omega

/-- Nothing is missing after the mark that was not before it (R32). -/
theorem Part.applyMark_missing {p : Part} {n : StreamId} {s : Seq}
    (h : (p.stream n).inflight.any (fun x => x.kind != .write && serialBefore x.seq s) = false) :
    ((p.applyMark n s).stream n).missing s = false := by
  rw [Part.applyMark_stream, if_pos rfl]
  unfold StreamRec.missing
  rw [List.any_eq_false] at h ⊢
  exact fun x hx => h x (List.mem_filter.1 hx).1

/-- The answered stream with no result missing: its mark, the entries left, and what the ANSWER carries (R31 to R35). -/
theorem Part.answered_stream_self {p : Part} {n : StreamId} {h : Header} (hnodup : ((p.stream n).inflight.map OttEntry.index).Nodup)
    (hm : ((p.applyMark n h.seq).stream n).missing h.seq = false) (l : Lane) (e : OttEntry) (payload : List Byte) :
    (p.answered n l e h payload).stream n = { p.stream n with
      mark := some ((p.stream n).markAfter h.seq)
      inflight := (p.stream n).leftBy e h.seq
      rejections := h.rejections } := by
  rw [Part.answered_stream, if_pos rfl, Part.judgedMissing_of_none hm, Part.applyMark_stream, if_pos rfl,
    ← StreamRec.filter_answered hnodup]

/-! ### O18 -/

theorem Part.slotsInUse_le {p q : Part} (h : ∀ n, (q.stream n).hold.length ≤ (p.stream n).hold.length) :
    q.slotsInUse ≤ p.slotsInUse := List.sum_le_sum fun n _ => h n

/-- The hand-over and the arbiter leave no entry free, or no head ready (R27, R28). -/
theorem Part.serve_dispatchHeld_stops {p : Part} (n : StreamId) (k : Nat)
    (h : (allStreams.map (fun m => (p.stream m).hold.length)).sum ≤ 64) :
    ((p.dispatchHeld n k).serve).engine.freeEntries = [] ∨ ∀ m, ((p.dispatchHeld n k).serve).headReady m = false :=
  Part.serve_stops ((Part.slotsInUse_le fun m => (p.dispatchHeld_dispatched n k m).hold_length_le).trans h)

theorem OttEntry.answeredWith_eq (e : OttEntry) (h : Header) (payload : List Byte) (tg : HostTag) :
    (⟨tg, (e.answeredWith h payload).1, (e.answeredWith h payload).2⟩ : Completion) =
      if e.kind = .read then
        (if h.op = 0#4 ∧ payload.length = e.length then ⟨tg, .ok, payload⟩ else ⟨tg, .endpointError, []⟩)
      else if e.poisoned then ⟨tg, .poisoned, []⟩
      else if (h.op = 0#4 ∨ h.op = 2#4) ∧ payload.length = 8 then ⟨tg, .ok, payload⟩
      else if h.op = 3#4 ∧ payload = [] then ⟨tg, .outcomeUnknown, []⟩
      else ⟨tg, .endpointError, []⟩ := by
  unfold OttEntry.answeredWith
  split_ifs <;> rfl

/-- What an ANSWER for a BOUND stream with no result missing does: its steps, the stream's hold list and the arbiter
(R31 to R36). -/
theorem Part.accepts.bound {p : Part} {l : Lane} {h : Header} {n : StreamId} (ha : p.accepts l h n) (hs : p.settled)
    (hbound : (p.stream n).state = .bound) {e : OttEntry} (he : (p.stream n).entryAt h.seq = some e)
    (payload : List Byte) (w : List Instr) : ∃ x, p.Heard x ∧ exec (.receiveAnswer l h payload false) ⟨p, w⟩ =
      .next ⟨((x.answered n l e h payload).dispatchHeld n p.engine.freeEntries.length).serve, w⟩ := by
  obtain ⟨x, hx, hexec⟩ := ha.matched (by rw [hbound]; rfl) he payload w
  have hxc : (x.stream n).carrier = some l := by rw [hx.stream]; exact ha.carrier
  obtain ⟨hreplaying, hdraining⟩ := Part.answered_state hxc (by rw [hx.stream]; exact hbound) e h payload
  have hsettled : (x.answered n l e h payload).settled := (x.engineWork_answered n l e h payload).settled (hx.settled hs)
  rw [Part.afterAnswer_eq hreplaying hdraining, hx.engine, Part.settle_of_settled
    ((hsettled.streamsOnly (Part.streamsOnly_dispatchHeld n _ _)).streamsOnly (Part.streamsOnly_serve _))] at hexec
  exact ⟨x, hx, hexec⟩

theorem answerCompletes_dispatch (p : Part) (w : List Instr) (l : Lane) (h : Header) (payload : List Byte) (e : OttEntry)
    (n : StreamId) (kept : StreamId → StreamRec) (hn : h.stream = n) (hs : p.settled) (hoff : (p.lane l).state ≠ .off)
    (hdest : h.destination = p.params.sourceNode) (hepoch : h.epoch = (p.stream n).epoch)
    (hc : (p.stream n).carrier = some l) (hbound : (p.stream n).state = .bound) (he : (p.stream n).entryAt h.seq = some e)
    (hnodup : ((p.stream n).inflight.map OttEntry.index).Nodup)
    (hmissing : (p.stream n).inflight.any (fun x => x.kind != .write && serialBefore x.seq h.seq) = false)
    (hkept : ∀ m, kept m = if m = n then { p.stream n with inflight := (p.stream n).leftBy e h.seq } else p.stream m) :
    ∃ p', exec (.receiveAnswer l h payload false) ⟨p, w⟩ = .next ⟨p', w⟩ ∧
      (∀ m, (kept m).dispatchedTo (p'.stream m) ∧ (p'.stream m).state = (p.stream m).state ∧
        (p'.stream m).carrier = (p.stream m).carrier) ∧
      (∀ x ∈ (p'.stream n).inflight, x ∉ (kept n).inflight → ∃ f ∈ (p'.lane l).queue, f.kind = .request ∧
        f.header.stream = n ∧ f.header.seq = x.seq ∧ f.header.epoch = (p.stream n).epoch ∧ f.header.op = x.kind.op) ∧
      ((allStreams.map (fun m => (p.stream m).hold.length)).sum ≤ 64 →
        p'.engine.freeEntries = [] ∨ ∀ m, ¬(p'.stream m).headMeets p.params) ∧
      ∀ (m : StreamId) (j : Fin 64) (x : Held) (xs : List Held),
        p.engine.freeEntries = [] → ((p.stream n).leftBy e h.seq).length + 1 = (p.stream n).inflight.length →
        m = p.engine.lastServed + 1 + j → (kept m).headMeets p.params → (p.stream m).hold = x :: xs →
        (∀ k < j, ¬(kept (p.engine.lastServed + 1 + k)).headMeets p.params) →
        ∃ y, x.becomes y ∧ y.seq = (p.stream m).nextSeq ∧ (p'.stream m).inflight = (kept m).inflight ++ [y] ∧
          (p'.stream m).hold = xs ∧ p'.engine.lastServed = m ∧ p'.engine.freeEntries = [] ∧
          ∀ o, o ≠ m → (p'.stream o).hold = (p.stream o).hold ∧ (p'.stream o).inflight = (kept o).inflight := by
  obtain ⟨x, hx, hexec⟩ := Part.accepts.bound ⟨hn, hoff, hdest, hepoch, hc⟩ hs hbound he payload w
  have hnone : ((x.applyMark n h.seq).stream n).missing h.seq = false :=
    Part.applyMark_missing (by rw [hx.stream]; exact hmissing)
  have hself := Part.answered_stream_self (p := x) (by rw [hx.stream]; exact hnodup) hnone l e payload
  have hother : ∀ m, m ≠ n → (x.answered n l e h payload).stream m = p.stream m := fun m hm => by
    rw [Part.answered_stream, if_neg hm, Part.judgedMissing_stream_of_ne (by rw [hx.stream]; exact hc) hm, hx.stream]
  have hfrees := Part.frees_answered hnone l e payload
  have hwork := x.engineWork_answered n l e h payload
  rw [hx.stream] at hself hfrees
  have hparams : (x.answered n l e h payload).params = p.params := hwork.params.trans hx.params
  generalize x.answered n l e h payload = a at *
  have hstream : ∀ m, a.stream m =
      { kept m with mark := (a.stream m).mark, rejections := (a.stream m).rejections } := fun m => by
    rw [hkept]
    by_cases hm : m = n
    · rw [if_pos hm, hm, hself]
    · rw [if_neg hm, hother m hm]
  have hkeptState : ∀ m, (kept m).state = (p.stream m).state ∧ (kept m).carrier = (p.stream m).carrier ∧
      (kept m).hold = (p.stream m).hold ∧ (kept m).nextSeq = (p.stream m).nextSeq ∧
      (kept m).epoch = (p.stream m).epoch := fun m => by
    rw [hkept]
    by_cases hm : m = n
    · rw [if_pos hm, hm]
      exact ⟨rfl, rfl, rfl, rfl, rfl⟩
    · rw [if_neg hm]
      exact ⟨rfl, rfl, rfl, rfl, rfl⟩
  have hmeets : ∀ m, a.headReady m = true ↔ (kept m).headMeets p.params := fun m => by
    rw [Part.headReady_iff, hstream m, hparams]
    exact Iff.rfl
  have hdisp : ∀ (k : Nat) m, (a.stream m).Dispatched (((a.dispatchHeld n k).serve).stream m) := fun k m =>
    (a.dispatchHeld_dispatched n k m).trans (Part.serve_dispatched _ m)
  have hwork' : ∀ k, ((a.dispatchHeld n k).serve).params = p.params := fun k =>
    ((Part.streamsOnly_dispatchHeld n k a).trans (Part.streamsOnly_serve _)).params.trans hparams
  refine ⟨_, hexec, fun m => ⟨?dispatched, ?state, ?carrier⟩, fun y hy hnew => ?requests, fun hsum => ?stops,
    fun m j y ys hfree hlen hm hready hhold hfirst => ?served⟩
  case dispatched =>
    have hto := (hdisp p.engine.freeEntries.length m).dispatched
    rw [hstream m] at hto
    exact hto
  case state =>
    rw [(hdisp _ m).rest, hstream m]
    exact (hkeptState m).1
  case carrier =>
    rw [(hdisp _ m).rest, hstream m]
    exact (hkeptState m).2.1
  case requests =>
    have hrequested : a.requested n l (kept n).inflight := by
      rw [Part.requested, hstream n]
      exact ⟨(hkeptState n).2.1.trans hc, fun _ hz hnot => absurd hz hnot⟩
    obtain ⟨-, hall⟩ := (hrequested.dispatchHeld n p.engine.freeEntries.length).serve
    obtain ⟨f, hf, hk, hstr, hseq, hop, hfe, -⟩ := hall y hy hnew
    refine ⟨f, hf, hk, hstr, hseq, hfe.trans ?_, hop⟩
    rw [(hdisp _ n).rest, hstream n]
    exact (hkeptState n).2.2.2.2
  case stops =>
    have hsame : ∀ m, (a.stream m).hold = (p.stream m).hold := fun m => by
      rw [hstream m]
      exact (hkeptState m).2.2.1
    refine (Part.serve_dispatchHeld_stops (p := a) n p.engine.freeEntries.length (by simpa only [hsame] using hsum)).imp id
      fun hall m hhead => ?_
    have hiff := Part.headReady_iff ((a.dispatchHeld n p.engine.freeEntries.length).serve) m
    rw [hall m, hwork'] at hiff
    exact absurd (hiff.2 hhead) Bool.false_ne_true
  case served =>
    have hcount := StreamRec.length_leftBy hnodup he
    obtain ⟨i, hi⟩ : ∃ i, (p.stream n).freedBy e h.seq = [i] := List.length_eq_one_iff.1 (by omega)
    have hone : a.engine.freeEntries = [i] := by rw [hfrees.entries, hx.engine, hfree, hi]; rfl
    have hlast : a.engine.lastServed = p.engine.lastServed := by rw [hfrees.served, hx.engine]
    rw [hfree, List.length_nil, show a.dispatchHeld n 0 = a from rfl]
    obtain ⟨-, -, -, hserve⟩ := a.serve_spec
    obtain ⟨z, hz, -, hseq, hin, hhold', hserved, hfree', hrest⟩ := hserve i m j y ys hone (by rw [hlast]; exact hm)
      (by rw [hstream m]; exact (hkeptState m).2.2.1.trans hhold) ((hmeets m).2 hready)
      (fun k hk => Bool.eq_false_iff.2 fun hr => hfirst k hk (by rw [← hlast]; exact (hmeets _).1 hr))
    refine ⟨z, hz, hseq.trans ?_, hin.trans ?_, hhold', hserved, hfree', fun o ho => ?_⟩
    · rw [hstream m]
      exact (hkeptState m).2.2.2.1
    · rw [hstream m]
    · rw [hrest o ho, hstream o]
      exact ⟨(hkeptState o).2.2.1, rfl⟩

/-- Settles O18. -/
theorem answerCompletes : Obligations.AnswerCompletes := by
  refine ⟨fun p w l h payload e tg hoff hdest hepoch hc hs he hk ht hheld => ?_, answerCompletes_dispatch⟩
  obtain ⟨p', hexec, hcompletions, hrest⟩ :=
    answerCompletes_completion p w l h payload e tg hoff hdest hepoch hc hs he hk ht hheld
  rw [OttEntry.answeredWith_eq] at hcompletions
  exact ⟨p', hexec, hcompletions, hrest⟩

end Sys2Proof.Machine
end

section
/-! What an ANSWER counts, logs and reports besides its completion (O19). -/

namespace Sys2Proof.Machine

/-! ### Steps that log and report nothing -/

/-- Nothing has been handed to a lane, and nothing logged that no watched counter logs. -/
structure Part.Mute (p q : Part) : Prop where
  reports : q.reports = p.reports
  params : q.params = p.params
  now : q.now = p.now
  log : p.unwatched → q.log = p.log

theorem Part.Mute.refl (p : Part) : p.Mute p := ⟨rfl, rfl, rfl, fun _ => rfl⟩

theorem Part.Mute.trans {p q r : Part} (h : p.Mute q) (k : q.Mute r) : p.Mute r :=
  ⟨k.reports.trans h.reports, k.params.trans h.params, k.now.trans h.now,
    fun hu => (k.log (hu.of_params h.params)).trans (h.log hu)⟩

theorem Part.Mute.timeCounter {p q : Part} (h : p.Mute q) : q.timeCounter = p.timeCounter := by
  rw [Part.timeCounter, h.now]
  rfl

theorem Part.Mute.unwatched {p q : Part} (h : p.Mute q) (hu : p.unwatched) : q.unwatched := hu.of_params h.params

theorem Part.Heard.mute {p q : Part} (h : p.Heard q) : p.Mute q := ⟨h.reports, h.params, h.now, h.log⟩

theorem Part.mute_raise (p : Part) (c : CounterId) : p.Mute (p.raise c) :=
  ⟨Part.raise_reports _ _, Part.raise_params _ _, Part.raise_now _ _, fun hu => Part.unwatched_raise hu c⟩

theorem Part.mute_modStream (p : Part) (n : StreamId) (f : StreamRec → StreamRec) : p.Mute (p.modStream n f) :=
  ⟨rfl, rfl, rfl, fun _ => rfl⟩

theorem Part.mute_retire (p : Part) (n : StreamId) (e : OttEntry) : p.Mute (p.retire n e) := ⟨rfl, rfl, rfl, fun _ => rfl⟩

theorem Part.mute_retireWrite (p : Part) (n : StreamId) (own : Option Seq) (e : OttEntry) : p.Mute (p.retireWrite n own e) := by
  unfold Part.retireWrite
  dsimp only
  split
  · exact p.mute_retire n e
  · exact (p.mute_retire n e).trans (Part.mute_raise _ _)

theorem Part.mute_applyMark (p : Part) (n : StreamId) (s : Seq) : p.Mute (p.applyMark n s) := by
  unfold Part.applyMark Part.retireWrites
  dsimp only
  exact foldl_keeps (I := fun q => p.Mute q) (f := fun q e => q.retireWrite n (some s) e)
    (fun q e hq => hq.trans (q.mute_retireWrite n _ e)) _ (p.mute_modStream n _)

theorem Part.mute_complete (p : Part) (n : StreamId) (t : Option HostTag) (st : CompletionStatus) (d : List Byte) :
    p.Mute (p.complete n t st d) := by
  have hwork := p.engineWork_complete n t st d
  refine ⟨?_, hwork.params, hwork.now, fun hu => Part.complete_log hu n t st d⟩
  unfold Part.complete
  cases t with
  | none => exact Part.raise_reports _ _
  | some t => simp [Part.answerHost]

theorem Part.mute_retireAnswered (p : Part) (n : StreamId) (e : OttEntry) : p.Mute (p.retireAnswered n e) := by
  unfold Part.retireAnswered
  split
  · exact .refl p
  · exact p.mute_retire n e

/-! ### Rejected WRITEs (R35) -/

/-- An ANSWER for a WRITE that is an ERROR, by its code or its payload (R33). -/
def OttEntry.rejectedBy (e : OttEntry) (h : Header) (payload : List Byte) : Bool :=
  e.kind == .write && !(payload.isEmpty && (h.op == 0#4 || h.op == 2#4 || h.op == 3#4))

theorem OttEntry.rejectedBy_iff (e : OttEntry) (h : Header) (payload : List Byte) :
    e.rejectedBy h payload = true ↔ e.kind = .write ∧ answerStatus e h payload = .error := by
  unfold OttEntry.rejectedBy
  by_cases hk : e.kind = .write
  · rcases AnswerStatus.ofCode_cases h.op with ⟨hop, hst⟩ | ⟨hop, hst⟩ | ⟨hop, hst⟩ | ⟨⟨h0, h2, h3⟩, hst⟩ <;>
      rw [answerStatus_of_op hst]
    · simp [fittingLength, hk, hop]
    · simp [fittingLength, hk, hop]
    · simp [fittingLength, hk, hop]
    · simp [hk, h0, h2, h3]
  · simp [hk]

/-- The log with the WRITE_REJECTED of an ERROR for a WRITE, and that of a count that differs from the one seen (R35). -/
def EventLog.afterRejections (log : EventLog) (l : Lane) (n : StreamId) (bad : Bool) (s : Seq) (seen count : BitVec 8)
    (time : BitVec 32) : EventLog :=
  let log := if bad then log.take .writeRejected (some l) (some n) (s.setWidth 16) time else log
  if seen + (if bad then 1 else 0) = count then log else log.take .writeRejected (some l) (some n) 0xFFFF time

theorem Part.completeEntry_log {p : Part} (hu : p.unwatched) (n : StreamId) (l : Lane) {e : OttEntry} (hk : e.kind ≠ .swap)
    (h : Header) (payload : List Byte) : (p.completeEntry n l e (answerStatus e h payload) payload).log =
      if e.rejectedBy h payload then p.log.take .writeRejected (some l) (some n) (e.seq.setWidth 16) p.timeCounter
      else p.log := by
  have hiff := e.rejectedBy_iff h payload
  unfold Part.completeEntry
  cases hkind : e.kind with
  | swap => exact absurd hkind hk
  | read =>
    have hfalse : ¬e.rejectedBy h payload = true := fun hr => by
      have hw := (hiff.1 hr).1
      rw [hkind] at hw
      cases hw
    rw [if_neg hfalse]
    dsimp only
    split
    · exact Part.complete_log hu _ _ _ _
    · exact Part.complete_log hu _ _ _ _
  | write =>
    dsimp only
    by_cases herr : answerStatus e h payload = .error
    · rw [if_pos herr, if_pos (hiff.2 ⟨hkind, herr⟩)]
      rfl
    · rw [if_neg herr, if_neg fun hr => herr (hiff.1 hr).2]

theorem Part.noteRejections_log (p : Part) (n : StreamId) (l : Lane) (e : OttEntry) (h : Header) (payload : List Byte) :
    (p.noteRejections n l e (answerStatus e h payload) h.rejections).log =
      if (p.stream n).rejections + (if e.rejectedBy h payload then 1 else 0) = h.rejections then p.log
      else p.log.take .writeRejected (some l) (some n) 0xFFFF p.timeCounter := by
  have hiff := e.rejectedBy_iff h payload
  unfold Part.noteRejections
  dsimp only
  by_cases hbad : e.kind = .write ∧ answerStatus e h payload = .error
  · rw [if_pos hbad, if_pos (hiff.2 hbad), Part.compareRejections_log, Part.modStream_stream_self]
    rfl
  · rw [if_neg hbad, if_neg fun hr => hbad (hiff.1 hr), Part.compareRejections_log, add_zero]

theorem Part.sampleOf_log (p : Part) (l : Lane) (e : OttEntry) : (p.sampleOf l e).log = p.log := by
  unfold Part.sampleOf
  split
  · split <;> rfl
  · rfl

/-- What the completion and the counts of an ANSWER for a READ or WRITE log (R33, R35). -/
theorem Part.answered_log {p : Part} {n : StreamId} {h : Header} (hu : (p.judgedMissing n h.seq).unwatched) (l : Lane)
    {e : OttEntry} (hk : e.kind ≠ .swap) (payload : List Byte) : (p.answered n l e h payload).log =
      (p.judgedMissing n h.seq).log.afterRejections l n (e.rejectedBy h payload) e.seq
        ((p.judgedMissing n h.seq).stream n).rejections h.rejections p.timeCounter := by
  have htime : (p.judgedMissing n h.seq).timeCounter = p.timeCounter := by
    rw [Part.timeCounter, (p.streamsOnly_judgedMissing n h.seq).now]
    rfl
  unfold Part.answered
  rw [← htime]
  generalize p.judgedMissing n h.seq = q at hu ⊢
  have hwork := q.engineWork_completeEntry n l e h payload
  have hmute := (q.completeEntry n l e (answerStatus e h payload) payload).mute_retireAnswered n e
  have hseen : (((q.completeEntry n l e (answerStatus e h payload) payload).retireAnswered n e).stream n).rejections =
      (q.stream n).rejections := by
    rw [Part.retireAnswered_stream, if_pos rfl, Part.completeEntry_stream]
  rw [Part.sampleOf_log, Part.noteRejections_log, hseen, hmute.log (hwork.unwatched hu), hmute.timeCounter, hwork.timeCounter,
    Part.completeEntry_log hu n l hk]
  rfl

/-! ### Reports (R35, R36) -/

/-- The latency sample that an answered entry hands to its lane (R36). -/
def OttEntry.sampled (e : OttEntry) (l : Lane) (now : Micros) : List Report :=
  match e.transmitTime with
  | some t => if e.transmissions = 1 then [.sample l (BitVec.ofNat 16 (min (now - t) 65535))] else []
  | none => []

theorem Part.sampleOf_reports (p : Part) (l : Lane) (e : OttEntry) :
    (p.sampleOf l e).reports = p.reports ++ e.sampled l p.now := by
  unfold Part.sampleOf OttEntry.sampled
  cases e.transmitTime with
  | none => exact (List.append_nil _).symm
  | some t =>
    dsimp only
    split
    · simp only [Part.report_reports, latencyOf, sat16]
    · exact (List.append_nil _).symm

theorem Part.noteRejections_reports (p : Part) (n : StreamId) (l : Lane) (e : OttEntry) (st : AnswerStatus) (c : BitVec 8) :
    (p.noteRejections n l e st c).reports = p.reports := by
  have hcompare : ∀ q : Part, (q.compareRejections n l c).reports = q.reports := fun q => by
    unfold Part.compareRejections
    split <;> rfl
  unfold Part.noteRejections
  dsimp only
  rw [hcompare]
  split <;> rfl

theorem Part.completeEntry_reports (p : Part) (n : StreamId) (l : Lane) (e : OttEntry) (h : Header) (payload : List Byte) :
    (p.completeEntry n l e (answerStatus e h payload) payload).reports = p.reports := by
  by_cases hk : e.kind = .write
  · unfold Part.completeEntry
    rw [hk]
    dsimp only
    split <;> rfl
  · rcases p.completeEntry_eq n l hk h payload with heq | heq <;> rw [heq]
    · exact (p.mute_complete _ _ _ _).reports
    · exact (Part.event_reports _ _ _ _ _).trans (p.mute_complete _ _ _ _).reports

theorem Part.answered_reports (p : Part) (n : StreamId) (l : Lane) (e : OttEntry) (h : Header) (payload : List Byte) :
    (p.answered n l e h payload).reports = (p.judgedMissing n h.seq).reports ++ e.sampled l p.now := by
  have hcompleted := (p.judgedMissing n h.seq).engineWork_completeEntry n l e h payload
  have hnoted := (Part.streamsOnly_retireAnswered ((p.judgedMissing n h.seq).completeEntry n l e (answerStatus e h payload) payload)
    n e).trans (Part.streamsOnly_noteRejections _ n l e (answerStatus e h payload) h.rejections)
  rw [Part.answered, Part.sampleOf_reports, Part.noteRejections_reports, (Part.mute_retireAnswered _ n e).reports,
    Part.completeEntry_reports, hnoted.now, hcompleted.now, (p.streamsOnly_judgedMissing n h.seq).now]

/-- An ANSWER for a WRITE hands over no completion (R33). -/
theorem Part.answered_completions_of_write (p : Part) (n : StreamId) (l : Lane) {e : OttEntry} (hk : e.kind = .write) (h : Header)
    (payload : List Byte) : (p.answered n l e h payload).completions = p.completions := by
  rw [Part.answered, (Part.streamsOnly_afterCompletion _ n l e _ _).completions]
  unfold Part.completeEntry
  rw [hk]
  dsimp only
  split
  · exact (p.streamsOnly_judgedMissing n h.seq).completions
  · exact (p.streamsOnly_judgedMissing n h.seq).completions

end Sys2Proof.Machine
end

section
/-! An ANSWER that finds a result missing or none, one that completes a quiesce, and the latency sample (O19). -/

namespace Sys2Proof.Machine

/-! ### The result that is missing (R32) -/

/-- With each index once in flight, the mark takes no READ and no SWAP, and so hides no missing result (R31, R32). -/
theorem Part.applyMark_missing_eq {p : Part} {n : StreamId} (hnodup : ((p.stream n).inflight.map OttEntry.index).Nodup) (s : Seq) :
    ((p.applyMark n s).stream n).missing s = (p.stream n).inflight.any (fun x => x.kind != .write && serialBefore x.seq s) := by
  rw [Part.applyMark_stream, if_pos rfl, StreamRec.filter_writesTo hnodup, StreamRec.missing, Bool.eq_iff_iff,
    List.any_eq_true, List.any_eq_true]
  constructor
  · rintro ⟨x, hx, htest⟩
    exact ⟨x, (List.mem_filter.1 hx).1, htest⟩
  · rintro ⟨x, hx, htest⟩
    have hkind : (x.kind == .write) = false := by
      obtain ⟨hne, -⟩ := Bool.and_eq_true_iff.1 htest
      rwa [bne, Bool.not_eq_true'] at hne
    exact ⟨x, List.mem_filter.2 ⟨hx, by rw [hkind]; rfl⟩, htest⟩

/-- The answered stream with a result missing: rewound, but for the answered entry and what the ANSWER carries (R32 to
R35). -/
theorem Part.answered_stream_rewound {p : Part} {n : StreamId} {l : Lane} {h : Header} (hc : (p.stream n).carrier = some l)
    (hnodup : ((p.stream n).inflight.map OttEntry.index).Nodup)
    (hm : ((p.applyMark n h.seq).stream n).missing h.seq = true) (e : OttEntry) (payload : List Byte) :
    (p.answered n l e h payload).stream n = { ((p.applyMark n h.seq).rewind n .missingResult).stream n with
      inflight := ((p.stream n).leftBy e h.seq).map OttEntry.requeued
      rejections := h.rejections } := by
  have hqueued : (((p.applyMark n h.seq).rewind n .missingResult).stream n).inflight =
      ((p.applyMark n h.seq).stream n).inflight.map OttEntry.requeued := by
    rw [Part.rewind_stream_self (l := l) ((p.applyMark_carrier n h.seq).trans hc), StreamRec.rebound_inflight]
  have hleft : (((p.applyMark n h.seq).stream n).inflight.map OttEntry.requeued).filter
      (fun x => e.kind == .write || x.index != e.index) = ((p.stream n).leftBy e h.seq).map OttEntry.requeued := by
    rw [List.filter_map, Part.applyMark_stream, if_pos rfl, ← StreamRec.filter_answered hnodup]
    rfl
  rw [Part.answered_stream, if_pos rfl, Part.judgedMissing_of_missing hm, hqueued, hleft]

/-- An ANSWER for a BOUND stream of a part that holds no request (R31 to R36). -/
theorem Part.accepts.unheld {p : Part} {l : Lane} {h : Header} {n : StreamId} (ha : p.accepts l h n) (hheld : p.noneHeld)
    (hbound : (p.stream n).state = .bound) {e : OttEntry} (he : (p.stream n).entryAt h.seq = some e)
    (payload : List Byte) (w : List Instr) : ∃ x, p.Heard x ∧ exec (.receiveAnswer l h payload false) ⟨p, w⟩ =
      .next ⟨(x.answered n l e h payload).settle, w⟩ := by
  obtain ⟨x, hx, hexec⟩ := ha.matched (by rw [hbound]; rfl) he payload w
  have hxc : (x.stream n).carrier = some l := by rw [hx.stream]; exact ha.carrier
  obtain ⟨hreplaying, hdraining⟩ := Part.answered_state hxc (by rw [hx.stream]; exact hbound) e h payload
  rw [Part.afterAnswer_of_noneHeld (Part.answered_noneHeld hxc (fun m => by rw [hx.stream]; exact hheld m) e h payload)
    hreplaying hdraining] at hexec
  exact ⟨x, hx, hexec⟩

theorem EventLog.afterRejections_of_same {log : EventLog} {l : Lane} {n : StreamId} {s : Seq} {seen count : BitVec 8}
    {time : BitVec 32} (h : seen = count) : log.afterRejections l n false s seen count time = log := by
  unfold EventLog.afterRejections
  rw [if_neg Bool.false_ne_true, if_neg Bool.false_ne_true, add_zero, if_pos h]

theorem EventLog.afterRejections_of_read (log : EventLog) (l : Lane) (n : StreamId) (s : Seq) (seen count : BitVec 8)
    (time : BitVec 32) : log.afterRejections l n false s seen count time =
      if seen = count then log else log.take .writeRejected (some l) (some n) 0xFFFF time := by
  unfold EventLog.afterRejections
  rw [if_neg Bool.false_ne_true, if_neg Bool.false_ne_true, add_zero]

theorem OttEntry.rejectedBy_of_read {e : OttEntry} (h : e.kind = .read) (hd : Header) (payload : List Byte) :
    e.rejectedBy hd payload = false := by
  unfold OttEntry.rejectedBy
  rw [h]
  rfl

/-- What an ANSWER that finds no result missing leaves of the part besides the streams (R31 to R36). -/
theorem Part.judgedMissing_mute {p : Part} {n : StreamId} {s : Seq} (h : ((p.applyMark n s).stream n).missing s = false) :
    p.Mute (p.judgedMissing n s) := by
  rw [Part.judgedMissing_of_none h]
  exact p.mute_applyMark n s

/-- An ANSWER for a READ with the rejections as seen logs nothing, when no result is missing (R33, R35). -/
theorem Part.Heard.answered_log {p x : Part} (hx : p.Heard x) (hu : p.unwatched) {n : StreamId} {h : Header}
    (hnone : ((x.applyMark n h.seq).stream n).missing h.seq = false) (l : Lane) {e : OttEntry} (hread : e.kind = .read)
    (payload : List Byte) (hsame : (p.stream n).rejections = h.rejections) : (x.answered n l e h payload).log = p.log := by
  have hmute := hx.mute.trans (Part.judgedMissing_mute hnone)
  have hseen : ((x.judgedMissing n h.seq).stream n).rejections = (p.stream n).rejections := by
    rw [Part.judgedMissing_of_none hnone, Part.applyMark_stream, if_pos rfl, hx.stream]
  rw [Part.answered_log (hmute.unwatched hu) l (by rw [hread]; decide) payload, OttEntry.rejectedBy_of_read hread, hseen,
    EventLog.afterRejections_of_same hsame, hmute.log hu]

/-! ### The end of a quiesce (R143) and the latency sample (R99, R157) -/

/-- An ANSWER that leaves nothing in flight found no result missing before it (R32). -/
theorem StreamRec.none_missing_of_leftBy {r : StreamRec} (hnodup : (r.inflight.map OttEntry.index).Nodup) {e : OttEntry} {s : Seq}
    (he : r.entryAt s = some e) (hleft : r.leftBy e s = []) :
    r.inflight.any (fun x => x.kind != .write && serialBefore x.seq s) = false := by
  rw [List.any_eq_false]
  intro x hx htest
  obtain ⟨hkind, hbefore⟩ := Bool.and_eq_true_iff.1 htest
  rw [bne, Bool.not_eq_true'] at hkind
  have hgone := List.filter_eq_nil_iff.1 hleft x hx
  rw [hkind, Bool.false_and, Bool.not_false, Bool.true_and, Bool.or_eq_true, not_or, bne_iff_ne, not_not] at hgone
  have hxe : x = e := List.inj_on_of_nodup_map hnodup hx (List.mem_of_find?_eq_some he) hgone.2
  have heseq : e.seq = s := by simpa using List.find?_some he
  rw [hxe, heseq, serialBefore, BitVec.sub_self] at hbefore
  exact absurd hbefore (by decide)

theorem Part.judgeRestarts_of_none {p : Part} (h : ∀ g, (p.lane g).restartPending = false) : p.judgeRestarts = p := by
  rw [Part.judgeRestarts, Part.judgeRestart_of_not (h .a0), Part.judgeRestart_of_not (h .a1), Part.judgeRestart_of_not (h .b0),
    Part.judgeRestart_of_not (h .b1)]

theorem answerCounts_quiesce (p : Part) (w : List Instr) (l : Lane) (h : Header) (payload : List Byte) (e : OttEntry)
    (n : StreamId) (ha : p.accepts l h n) (hu : p.unwatched) (hrestart : ∀ g, (p.lane g).restartPending = false)
    (hbound : (p.stream n).state = .bound) (he : (p.stream n).entryAt h.seq = some e)
    (hnodup : ((p.stream n).inflight.map OttEntry.index).Nodup) (hleft : (p.stream n).leftBy e h.seq = [])
    (hhold : (p.stream n).hold = []) (hempty : ∀ o, o ≠ n → (p.stream o).inflight = [] ∧ (p.stream o).hold = [])
    (hservice : p.intake.service = .quiescing) (hqueue : p.intake.queue = []) (htally : p.intake.tally = none) :
    ∃ p', exec (.receiveAnswer l h payload false) ⟨p, w⟩ = .next ⟨p', w⟩ ∧ p'.intake.service = .quiesced ∧
      p'.intake.credits = p.intake.credits ∧ (p'.stream n).state = .bound ∧
      (e.kind = .read → (p.stream n).rejections = h.rejections → p'.log = p.log.take .quiesced none none
        (BitVec.ofNat 16 (min ((p.now - p.intake.quiesceAt) / 1000) 65535)) p.timeCounter) := by
  have hheld : p.noneHeld := fun m => by
    by_cases hm : m = n
    · rw [hm]; exact hhold
    · exact (hempty m hm).2
  obtain ⟨x, hx, hexec⟩ := ha.unheld hheld hbound he payload w
  have hnodup' : ((x.stream n).inflight.map OttEntry.index).Nodup := by rw [hx.stream]; exact hnodup
  have hnone : ((x.applyMark n h.seq).stream n).missing h.seq = false := by
    rw [Part.applyMark_missing_eq hnodup', hx.stream]
    exact StreamRec.none_missing_of_leftBy hnodup he hleft
  have hself := Part.answered_stream_self hnodup' hnone l e payload
  have hwork := x.engineWork_answered n l e h payload
  have hlog := fun hread => hx.answered_log hu (n := n) (h := h) hnone l (e := e) hread payload
  have hothers : ∀ o, o ≠ n → (x.answered n l e h payload).stream o = p.stream o := fun o ho => by
    rw [Part.answered_stream, if_neg ho, Part.judgedMissing_stream_of_ne (by rw [hx.stream]; exact ha.carrier) ho, hx.stream]
  rw [hx.stream] at hself
  have hintake : (x.answered n l e h payload).intake = { p.intake with
      openTags := (x.answered n l e h payload).intake.openTags } := by rw [← hx.intake]; exact hwork.intake
  have hnow : (x.answered n l e h payload).now = p.now := hwork.now.trans hx.now
  have hlane : ∀ g, ((x.answered n l e h payload).lane g).restartPending = false := fun g => by
    rw [hwork.lane g, hx.lane g]
    exact hrestart g
  generalize x.answered n l e h payload = a at *
  have hholds : a.quiesceHolds = true := by
    rw [Part.quiesceHolds_iff, hintake]
    refine ⟨hqueue, fun o => ?_⟩
    by_cases ho : o = n
    · rw [ho, hself]
      exact ⟨hleft, hhold⟩
    · rw [hothers o ho]
      exact hempty o ho
  obtain ⟨hqintake, hqengine, -, -, hqlog⟩ := Part.judgeQuiesce_of_holds (p := a) (by rw [hintake]; exact hservice) hholds
  rw [Part.settle, Part.judgeRestarts_of_none hlane] at hexec
  have htime : a.timeCounter = p.timeCounter := by rw [Part.timeCounter, hnow]; rfl
  refine ⟨_, hexec, by rw [hqintake], by rw [hqintake, hintake], ?_, fun hread hsame => ?_⟩
  · rw [Part.stream, hqengine]
    show (a.stream n).state = _
    rw [hself]
    exact hbound
  · rw [hqlog, Part.flushTally_of_none (by rw [hintake]; exact htally), hlog hread hsame, hnow, htime, hintake, wholeMs, sat16]

theorem answerCounts_sample (p : Part) (w : List Instr) (l : Lane) (us : BitVec 16) :
    ∃ p', exec (.latencySample l us) ⟨p, w⟩ = .next ⟨p', w⟩ ∧
      p'.counter (.lane l (latencyBin us.toNat)) = p.counter (.lane l (latencyBin us.toNat)) + 1 ∧
      (∀ c, c ≠ .lane l (latencyBin us.toNat) → p'.counter c = p.counter c) ∧ p'.engine = p.engine :=
  ⟨_, rfl, Part.raise_counter_self (p.takeReport (.sample l us)) _,
    fun _ hc => Part.raise_counter_of_ne (p.takeReport (.sample l us)) hc, Part.raise_engine (p.takeReport (.sample l us)) _⟩

end Sys2Proof.Machine
end

section
/-! An ANSWER of a BOUND stream, with and without a missing result (O19). -/

namespace Sys2Proof.Machine

/-- The two reports of a rewind for a missing result (R124). -/
def missingReports (missing : Bool) (l : Lane) : List Report :=
  if missing then [.weight l .sequenceBreak, .storm l] else []

theorem Part.judgedMissing_reports {p : Part} {n : StreamId} {l : Lane} (hc : (p.stream n).carrier = some l) {s : Seq} {missing : Bool}
    (hm : ((p.applyMark n s).stream n).missing s = missing) :
    (p.judgedMissing n s).reports = p.reports ++ missingReports missing l := by
  have hmarked := (p.mute_applyMark n s).reports
  cases missing with
  | false =>
    rw [Part.judgedMissing_of_none hm, hmarked]
    exact (List.append_nil _).symm
  | true =>
    rw [Part.judgedMissing_of_missing hm, Part.rewind_reports (l := l) ((p.applyMark_carrier n s).trans hc), hmarked]
    rfl

/-- What an ANSWER leaves of its stream with no result missing and with one (R31 to R35). -/
theorem Part.answered_entries {p : Part} {n : StreamId} {l : Lane} {h : Header} (hc : (p.stream n).carrier = some l)
    (hnodup : ((p.stream n).inflight.map OttEntry.index).Nodup) {missing : Bool}
    (hm : ((p.applyMark n h.seq).stream n).missing h.seq = missing) (e : OttEntry) (payload : List Byte) :
    ((p.answered n l e h payload).stream n).nextSeq = (p.stream n).nextSeq ∧
    ((p.answered n l e h payload).stream n).rejections = h.rejections ∧
    ((p.answered n l e h payload).stream n).inflight =
      if missing then ((p.stream n).leftBy e h.seq).map OttEntry.requeued else (p.stream n).leftBy e h.seq := by
  cases missing with
  | false =>
    rw [Part.answered_stream_self hnodup hm]
    exact ⟨rfl, rfl, rfl⟩
  | true =>
    rw [Part.answered_stream_rewound hc hnodup hm]
    refine ⟨?_, rfl, rfl⟩
    show (((p.applyMark n h.seq).rewind n .missingResult).stream n).nextSeq = _
    rw [Part.rewind_stream_self (l := l) ((p.applyMark_carrier n h.seq).trans hc), StreamRec.rebound_nextSeq,
      Part.applyMark_stream, if_pos rfl]

/-- What a missing result makes of the answered stream, and what is logged for a READ (R32, R124). -/
theorem Part.answered_rewound {p : Part} {n : StreamId} {l : Lane} {h : Header} (hu : p.unwatched)
    (hc : (p.stream n).carrier = some l) (hnodup : ((p.stream n).inflight.map OttEntry.index).Nodup)
    (hm : ((p.applyMark n h.seq).stream n).missing h.seq = true) (e : OttEntry) (payload : List Byte) :
    ((p.answered n l e h payload).stream n).epoch = (p.stream n).epoch + 1 ∧
    (p.eligible (p.stream n).tried none l = true →
      ((p.answered n l e h payload).stream n).state = .binding ∧
      ((p.answered n l e h payload).stream n).carrier = some l ∧
      ((p.answered n l e h payload).stream n).askAttempts = 1 ∧
      (e.kind = .read → (p.answered n l e h payload).log =
        let log := p.log.take .streamRewound (some l) (some n) 1 p.timeCounter
        if (p.stream n).rejections = h.rejections then log
        else log.take .writeRejected (some l) (some n) 0xFFFF p.timeCounter)) := by
  have hmute := p.mute_applyMark n h.seq
  have hmarked : (p.applyMark n h.seq).stream n = { p.stream n with
      mark := ((p.applyMark n h.seq).stream n).mark
      inflight := ((p.applyMark n h.seq).stream n).inflight } := by
    rw [Part.applyMark_stream, if_pos rfl]
  have hyc := (p.applyMark_carrier n h.seq).trans hc
  obtain ⟨hepoch, -, -, -, -, -, -, hstay, -⟩ := Part.rewind_spec hyc (hmute.unwatched hu) .missingResult
  rw [Part.answered_stream_rewound hc hnodup hm]
  refine ⟨hepoch.trans (by rw [hmarked]), fun hel => ?_⟩
  have hmid := (Part.streamsOnly_rewind (p.applyMark n h.seq) n .missingResult).params
  rw [(p.streamsOnly_applyMark n h.seq).eligible, hmarked] at hstay
  obtain ⟨hstate, hcarrier, hattempts, hlog, -⟩ := hstay hel
  refine ⟨hstate, hcarrier, hattempts, fun hread => ?_⟩
  have hseen : (((p.applyMark n h.seq).rewind n .missingResult).stream n).rejections = (p.stream n).rejections := by
    rw [Part.rewind_stream_self hyc, StreamRec.rebound_rejections, hmarked]
  have hunwatched : (p.judgedMissing n h.seq).unwatched := by
    rw [Part.judgedMissing_of_missing hm]
    exact (hmute.unwatched hu).of_params hmid
  rw [Part.answered_log hunwatched l (by rw [hread]; decide) payload, OttEntry.rejectedBy_of_read hread,
    EventLog.afterRejections_of_read, Part.judgedMissing_of_missing hm, hseen, hlog, hmute.timeCounter, hmute.log hu]
  rfl

theorem answerCounts_bound (p : Part) (w : List Instr) (l : Lane) (h : Header) (payload : List Byte) (e : OttEntry) (n : StreamId)
    (missing : Bool) (ha : p.accepts l h n) (hu : p.unwatched) (hs : p.settled) (hheld : p.noneHeld)
    (hbound : (p.stream n).state = .bound) (he : (p.stream n).entryAt h.seq = some e)
    (hnodup : ((p.stream n).inflight.map OttEntry.index).Nodup)
    (hmissing : missing = (p.stream n).inflight.any (fun x => x.kind != .write && serialBefore x.seq h.seq)) :
    ∃ p', exec (.receiveAnswer l h payload false) ⟨p, w⟩ = .next ⟨p', w⟩ ∧
      (p'.stream n).mark = some ((p.stream n).markAfter h.seq) ∧
      (p'.stream n).inflight =
        (if missing then ((p.stream n).leftBy e h.seq).map OttEntry.requeued else (p.stream n).leftBy e h.seq) ∧
      (p'.stream n).rejections = h.rejections ∧ (p'.stream n).nextSeq = (p.stream n).nextSeq ∧
      (∀ m, m ≠ n → p'.stream m = p.stream m) ∧
      p'.reports = p.reports ++ missingReports missing l ++ e.sampled l p.now ∧
      (e.kind = .write → p'.completions = p.completions ∧ (missing = false →
        p'.log = p.log.afterRejections l n (e.rejectedBy h payload) e.seq (p.stream n).rejections h.rejections p.timeCounter)) ∧
      (missing = false → (p'.stream n).state = .bound ∧ (p'.stream n).carrier = some l ∧
        (p'.stream n).epoch = (p.stream n).epoch) ∧
      (missing = true → (p'.stream n).epoch = (p.stream n).epoch + 1 ∧
        (p.eligible (p.stream n).tried none l = true → (p'.stream n).state = .binding ∧
          (p'.stream n).carrier = some l ∧ (p'.stream n).askAttempts = 1 ∧
          (e.kind = .read → p'.log =
            let log := p.log.take .streamRewound (some l) (some n) 1 p.timeCounter
            if (p.stream n).rejections = h.rejections then log
            else log.take .writeRejected (some l) (some n) 0xFFFF p.timeCounter))) := by
  obtain ⟨x, hx, hexec⟩ := ha.unheld hheld hbound he payload w
  have hwork := x.engineWork_answered n l e h payload
  rw [Part.settle_of_settled (hwork.settled (hx.settled hs))] at hexec
  have hxc : (x.stream n).carrier = some l := by rw [hx.stream]; exact ha.carrier
  have hxu := hx.unwatched hu
  have hnodup' : ((x.stream n).inflight.map OttEntry.index).Nodup := by rw [hx.stream]; exact hnodup
  have hm : ((x.applyMark n h.seq).stream n).missing h.seq = missing := by
    rw [Part.applyMark_missing_eq hnodup', hx.stream, hmissing]
  have hmark := Part.answered_mark hxc e h payload
  obtain ⟨hnext, hrejections, hinflight⟩ := Part.answered_entries hxc hnodup' hm e payload
  have hreports := x.answered_reports n l e h payload
  rw [Part.judgedMissing_reports hxc hm, hx.reports, hx.now] at hreports
  rw [hx.stream] at hmark hnext hinflight
  refine ⟨_, hexec, hmark, hinflight, hrejections, hnext, fun m hne => ?others, hreports, fun hk => ⟨?completions, fun hnone => ?log⟩,
    fun hnone => ?found, fun hyes => ?rewound⟩
  case others => rw [Part.answered_stream, if_neg hne, Part.judgedMissing_stream_of_ne hxc hne, hx.stream]
  case completions => rw [Part.answered_completions_of_write _ _ _ hk, hx.completions]
  case log =>
    have hmute := Part.judgedMissing_mute (hm.trans hnone)
    have hseen : ((x.judgedMissing n h.seq).stream n).rejections = (p.stream n).rejections := by
      rw [Part.judgedMissing_of_none (hm.trans hnone), Part.applyMark_stream, if_pos rfl, hx.stream]
    rw [Part.answered_log (hmute.unwatched hxu) l (by rw [hk]; decide) payload, hseen, hmute.log hxu, hx.log hu, hx.timeCounter]
  case found =>
    rw [Part.answered_stream_self hnodup' (hm.trans hnone), hx.stream]
    exact ⟨hbound, ha.carrier, rfl⟩
  case rewound =>
    have hspec := Part.answered_rewound hxu hxc hnodup' (hm.trans hyes) e payload
    rw [hx.stream, hx.eligible, hx.log hu, hx.timeCounter] at hspec
    exact hspec

end Sys2Proof.Machine
end

section
/-! The end of a drain and the restart that waited for it (O19). -/

namespace Sys2Proof.Machine

/-! ### The end of a drain (R135) -/

section
variable {p : Part} {n : StreamId} {m : Move} (hm : (p.stream n).move = some m)

/-- The choice that the end of a drain makes (R108, R135). -/
def Part.drainChoice (p : Part) (n : StreamId) (m : Move) : Option Lane :=
  p.choose (p.stream n).preferred (p.stream n).tried m.kind

include hm

theorem Part.endDrain_eq : p.endDrain n =
    ((p.modStream n (fun r => { r with move := some m.over })).bind n m.kind).migrated n m.left := by
  unfold Part.endDrain
  rw [hm]

theorem Part.endDrain_stream_self : (p.endDrain n).stream n =
    ({ p.stream n with move := some m.over } : StreamRec).rebound p.now m.kind p.stallEnd (p.drainChoice n m) := by
  rw [Part.endDrain_eq hm, Part.migrated_stream, Part.modStream_bind_stream_self]
  rfl

theorem Part.endDrain_stream_of_ne {o : StreamId} (h : o ≠ n) : (p.endDrain n).stream o = p.stream o := by
  rw [Part.endDrain_eq hm, Part.migrated_stream, Part.modStream_bind_stream_of_ne _ h]

theorem Part.endDrain_queue_own (g : Lane) : ((p.endDrain n).lane g).queue.filter (fun f => f.isOf n) =
    if p.drainChoice n m = some g then [p.nextAsk n] else [] := by
  have hchoose : (p.modStream n (fun r => { r with move := some m.over })).chooseFor n m.kind = p.drainChoice n m := by
    rw [Part.chooseFor, Part.modStream_stream_self, (p.streamsOnly_modStream n _).choose]
    rfl
  have hask : (p.modStream n (fun r => { r with move := some m.over })).nextAsk n = p.nextAsk n := by
    unfold Part.nextAsk
    rw [Part.modStream_stream_self]
    rfl
  rw [Part.endDrain_eq hm, Part.lane, Part.migrated_lanes]
  refine (Part.bind_queue_own _ n m.kind g).trans ?_
  rw [hchoose, hask]

/-- The log of the end of a drain that leaves nothing in flight (R125, R135, R138, R140; log entry 10). -/
theorem Part.endDrain_log (hu : p.unwatched) (hin : (p.stream n).inflight = []) : (p.endDrain n).log =
    match p.drainChoice n m with
    | some g => if g = m.left then p.log
      else p.log.take .streamMigrated (some g) (some n) (bytePair m.left.code g.code) p.timeCounter
    | none =>
      let log := p.log.take .moveAbandoned none (some n) (bytePair (laneByteOf m.target) 255) p.timeCounter
      if (p.stream n).stallDeadline = none then log.take .streamStalled none (some n) 0 p.timeCounter else log := by
  have honly := p.streamsOnly_modStream n (fun r => { r with move := some m.over })
  have hself := p.modStream_stream_self n (fun r => { r with move := some m.over })
  have hlog : (p.modStream n (fun r => { r with move := some m.over })).log = p.log := rfl
  have hchoose : (p.modStream n (fun r => { r with move := some m.over })).chooseFor n m.kind = p.drainChoice n m := by
    rw [Part.chooseFor, hself, honly.choose]
    rfl
  have htime : (p.modStream n (fun r => { r with move := some m.over })).timeCounter = p.timeCounter := rfl
  rw [Part.endDrain_eq hm]
  generalize p.modStream n (fun r => { r with move := some m.over }) = q at *
  have hbound := Part.bind_log (hu.of_params honly.params) n m.kind
  have hcarrier : ((q.bind n m.kind).stream n).carrier = p.drainChoice n m := by
    rw [Part.bind_stream_self, StreamRec.rebound_carrier, hchoose]
  have hafter : (q.bind n m.kind).timeCounter = p.timeCounter := by
    rw [← htime, Part.timeCounter, (q.streamsOnly_bind n m.kind).now]
    rfl
  rw [hchoose] at hbound
  unfold Part.migrated
  rw [hcarrier]
  cases hfound : p.drainChoice n m with
  | some g =>
    rw [hfound, if_neg (Option.some_ne_none g), hlog] at hbound
    dsimp only
    by_cases hg : g = m.left
    · rw [if_pos hg, if_pos hg, hbound]
    · rw [if_neg hg, if_neg hg, Part.event_log, hbound, hafter]
  | none =>
    rw [hfound, if_pos rfl] at hbound
    dsimp only
    rw [hbound, Part.stallLog, hself, hlog, htime]
    dsimp only
    rw [hin]
    rfl

/-- The stream and its ASK once a drain has ended (R114, R125, R135, R138). -/
theorem Part.endDrain_spec (hin : (p.stream n).inflight = []) :
    ((p.endDrain n).stream n).epoch = (p.stream n).epoch + 1 ∧ ((p.endDrain n).stream n).nextSeq = (p.stream n).nextSeq ∧
    ((p.endDrain n).stream n).inflight = [] ∧ ((p.endDrain n).stream n).hold = (p.stream n).hold ∧
    ((p.endDrain n).stream n).carrier = p.drainChoice n m ∧
    match p.drainChoice n m with
    | some _ => ((p.endDrain n).stream n).state = .binding ∧ ((p.endDrain n).stream n).askAttempts = 1 ∧
      ((p.endDrain n).stream n).move = some { m with drain := .absent }
    | none => ((p.endDrain n).stream n).state = .stalled ∧ ((p.endDrain n).stream n).askAttempts = 0 ∧
      ((p.endDrain n).stream n).move = none := by
  rw [Part.endDrain_stream_self hm]
  refine ⟨by simp, by simp, by simp [hin], by simp, by simp, ?_⟩
  cases p.drainChoice n m with
  | some g =>
    exact ⟨rfl, rfl, StreamRec.rebound_move_final (r := { p.stream n with move := some m.over }) (m := m.over) rfl rfl _ _ _ _⟩
  | none => exact ⟨rfl, rfl, rfl⟩

end

/-! ### The restart that waited (R87) -/

theorem Part.judgeRestarts_of_only {p : Part} {l : Lane} (h : ∀ g, g ≠ l → (p.lane g).restartPending = false) :
    p.judgeRestarts = p.judgeRestart l := by
  have hafter : ∀ g, g ≠ l → ((p.judgeRestart l).lane g).restartPending = false := fun g hg => by
    unfold Part.judgeRestart
    split
    · next hc => rw [p.restartLane_lane_eq hc.2 hg]; exact h g hg
    · exact h g hg
  have hstay : ∀ g, g ≠ l → p.judgeRestart g = p := fun g hg => Part.judgeRestart_of_not (h g hg)
  have hdone : ∀ g, g ≠ l → (p.judgeRestart l).judgeRestart g = p.judgeRestart l := fun g hg =>
    Part.judgeRestart_of_not (hafter g hg)
  unfold Part.judgeRestarts
  cases l with
  | a0 => rw [hdone .a1 (by decide), hdone .b0 (by decide), hdone .b1 (by decide)]
  | a1 => rw [hstay .a0 (by decide), hdone .b0 (by decide), hdone .b1 (by decide)]
  | b0 => rw [hstay .a0 (by decide), hstay .a1 (by decide), hdone .b1 (by decide)]
  | b1 => rw [hstay .a0 (by decide), hstay .a1 (by decide), hstay .b0 (by decide)]

theorem Part.restartLane_lane_self (p : Part) (l : Lane) :
    ((p.restartLane l).lane l).state = .quiet ∧ ((p.restartLane l).lane l).restartPending = false := by
  rw [Part.restartLane, p.enterQuiet_lane_self l (laneEvent_lanes _ _ _)]
  exact ⟨rfl, rfl⟩

/-- A lane that restarts beside a lane in service logs LANE_RESTARTED alone (R67, R104). -/
theorem Part.restartLane_log {p : Part} {l : Lane} (hfree : p.carries l = false)
    (hsibling : (p.lane l.sibling).state.inService = true) (hside : (p.side l.side).state ≠ .lost) :
    (p.restartLane l).log = p.log.take .laneRestarted (some l) none 0 p.timeCounter := by
  have hnone := (p.carries_eq_false_iff l).1 hfree
  unfold Part.restartLane Part.enterQuiet Part.changeLane
  dsimp only
  generalize hq : p.moveLane l .quiet _ _ = q
  have hmove : ∀ n, q.stream n = p.stream n := fun n => hq ▸ p.moveLane_stream l .quiet _ (laneEvent_stream .laneRestarted l 0) n
  rw [(q.streamsTake_of_not_carried l _ .quiet (by decide) fun n => by rw [hmove n]; exact hnone n).log, ← hq, Part.moveLane]
  generalize hr : laneEvent .laneRestarted l 0 _ = r
  have hself : (r.lane l).state = .quiet := by
    rw [← hr, Part.lane, laneEvent_lanes]
    exact (congrArg LaneRec.state (p.modLane_lane_self l _)).trans rfl
  have hother : r.lane l.sibling = p.lane l.sibling := by
    rw [← hr, Part.lane, laneEvent_lanes]
    exact p.modLane_lane_of_ne (Lane.sibling_ne l) _
  have hderived : r.derivedSide l.side = .impaired := by
    rw [Part.derivedSide_of_out (by rw [hself]; rfl), hother, hsibling]
    rfl
  have hsides : r.side l.side = p.side l.side := by rw [← hr]; rfl
  have hlog : r.log = p.log.take .laneRestarted (some l) none 0 p.timeCounter := by rw [← hr]; rfl
  rw [Part.sideTakes_log, hderived, hsides, if_neg fun hc => absurd hc.2 (by decide), if_neg fun hc => hside hc.1, hlog]

/-! ### A DRAINING stream whose last entry is answered (R36, R135) -/

theorem Part.afterAnswer_of_drained {p : Part} {n : StreamId} (hs : (p.stream n).state = .draining)
    (hi : (p.stream n).inflight = []) (k : Nat) : p.afterAnswer n k = (p.serve.endDrain n).settle := by
  have hready : p.headReady n = false := Bool.eq_false_iff.2 fun hr => by
    have hbound := ((p.headReady_iff n).1 hr).1
    rw [hs] at hbound
    cases hbound
  have hserved : p.serve.stream n = p.stream n := (p.serve_dispatched n).away (by rw [hs]; decide)
  rw [Part.afterAnswer, Part.dispatchHeld_of_stops (.inl hready), Part.judgeReplay_of_not (by rw [hserved, hs]; decide),
    Part.judgeDrain, if_pos (by rw [hserved]; exact ⟨hs, hi⟩)]

theorem Part.EngineWork.choose {p q : Part} (h : p.EngineWork q) (preferred : Lane) (tried : LaneSet) (kind : BindingKind) :
    q.choose preferred tried kind = p.choose preferred tried kind := by
  have heligible : q.eligible tried kind.excluded = p.eligible tried kind.excluded := funext fun m => by
    unfold Part.eligible
    rw [h.lane m]
  have hstate : ∀ m, (q.lane m).state = (p.lane m).state := fun m => by rw [h.lane m]
  have hside : ∀ d, q.side d = p.side d := fun d => Part.sides_side h.sides d
  unfold Part.choose Part.ranked
  simp only [heligible, hstate, hside]

/-- The kind of the binding that ends a drain, by the cause of its move (R108, R135). -/
theorem Move.kind_eq (m : Move) : m.kind = ⟨m.target, if m.cause = .returning then none else some m.left⟩ := by
  unfold Move.kind
  cases m.cause <;> rfl

end Sys2Proof.Machine
end

section
/-! O19. -/

namespace Sys2Proof.Machine

/-! ### The last ANSWER of a drain (R36, R87, R135) -/

/-- The part once the last ANSWER of a DRAINING stream is taken, before its drain ends. -/
structure Part.LastAnswered (p y : Part) (n : StreamId) (h : Header) (e : OttEntry) : Prop where
  own : y.stream n = { p.stream n with mark := (y.stream n).mark, inflight := [], rejections := h.rejections }
  others : ∀ o, o ≠ n → (y.stream o).carrier = (p.stream o).carrier
  choose : ∀ preferred tried kind, y.choose preferred tried kind = p.choose preferred tried kind
  lane : ∀ g, (y.lane g).state = (p.lane g).state ∧ (y.lane g).restartPending = (p.lane g).restartPending
  side : ∀ d, y.side d = p.side d
  service : y.intake.service = p.intake.service
  params : y.params = p.params
  timeCounter : y.timeCounter = p.timeCounter
  log : p.unwatched → e.kind = .read → (p.stream n).rejections = h.rejections → y.log = p.log

theorem Part.accepts.drained {p : Part} {l : Lane} {h : Header} {n : StreamId} (ha : p.accepts l h n)
    (hs : (p.stream n).state = .draining) {e : OttEntry} (he : (p.stream n).entryAt h.seq = some e)
    (hnodup : ((p.stream n).inflight.map OttEntry.index).Nodup) (hleft : (p.stream n).leftBy e h.seq = [])
    (payload : List Byte) (w : List Instr) : ∃ y, p.LastAnswered y n h e ∧
      exec (.receiveAnswer l h payload false) ⟨p, w⟩ = .next ⟨(y.endDrain n).settle, w⟩ := by
  obtain ⟨x, hx, hexec⟩ := ha.matched (by rw [hs]; rfl) he payload w
  have hnodup' : ((x.stream n).inflight.map OttEntry.index).Nodup := by rw [hx.stream]; exact hnodup
  have hnone : ((x.applyMark n h.seq).stream n).missing h.seq = false := by
    rw [Part.applyMark_missing_eq hnodup', hx.stream]
    exact StreamRec.none_missing_of_leftBy hnodup he hleft
  have hself := Part.answered_stream_self hnodup' hnone l e payload
  have hothers : ∀ o, o ≠ n → (x.answered n l e h payload).stream o = p.stream o := fun o ho => by
    rw [Part.answered_stream, if_neg ho, Part.judgedMissing_stream_of_ne (by rw [hx.stream]; exact ha.carrier) ho, hx.stream]
  have hlog := fun hu hread => hx.answered_log hu (n := n) (h := h) hnone l (e := e) hread payload
  have hwork := x.engineWork_answered n l e h payload
  rw [hx.stream, hleft] at hself
  generalize x.answered n l e h payload = a at *
  have hstate : (a.stream n).state = .draining := by rw [hself]; exact hs
  have hdisp := a.serve_dispatched
  have hserve := a.streamsOnly_serve
  have hall := hwork.trans hserve.work
  rw [Part.afterAnswer_of_drained hstate (by rw [hself])] at hexec
  refine ⟨a.serve, ⟨?own, fun o ho => ?others, fun _ _ _ => (hall.choose _ _ _).trans (hx.choose _ _ _), fun g => ?lane, fun d => ?side,
    ?service, hall.params.trans hx.params, hall.timeCounter.trans hx.timeCounter, fun hu hread hsame => ?log⟩, hexec⟩
  case own => rw [(hdisp n).away (by rw [hstate]; decide), hself]
  case others => rw [(hdisp o).rest, hothers o ho]
  case lane =>
    rw [hall.lane g, hx.lane g]
    exact ⟨rfl, rfl⟩
  case side => rw [Part.sides_side hall.sides, hx.side]
  case service => rw [hall.intake, hx.intake]
  case log =>
    have hau : a.unwatched := hwork.unwatched (hx.unwatched hu)
    rw [Part.serve_log hau, hlog hu hread hsame]

section
variable {p y : Part} {n : StreamId} {h : Header} {e : OttEntry} (hy : p.LastAnswered y n h e)
include hy

/-- The choice, once the last ANSWER is taken, is the one that the part before it makes (R108, R135). -/
theorem Part.LastAnswered.drainChoice (m : Move) : y.drainChoice n m = p.drainChoice n m := by
  rw [Part.drainChoice, hy.choose, hy.own]
  rfl

/-- A lane about to restart that carried no other stream carries none once the drain has ended (R87, R109). -/
theorem Part.LastAnswered.carries {m : Move} {l : Lane} (hm : (p.stream n).move = some m)
    (hpending : (p.lane l).restartPending = true) (hfree : ∀ o, o ≠ n → (p.stream o).carrier ≠ some l) :
    (y.endDrain n).carries l = false := by
  have hmove : (y.stream n).move = some m := by rw [hy.own]; exact hm
  rw [Part.carries_eq_false_iff]
  intro o
  by_cases ho : o = n
  · rw [ho, Part.endDrain_stream_self hmove, StreamRec.rebound_carrier, hy.drainChoice]
    intro hl
    have heligible : p.eligible (p.stream n).tried m.kind.excluded l = true := p.choose_eligible _ _ _ _ hl
    unfold Part.eligible at heligible
    rw [hpending] at heligible
    simp at heligible
  · rw [Part.endDrain_stream_of_ne hmove ho, hy.others o ho]
    exact hfree o ho

/-- The lane whose restart waited restarts at the end of the event (R87). -/
theorem Part.LastAnswered.restarts {m : Move} {l : Lane} (hm : (p.stream n).move = some m)
    (hothers : ∀ g, g ≠ l → (p.lane g).restartPending = false) (hpending : (p.lane l).restartPending = true)
    (hfree : ∀ o, o ≠ n → (p.stream o).carrier ≠ some l) : (y.endDrain n).judgeRestarts = (y.endDrain n).restartLane l := by
  have hlane : ∀ g, ((y.endDrain n).lane g).restartPending = (p.lane g).restartPending := fun g => by
    rw [(y.streamsOnly_endDrain n).lane g]
    exact (hy.lane g).2
  rw [Part.judgeRestarts_of_only (l := l) fun g hg => (hlane g).trans (hothers g hg)]
  exact if_pos ⟨(hlane l).trans hpending, hy.carries hm hpending hfree⟩

end

theorem answerCounts_drain (p : Part) (w : List Instr) (l : Lane) (h : Header) (payload : List Byte) (e : OttEntry)
    (n : StreamId) (m : Move) (ha : p.accepts l h n) (hu : p.unwatched)
    (hothers : ∀ g, g ≠ l → (p.lane g).restartPending = false) (hs : (p.stream n).state = .draining)
    (hm : (p.stream n).move = some m) (he : (p.stream n).entryAt h.seq = some e)
    (hnodup : ((p.stream n).inflight.map OttEntry.index).Nodup) (hleft : (p.stream n).leftBy e h.seq = []) :
    ∃ p', exec (.receiveAnswer l h payload false) ⟨p, w⟩ = .next ⟨p', w⟩ ∧
      (p'.stream n).epoch = (p.stream n).epoch + 1 ∧ (p'.stream n).nextSeq = (p.stream n).nextSeq ∧
      (p'.stream n).inflight = [] ∧ (p'.stream n).hold = (p.stream n).hold ∧
      (match p.drainChoice n m with
      | some g => (p'.stream n).state = .binding ∧ (p'.stream n).carrier = some g ∧ (p'.stream n).askAttempts = 1 ∧
        (p'.stream n).move = some { m with drain := .absent } ∧ ∃ f,
        (p'.lane g).queue.filter (fun x => x.isOf n) = [f] ∧ f.kind = .ask ∧
        f.header.epoch = (p.stream n).epoch + 1 ∧ f.header.seq = (p.stream n).nextSeq ∧
        f.header.mark = (p.stream n).nextSeq
      | none => (p'.stream n).state = .stalled ∧ (p'.stream n).carrier = none ∧ (p'.stream n).askAttempts = 0 ∧
        (p'.stream n).move = none) ∧
      ((p.lane l).restartPending = true → (∀ o, o ≠ n → (p.stream o).carrier ≠ some l) →
        (p'.lane l).state = .quiet ∧ (p'.lane l).restartPending = false) ∧
      (e.kind = .read → (p.stream n).rejections = h.rejections → p.intake.service ≠ .quiescing → ∃ log,
        log = (match p.drainChoice n m with
          | some g => if g = m.left then p.log
            else p.log.take .streamMigrated (some g) (some n) (bytePair m.left.code g.code) p.timeCounter
          | none =>
            let log := p.log.take .moveAbandoned none (some n) (bytePair (laneByteOf m.target) 255) p.timeCounter
            if (p.stream n).stallDeadline = none then log.take .streamStalled none (some n) 0 p.timeCounter else log) ∧
        ((p.lane l).restartPending = false → p'.log = log) ∧
        ((p.lane l).restartPending = true → (∀ o, o ≠ n → (p.stream o).carrier ≠ some l) →
          ((p.lane l.sibling).state = .active ∨ (p.lane l.sibling).state = .degraded) →
          (p.side l.side).state ≠ .lost → p'.log = log.take .laneRestarted (some l) none 0 p.timeCounter)) := by
  obtain ⟨y, hy, hexec⟩ := ha.drained hs he hnodup hleft payload w
  have hmove : (y.stream n).move = some m := by rw [hy.own]; exact hm
  have hin : (y.stream n).inflight = [] := by rw [hy.own]
  obtain ⟨hepoch, hnext, hinflight, hhold, hcarrier, houtcome⟩ := Part.endDrain_spec hmove hin
  have hlog := Part.endDrain_log hmove (hu.of_params hy.params) hin
  have hqueue := Part.endDrain_queue_own hmove
  have hask : (y.nextAsk n).header.epoch = (p.stream n).epoch + 1 ∧ (y.nextAsk n).header.seq = (p.stream n).nextSeq ∧
      (y.nextAsk n).header.mark = (p.stream n).nextSeq := by
    unfold Part.nextAsk StreamRec.oldest
    rw [hin, hy.own]
    exact ⟨rfl, rfl, rfl⟩
  have hrestarts := fun hp hf => hy.restarts (l := l) hm hothers hp hf
  have hfree := fun hp hf => hy.carries (l := l) hm hp hf
  have honly := y.streamsOnly_endDrain n
  have hsettled := (y.endDrain n).settle_stream n
  have hkept : (y.stream n).epoch = (p.stream n).epoch ∧ (y.stream n).nextSeq = (p.stream n).nextSeq ∧
      (y.stream n).hold = (p.stream n).hold ∧ (y.stream n).stallDeadline = (p.stream n).stallDeadline := by
    rw [hy.own]
    exact ⟨rfl, rfl, rfl, rfl⟩
  rw [hy.drainChoice, hkept.2.2.2, hy.timeCounter] at hlog
  rw [hy.drainChoice] at hcarrier houtcome
  simp only [hy.drainChoice] at hqueue
  rw [hkept.1] at hepoch
  rw [hkept.2.1] at hnext
  rw [hkept.2.2.1] at hhold
  generalize hc : y.endDrain n = c at *
  refine ⟨_, hexec, by rw [hsettled]; exact hepoch, by rw [hsettled]; exact hnext, by rw [hsettled]; exact hinflight,
    by rw [hsettled]; exact hhold, ?outcome, fun hpending hf => ?restarted, fun hread hsame hservice => ?logged⟩
  case outcome =>
    rw [hsettled]
    generalize p.drainChoice n m = found at hcarrier houtcome hqueue
    cases found with
    | none =>
      obtain ⟨hstate, hattempts, hmoved⟩ := houtcome
      exact ⟨hstate, hcarrier, hattempts, hmoved⟩
    | some g =>
      obtain ⟨hstate, hattempts, hmoved⟩ := houtcome
      have hq := hqueue g
      rw [if_pos rfl, ← Part.settle_lane_eq hcarrier] at hq
      exact ⟨hstate, hcarrier, hattempts, hmoved, _, hq, rfl, hask.1, hask.2.1, hask.2.2⟩
  case restarted =>
    rw [Part.settle, (Part.aside_judgeQuiesce _).lane, hrestarts hpending hf]
    exact c.restartLane_lane_self l
  case logged =>
    rw [hy.log hu hread hsame] at hlog
    have hquiet : c.settle = c.judgeRestarts := Part.judgeQuiesce_of_service (by
      rw [c.laneWork_judgeRestarts.intake, honly.intake, hy.service]
      exact hservice)
    refine ⟨c.log, hlog, fun hpending => ?_, fun hpending hf hsibling hside => ?_⟩
    · rw [hquiet, Part.judgeRestarts_of_none fun g => ?_]
      rw [honly.lane g]
      refine (hy.lane g).2.trans ?_
      by_cases hg : g = l
      · rw [hg]; exact hpending
      · exact hothers g hg
    · have htime : c.timeCounter = p.timeCounter := by
        rw [← hy.timeCounter, Part.timeCounter, honly.now]
        rfl
      rw [hquiet, hrestarts hpending hf, Part.restartLane_log (hfree hpending hf), htime]
      · rw [honly.lane l.sibling]
        show ((y.lane l.sibling).state).inService = true
        rw [(hy.lane l.sibling).1]
        rcases hsibling with hstate | hstate <;> rw [hstate] <;> rfl
      · rw [Part.sides_side honly.sides, hy.side]
        exact hside

/-! ### O19 -/

/-- Settles O19. -/
theorem answerCounts : Obligations.AnswerCounts := by
  refine ⟨?bound, ?drained, ?quiesced, ?sampled⟩
  case bound =>
    intro p w l h payload e n mark missing bad left hn hu hs hheld hoff hdest hepoch hc hbound he hnodup hmark hmissing hbad hleft
    subst hmark hbad hleft
    exact answerCounts_bound p w l h payload e n missing ⟨hn, hoff, hdest, hepoch, hc⟩ hu hs hheld hbound he hnodup hmissing
  case drained =>
    intro p w l h payload e n m found log hn hu hothers hoff hdest hepoch hc hs hm hml he hnodup hleft hfound hlog
    have hchoice : p.drainChoice n m = found := by rw [Part.drainChoice, Move.kind_eq, hml, hfound]
    obtain ⟨p', hexec, hep, hnext, hin, hhold, houtcome, hrestart, hlogged⟩ :=
      answerCounts_drain p w l h payload e n m ⟨hn, hoff, hdest, hepoch, hc⟩ hu hothers hs hm he hnodup hleft
    rw [hchoice] at houtcome hlogged
    refine ⟨p', hexec, hep, hnext, hin, hhold, houtcome, hrestart, fun hread hsame hservice => ?_⟩
    obtain ⟨log', hlog', hrest⟩ := hlogged hread hsame hservice
    subst hml
    have heq : log' = log := hlog'.trans hlog.symm
    rwa [heq] at hrest
  case quiesced =>
    intro p w l h payload e n hn hu hrestart hoff hdest hepoch hc hbound he hnodup hleft hhold hempty hservice hqueue htally
    exact answerCounts_quiesce p w l h payload e n ⟨hn, hoff, hdest, hepoch, hc⟩ hu hrestart hbound he hnodup hleft hhold hempty
      hservice hqueue htally
  case sampled =>
    intro p w l us bin hbin
    have hsample := answerCounts_sample p w l us
    rw [latencyBin, ← hbin] at hsample
    exact hsample

end Sys2Proof.Machine
end
